-- ==== Sys2Proof/Word.lean ====
section
/-!
DEFINITION. Number words: bytes, and the plainest arithmetic on fields of a fixed width (R6 to R8).
-/
namespace Sys2Proof

/-- A byte, the unit of every addressed buffer of the module. -/
abbrev Byte := BitVec 8

/-- The value of a `w`-bit two's complement field. -/
def signed (w v : Nat) : Int :=
  if v % 2 ^ w < 2 ^ (w - 1) then (v % 2 ^ w : Nat) else ((v % 2 ^ w : Nat) : Int) - (2 ^ w : Nat)

/-- The `w`-bit two's complement field that holds `i`, modulo `2 ^ w`. -/
def unsigned (w : Nat) (i : Int) : Nat := (i % (2 ^ w : Nat)).toNat

/-- Bit `n` of a value, as 0 or 1 (R7). -/
def bit (v n : Nat) : Nat := v / 2 ^ n % 2

/-- The field `[lsb + w - 1 : lsb]` of a value (R7). -/
def bits (v lsb w : Nat) : Nat := v / 2 ^ lsb % 2 ^ w

/-- A truth value as a one-bit field. -/
def b2n (b : Bool) : Nat := if b then 1 else 0

/-- The quotient rounded up. -/
def ceilDiv (a b : Nat) : Nat := (a + b - 1) / b

/-- `n` bytes of a value, little-endian (R8). -/
def leBytes : (n v : Nat) → List Nat
  | 0, _ => []
  | n + 1, v => v % 256 :: leBytes n (v / 256)

/-- The value of little-endian bytes (R8). -/
def leVal : List Nat → Nat
  | [] => 0
  | b :: bs => b % 256 + 256 * leVal bs

/-- `n` bytes of a value, big-endian: the order of a standard protocol header (R8). -/
def beBytes (n v : Nat) : List Nat := (leBytes n v).reverse

/-- The element at index `i` of a list, or `d` beyond its end. -/
def nth {α : Type} (d : α) (l : List α) (i : Nat) : α := l.getD i d

/-- A list with element `i` replaced through `f` (no change beyond its end). -/
def modNth {α : Type} (f : α → α) : List α → Nat → List α
  | [], _ => []
  | a :: l, 0 => f a :: l
  | a :: l, i + 1 => a :: modNth f l i

/-- The first `n` elements, padded with `d` to exactly `n`. -/
def padTo {α : Type} (d : α) : Nat → List α → List α
  | 0, _ => []
  | n + 1, [] => d :: padTo d n []
  | n + 1, a :: l => a :: padTo d n l

end Sys2Proof
end

