-- ==== Sys2Proof/Syntax.lean ====
section
/-!
DEFINITION. The commands: one constructor for each row of spec/opcode_table.json, in the table's order. The
first operand `t` of every command is the instant at which it comes, in phases of 6.25 ns counted by the
timing island from reset release (R19, R48). The other operands are what the row's step brings from outside:
written values, datagrams, measured quantities.
-/
namespace Sys2Proof

/-- A TMP request as it arrives at UDP port 4810: its source, the fields of the header of R466 (MAGIC and OP
stand in the command itself) and its payload bytes. -/
structure TmpReq where
  srcIp : Nat
  srcPort : Nat
  version : Nat := 1
  status : Nat := 0
  rsv : Nat := 0
  session : Nat := 0
  seq : Nat := 0
  addr : Nat := 0
  count : Nat := 0
  reason : Nat := 0
  payload : List Nat := []
  deriving DecidableEq, Repr, Inhabited

/-- An artefact of R119: KIND 0 stepping, 1 firmware, 2 image, 3 carrier, its identity, and IMAGE_VER of an
image (0 otherwise). -/
structure ArtId where
  kind : Nat
  id : Nat
  ver : Nat := 0
  deriving DecidableEq, Repr, Inhabited

/-- A public key held by the warden firmware (R82, R476). -/
structure KeyEnt where
  id : Nat
  key : List Nat
  revoked : Bool
  deriving DecidableEq, Repr, Inhabited

/-- What a warden firmware copy holds (R501, R121, R82, R476): version, anti-rollback epoch, the REG, REC and
SCHED declarations (epoch, oldest), the compatibility table as pairs of artefacts, and its keys. -/
structure FwDesc where
  version : Nat := 0
  arb : Nat := 0
  iface : List (Nat × Nat) := []
  compat : List (ArtId × ArtId) := []
  imageKeys : List KeyEnt := []
  custKeys : List KeyEnt := []
  factKeys : List KeyEnt := []
  deriving DecidableEq, Repr, Inhabited

/-- What the focal-plane carrier declares at discovery (R108, R119). -/
structure CarrierRead where
  rev : Nat := 0
  jesorMin : Nat := 0
  jesorMax : Nat := 0
  epoch : Nat := 0
  oldest : Nat := 0
  deriving DecidableEq, Repr, Inhabited

/-- One tile position as discovery finds it: detected or not, its identity memory readable or not, and the
256 bytes read (R108, R157). -/
structure TileRead where
  present : Bool := false
  readable : Bool := false
  bytes : List Nat := []
  deriving DecidableEq, Repr, Inhabited

/-- The converter samples of one pixel in one read track: tile, row (band row of a line tile), column, and
the codes of converters A and B in order (R17), of the front-end that carries the lane, and where one list carries both, `a2`
and `b2` those of a second front-end connected to the same source, VCS in a shadow, VCn in a return shadow (R180, R200). -/
structure PixelVideo where
  tile : Nat
  row : Nat
  col : Nat
  a : List Nat
  b : List Nat
  a2 : List Nat := []
  b2 : List Nat := []
  deriving DecidableEq, Repr, Inhabited

/-- How far a solver system had come at a cut (R340, R367): the operations completed in the order of its job, and, for a
PATTERN whose cells had gone on beyond its first incomplete column, the operations completed of each such column. -/
structure SolCut where
  sys : Nat
  ops : Nat
  cols : List (Nat × Nat) := []
  deriving DecidableEq, Repr, Inhabited

/-- The fields of a PTP message that the ordinary clock of R400 uses. -/
structure PtpMsg where
  domain : Nat := 0
  source : Nat := 0
  seq : Nat := 0
  twoStep : Bool := false
  followUp : Bool := false
  originNs : Int := 0
  rxNs : Int := 0
  correction : Int := 0
  priority1 : Nat := 0
  clockClass : Nat := 0
  accuracy : Nat := 0
  variance : Nat := 0
  priority2 : Nat := 0
  grandmaster : Nat := 0
  steps : Nat := 0
  utcOffset : Nat := 0
  logInterval : Int := 0
  deriving DecidableEq, Repr, Inhabited

/-- What phase 3 of a swap reads of one converter at one gain code (R200, R202): the trims it sets (offset in
1/16 code at ×1, gain in 2^-20), and with them set, at 0, +75 % and −75 % of full scale, the sum and the sum of
squares of 4,096 samples, and how many of all these samples clipped (R183). -/
structure TrimRead where
  gain : Nat
  b : Bool
  ofsTrim : Int
  gainTrim : Int
  s0 : Nat
  q0 : Nat
  sp : Nat
  qp : Nat
  sm : Nat
  qm : Nat
  clips : Nat := 0
  deriving DecidableEq, Repr, Inhabited

/-- The commands of the module. -/
inductive Instr where
  /-- REGISTER_WRITE (R12) -/
  | registerWrite (t sess addr v : Nat)
  /-- RESET_RELEASE (R106) -/
  | resetRelease (t : Nat)
  /-- POWER_UNIT_START (R132) -/
  | powerUnitStart (t : Nat)
  /-- WARDEN_FW_CHECK_DONE (R502) -/
  | wardenFwCheckDone (t : Nat) (accepted : Bool) (fw : FwDesc)
  /-- STORE_STAGE_DONE (R495) -/
  | storeStageDone (t : Nat)
  /-- DISCOVERY_DONE (R108) -/
  | discoveryDone (t : Nat) (carrier : CarrierRead) (tiles : List TileRead)
  /-- BASE_SET_COPY_DONE (R106) -/
  | baseSetCopyDone (t : Nat) (failed : List Nat)
  /-- BRING_IN_DONE (R106) -/
  | bringInDone (t : Nat)
  /-- MODE_RUN (R480) -/
  | modeRun (t : Nat)
  /-- RUN_START (R30) -/
  | runStart (t : Nat)
  /-- MODE_STOP (R480) -/
  | modeStop (t : Nat)
  /-- RUN_END (R30) -/
  | runEnd (t : Nat)
  /-- FRAME_BOUNDARY (R21) -/
  | frameBoundary (t : Nat)
  /-- READ_TRACK_END (R165) -/
  | readTrackEnd (t : Nat) (video : List PixelVideo)
  /-- FRAME_COMPLETE (R48) -/
  | frameComplete (t : Nat)
  /-- TIER_CHANGE (R57) -/
  | tierChange (t : Nat)
  /-- GOV_LOCKOUT_END (R58) -/
  | govLockoutEnd (t : Nat)
  /-- GOV_PREDICTION_END (R62) -/
  | govPredictionEnd (t : Nat)
  /-- VOLTAGE_STEP_SETTLED (R37) -/
  | voltageStepSettled (t : Nat)
  /-- RO_WINDOW_END (R36) -/
  | roWindowEnd (t : Nat) (counts : List Nat)
  /-- BACKLOG_OVERFLOW (R38) -/
  | backlogOverflow (t : Nat)
  /-- REF_GATE_END (R40) -/
  | refGateEnd (t : Nat) (edges : Bool) (off : Int)
  /-- REF_LOSS (R41) -/
  | refLoss (t : Nat) (shift : Int)
  /-- REF_SWITCH (R43) -/
  | refSwitch (t : Nat) (phaseStep : Int)
  /-- GOV_REF_CTRL_WRITE (R39) -/
  | govRefCtrlWrite (t v : Nat)
  /-- DLL_LOCK (R46) -/
  | dllLock (t : Nat)
  /-- DLL_LOSS_OF_LOCK (R47) -/
  | dllLossOfLock (t : Nat)
  /-- GOV_CTRL_WRITE (R56) -/
  | govCtrlWrite (t v : Nat)
  /-- GOV_THRESHOLD_WRITE (R56) -/
  | govThresholdWrite (t : Nat) (high : Bool) (v : Nat)
  /-- GOV_CLR_COUNTS (R12) -/
  | govClrCounts (t : Nat)
  /-- GOV_CLR_MIN (R12) -/
  | govClrMin (t : Nat)
  /-- IMG_VERIFY (R99) -/
  | imgVerify (t sess slot arg0 : Nat)
  /-- IMG_ACTIVATE (R102) -/
  | imgActivate (t sess slot arg0 : Nat)
  /-- IMG_WRITE_SLOT (R101) -/
  | imgWriteSlot (t sess slot arg0 arg1 : Nat)
  /-- IMG_ERASE_SLOT (R99) -/
  | imgEraseSlot (t sess slot arg0 : Nat)
  /-- IMAGE_FRAME_ARRIVAL (R83) -/
  | imageFrameArrival (t : Nat) (readOk : Bool)
  /-- ACTIVATION_QUIESCED (R102) -/
  | activationQuiesced (t : Nat)
  /-- ACTIVATION_BUILD_DONE (R102) -/
  | activationBuildDone (t : Nat)
  /-- SLOT_WRITE_READBACK_DONE (R101) -/
  | slotWriteReadbackDone (t : Nat) (same : Bool)
  /-- IMG_STAGE_LEN_WRITE (R94) -/
  | imgStageLenWrite (t v : Nat)
  /-- IMG_STAGE_CLEAR (R94) -/
  | imgStageClear (t : Nat)
  /-- GOLDEN_UNLOCK (R86) -/
  | goldenUnlock (t sess : Nat)
  /-- IMG_PRIMARY_WRITE (R89) -/
  | imgPrimaryWrite (t v : Nat)
  /-- FALLBACK_CLEAR (R91) -/
  | fallbackClear (t : Nat)
  /-- IMGLOAD (R96) -/
  | imgload (t : Nat)
  /-- TESTPORT_FRAME (R96) -/
  | testportFrame (t : Nat) (frame : List Nat)
  /-- IMGSTAT (R97) -/
  | imgstat (t : Nat)
  /-- IDCODE (R546) -/
  | idcode (t : Nat)
  /-- SAMPLE_PRELOAD (R547) -/
  | samplePreload (t pins : Nat)
  /-- EXTEST (R547) -/
  | extest (t : Nat)
  /-- BYPASS (R95) -/
  | bypass (t opcode : Nat)
  /-- TEST_LOGIC_RESET (R547) -/
  | testLogicReset (t : Nat)
  /-- VREF_T_LOSS (R545) -/
  | vrefTLoss (t : Nat)
  /-- TILE_BIND (R115) -/
  | tileBind (t sess slot pos serLo serHi arg3 : Nat) (tile : TileRead)
  /-- QUAR_OVERRIDE (R123) -/
  | quarOverride (t sess : Nat)
  /-- SETTLING_CHECK (R128) -/
  | settlingCheck (t : Nat)
  /-- SETTLING_TIMEOUT (R128) -/
  | settlingTimeout (t : Nat)
  /-- AC_INPUT_LOST (R130) -/
  | acInputLost (t : Nat)
  /-- AC_RETURN (R131) -/
  | acReturn (t : Nat)
  /-- AC_OVERVOLTAGE (R130) -/
  | acOvervoltage (t vrms : Nat)
  /-- DC_INPUT_LOST (R130) -/
  | dcInputLost (t : Nat)
  /-- INPUT_IN_RANGE (R130) -/
  | inputInRange (t : Nat) (ac : Bool)
  /-- PFW_RAISE (R134) -/
  | pfwRaise (t : Nat)
  /-- PFW_CLEAR (R135) -/
  | pfwClear (t : Nat)
  /-- RAILS_FALL (R138) -/
  | railsFall (t : Nat)
  /-- PWR_TARGET_WRITE (R141) -/
  | pwrTargetWrite (t v : Nat)
  /-- DESCENT_DRAIN_END (R142) -/
  | descentDrainEnd (t : Nat)
  /-- LADDER_STEP_DONE (R139) -/
  | ladderStepDone (t : Nat)
  /-- BLACK_EXIT (R145) -/
  | blackExit (t : Nat) (advance : Nat) (imageOk : Bool)
  /-- TRIGGER_WAKE (R144) -/
  | triggerWake (t input : Nat)
  /-- EPOCH_COMMIT (R170) -/
  | epochCommit (t v : Nat)
  /-- EPOCH_APPLY (R171) -/
  | epochApply (t : Nat)
  /-- FPL_GEOM_WRITE (R159) -/
  | fplGeomWrite (t addr v : Nat)
  /-- ILV_WINDOW_CLOSE (R193) -/
  | ilvWindowClose (t fe : Nat)
  /-- ILV_SOLVE_DONE (R194) -/
  | ilvSolveDone (t fe : Nat)
  /-- ILV_SET_APPLY (R191) -/
  | ilvSetApply (t fe : Nat)
  /-- ILV_SOLVE_LATE (R375) -/
  | ilvSolveLate (t fe : Nat)
  /-- SPARE_SLOT_DUE (R198) -/
  | spareSlotDue (t : Nat)
  /-- SPARE_POSTPONED_START (R212) -/
  | sparePostponedStart (t : Nat)
  /-- SPARE_SHADOW_DONE (R204): the samples of the lane's carrier, and of the second front-end at the same pixels -/
  | spareShadowDone (t : Nat) (own other : List PixelVideo)
  /-- SPARE_TRIM_DONE (R203) -/
  | spareTrimDone (t : Nat) (reads : List TrimRead)
  /-- SPARE_RETURN_SHADOW_DONE (R203): the samples as for SPARE_SHADOW_DONE -/
  | spareReturnShadowDone (t : Nat) (own other : List PixelVideo)
  /-- VCS_TRIM_DONE (R207) -/
  | vcsTrimDone (t : Nat) (reads : List TrimRead)
  /-- SPARE_RELEASE (R209) -/
  | spareRelease (t : Nat)
  /-- VFE_CLR_CLIP (R183) -/
  | vfeClrClip (t : Nat)
  /-- VFE_CLR_SPARE (R206) -/
  | vfeClrSpare (t : Nat)
  /-- COR_OUTPUT_WRITE (R231) -/
  | corOutputWrite (t addr v : Nat)
  /-- COR_CLR_COUNTS (R12) -/
  | corClrCounts (t : Nat)
  /-- COEF_ECC_ERROR (R235) -/
  | coefEccError (t tile row col : Nat)
  /-- SHUTTER_PERIOD_DUE (R252) -/
  | shutterPeriodDue (t : Nat)
  /-- SHUTTER_CYCLE_START (R252) -/
  | shutterCycleStart (t : Nat)
  /-- PADDLE_CLOSED (R253) -/
  | paddleClosed (t : Nat)
  /-- SHUTTER_SETTLE_END (R253) -/
  | shutterSettleEnd (t : Nat)
  /-- SHUTTER_AVERAGE_END (R253) -/
  | shutterAverageEnd (t : Nat)
  /-- PADDLE_OPENED (R253) -/
  | paddleOpened (t : Nat)
  /-- SHUTTER_RESUME_END (R254) -/
  | shutterResumeEnd (t : Nat)
  /-- SHUTTER_UPDATE_COMMIT (R256) -/
  | shutterUpdateCommit (t : Nat)
  /-- PADDLE_CLOSE_TIMEOUT (R255) -/
  | paddleCloseTimeout (t : Nat)
  /-- PADDLE_OPEN_TIMEOUT (R255) -/
  | paddleOpenTimeout (t : Nat)
  /-- PADDLE_OPEN_RETRY (R255) -/
  | paddleOpenRetry (t : Nat)
  /-- SHUTTER_RETRY_TIMER (R255) -/
  | shutterRetryTimer (t : Nat)
  /-- CAL_SHUT_NOW (R252) -/
  | calShutNow (t : Nat)
  /-- CAL_SHUT_NOW_TWO_PT (R259) -/
  | calShutNowTwoPt (t : Nat)
  /-- CAL_SHUT_RESET (R255) -/
  | calShutReset (t : Nat)
  /-- PADDLE_HEAT_STABLE (R259) -/
  | paddleHeatStable (t : Nat)
  /-- PADDLE_HEAT_TIMEOUT (R259) -/
  | paddleHeatTimeout (t : Nat)
  /-- DRIFT_REFIT_DONE (R267) -/
  | driftRefitDone (t : Nat)
  /-- CALGEN_APPLY (R242) -/
  | calgenApply (t : Nat)
  /-- CAL_CHARACTERISE (R270) -/
  | calCharacterise (t sess slot arg0 arg1 arg2 arg3 : Nat)
  /-- CAL_CHAR_GO (R271) -/
  | calCharGo (t : Nat)
  /-- CAL_CHAR_FIT (R272) -/
  | calCharFit (t : Nat)
  /-- CHAR_POINT_STABLE (R271) -/
  | charPointStable (t : Nat)
  /-- CHAR_POINT_DONE (R271) -/
  | charPointDone (t : Nat)
  /-- CHAR_POINT_TIMEOUT (R271) -/
  | charPointTimeout (t : Nat)
  /-- CHAR_FIT_DONE (R274) -/
  | charFitDone (t : Nat)
  /-- CAL_REVERT (R277) -/
  | calRevert (t sess slot arg0 : Nat)
  /-- BANK_WRITE_DONE (R249) -/
  | bankWriteDone (t : Nat) (same : Bool)
  /-- ENCODER_COUNT (R279) -/
  | encoderCount (t : Nat) (up : Bool)
  /-- LINE_BOUNDARY (R287) -/
  | lineBoundary (t : Nat)
  /-- ENCODER_QERR (R282) -/
  | encoderQerr (t : Nat)
  /-- ENCODER_SIGNAL_LOSS (R282) -/
  | encoderSignalLoss (t : Nat)
  /-- ENCODER_SIGNAL_RESTORED (R282) -/
  | encoderSignalRestored (t : Nat)
  /-- ENCODER_INDEX (R279, R283): a change of the level of I is accepted -/
  | encoderIndex (t : Nat)
  /-- ENCODER_ZERO (R283) -/
  | encoderZero (t : Nat)
  /-- SWP_LINE_CPL_WRITE (R284) -/
  | swpLineCplWrite (t v : Nat)
  /-- SCAN_ARM (R291) -/
  | scanArm (t : Nat)
  /-- SCAN_START (R291) -/
  | scanStart (t : Nat)
  /-- SCAN_END_CMD (R293) -/
  | scanEndCmd (t : Nat)
  /-- SCAN_END (R293) -/
  | scanEnd (t : Nat)
  /-- OUTPUT_LINE_EMIT (R297) -/
  | outputLineEmit (t : Nat)
  /-- SWP_CLR_COUNTS (R12) -/
  | swpClrCounts (t : Nat)
  /-- STRIP_COMPUTE_START (R307) -/
  | stripComputeStart (t : Nat)
  /-- STRIP_PASS_COMMIT (R310) -/
  | stripPassCommit (t : Nat)
  /-- REF_HEATER_TIMEOUT (R305) -/
  | refHeaterTimeout (t : Nat)
  /-- HEATER_OVERCURRENT (R544) -/
  | heaterOvercurrent (t : Nat) (bright : Bool)
  /-- HEATER_RESTART (R544) -/
  | heaterRestart (t : Nat) (bright : Bool)
  /-- EDGE_FIT_DONE (R321) -/
  | edgeFitDone (t : Nat)
  /-- SCAN_RECORD (R324) -/
  | scanRecord (t : Nat)
  /-- SOL_RUN (R363) -/
  | solRun (t sess slot arg0 arg1 arg2 arg3 : Nat)
  /-- SOL_SYSTEM_END (R357) -/
  | solSystemEnd (t sys : Nat) (ecc : Bool)
  /-- SOL_DEADLINE (R367) -/
  | solDeadline (t : Nat) (cuts : List SolCut)
  /-- SOL_BATCH_COMMIT (R371) -/
  | solBatchCommit (t : Nat)
  /-- SOL_CLR_COUNTS (R12) -/
  | solClrCounts (t : Nat)
  /-- TRIGGER_EDGE (R388) -/
  | triggerEdge (t input : Nat)
  /-- FIL_SYNC_RESET (R382) -/
  | filSyncReset (t : Nat)
  /-- FIL_SYNC_CTRL_WRITE (R383) -/
  | filSyncCtrlWrite (t v : Nat)
  /-- TIME_SET (R392) -/
  | timeSet (t : Nat)
  /-- TOD_SRC_WRITE (R393) -/
  | todSrcWrite (t v : Nat)
  /-- PPS_EDGE (R401) -/
  | ppsEdge (t : Nat)
  /-- PTP_SYNC (R400) -/
  | ptpSync (t : Nat) (msg : PtpMsg)
  /-- PTP_ANNOUNCE (R400) -/
  | ptpAnnounce (t : Nat) (msg : PtpMsg)
  /-- PTP_DELAY_RESP (R400) -/
  | ptpDelayResp (t : Nat) (msg : PtpMsg)
  /-- PTP_DELAY_REQ_SEND (R400) -/
  | ptpDelayReqSend (t : Nat)
  /-- PTP_SOURCE_LOSS (R400) -/
  | ptpSourceLoss (t : Nat)
  /-- PPS_SOURCE_LOSS (R401) -/
  | ppsSourceLoss (t : Nat)
  /-- TIME_STEP (R394) -/
  | timeStep (t : Nat)
  /-- HOLDOVER_LIMIT (R396) -/
  | holdoverLimit (t : Nat)
  /-- MON_CYCLE_START (R407) -/
  | monCycleStart (t : Nat)
  /-- MON_ENTRY_COMPLETE (R408) -/
  | monEntryComplete (t : Nat) (codes : List Nat)
  /-- MON_INJECT_TRIGGER (R415) -/
  | monInjectTrigger (t src : Nat)
  /-- MON_INJ_GO (R414) -/
  | monInjGo (t : Nat)
  /-- MON_INJECTED_DONE (R415) -/
  | monInjectedDone (t : Nat)
  /-- MON_CALIBRATE (R423) -/
  | monCalibrate (t : Nat)
  /-- MON_SELF_CAL_DONE (R422) -/
  | monSelfCalDone (t : Nat) (points : List (Nat × Nat))
  /-- MON_SEQ_APPLY (R419) -/
  | monSeqApply (t : Nat)
  /-- MON_SEQ_TAKE_EFFECT (R419) -/
  | monSeqTakeEffect (t : Nat)
  /-- MON_ALARM_WRITE (R425) -/
  | monAlarmWrite (t addr v : Nat)
  /-- MON_CLR_COUNTS (R12) -/
  | monClrCounts (t : Nat)
  /-- MON_INPUT_STARVED (R427) -/
  | monInputStarved (t input : Nat)
  /-- OVERTEMP_TRIP (R424) -/
  | overtempTrip (t : Nat)
  /-- OVERTEMP_RELEASE (R424) -/
  | overtempRelease (t : Nat)
  /-- PLUGGABLE_INSERT (R429) -/
  | pluggableInsert (t port : Nat) (phy : Nat) (cls : Nat) (readOk : Bool)
  /-- PLUGGABLE_REMOVE (R461) -/
  | pluggableRemove (t port : Nat)
  /-- LINK_DOWN (R461) -/
  | linkDown (t port : Nat)
  /-- LINK_UP (R462) -/
  | linkUp (t port : Nat)
  /-- AN_FAIL (R430) -/
  | anFail (t port : Nat)
  /-- FEC_SECOND (R431) -/
  | fecSecond (t port corr uncorr : Nat)
  /-- PAUSE_FRAME (R434) -/
  | pauseFrame (t port : Nat) (quanta : List (Nat × Nat)) (pfc : Bool)
  /-- PAUSE_LIMIT_EXCEEDED (R434) -/
  | pauseLimitExceeded (t port : Nat)
  /-- ARP_REQUEST_RX (R433) -/
  | arpRequestRx (t port ip mac target : Nat)
  /-- ARP_REPLY_RX (R433) -/
  | arpReplyRx (t port ip mac : Nat)
  /-- ARP_TIMER (R433) -/
  | arpTimer (t port ch : Nat)
  /-- ICMP_ECHO_RX (R433) -/
  | icmpEchoRx (t port ip mac : Nat) (payload : List Nat)
  /-- RX_DISCARD (R433) -/
  | rxDiscard (t port : Nat)
  /-- TOSON_RECORD_SEND (R446) -/
  | tosonRecordSend (t ch : Nat)
  /-- HEARTBEAT (R452) -/
  | heartbeat (t ch : Nat)
  /-- ROCE_WRITE_SEND (R457) -/
  | roceWriteSend (t ch : Nat)
  /-- ROCE_ACK (R457) -/
  | roceAck (t ch psn : Nat)
  /-- ROCE_NAK (R459) -/
  | roceNak (t ch psn syndrome : Nat)
  /-- ROCE_ACK_TIMEOUT (R459) -/
  | roceAckTimeout (t ch : Nat)
  /-- ROCE_CNP (R460) -/
  | roceCnp (t ch : Nat)
  /-- DCQCN_ALPHA_TIMER (R460) -/
  | dcqcnAlphaTimer (t ch : Nat)
  /-- DCQCN_RATE_TIMER (R460) -/
  | dcqcnRateTimer (t ch : Nat)
  /-- ROCE_REQUEST_DISCARD (R454) -/
  | roceRequestDiscard (t ch : Nat)
  /-- PRT_BB_CTRL_WRITE (R442) -/
  | prtBbCtrlWrite (t v : Nat)
  /-- BB_ARM (R443) -/
  | bbArm (t : Nat)
  /-- BB_STOP (R443) -/
  | bbStop (t : Nat)
  /-- BB_FLUSH (R445) -/
  | bbFlush (t : Nat)
  /-- CAPTURE_START (R443) -/
  | captureStart (t : Nat)
  /-- DRAIN_START (R443) -/
  | drainStart (t : Nat)
  /-- CHANNEL_CTRL_WRITE (R436) -/
  | channelCtrlWrite (t ch v : Nat)
  /-- CONS_WRITE (R458) -/
  | consWrite (t ch v : Nat)
  /-- PORT_CONFIG_WRITE (R433) -/
  | portConfigWrite (t addr v : Nat)
  /-- PRT_CLR_COUNTS (R12) -/
  | prtClrCounts (t : Nat)
  /-- OPEN (R474) -/
  | tmpOpen (t : Nat) (q : TmpReq)
  /-- AUTH (R476) -/
  | tmpAuth (t : Nat) (q : TmpReq)
  /-- CLOSE (R475) -/
  | tmpClose (t : Nat) (q : TmpReq)
  /-- READ (R468) -/
  | tmpRead (t : Nat) (q : TmpReq)
  /-- WRITE (R468) -/
  | tmpWrite (t : Nat) (q : TmpReq)
  /-- MASKWRITE (R468) -/
  | tmpMaskwrite (t : Nat) (q : TmpReq)
  /-- BLOCK_READ (R468) -/
  | tmpBlockRead (t : Nat) (q : TmpReq)
  /-- BLOCK_WRITE (R468) -/
  | tmpBlockWrite (t : Nat) (q : TmpReq)
  /-- TOKEN (R478) -/
  | tmpToken (t : Nat) (q : TmpReq)
  /-- KEEPALIVE (R467) -/
  | tmpKeepalive (t : Nat) (q : TmpReq)
  /-- TMP_DISCARD (R465) -/
  | tmpDiscard (t srcIp srcPort : Nat) (datagram : List Nat)
  /-- SESSION_TIMEOUT (R475) -/
  | sessionTimeout (t sess : Nat)
  /-- DHCP_REPLY (R464) -/
  | dhcpReply (t ip seconds : Nat)
  /-- DHCP_TIMER (R464) -/
  | dhcpTimer (t : Nat)
  /-- OP_ABORT (R485) -/
  | opAbort (t slot : Nat) (abortFirst : Bool) (cuts : List SolCut)
  /-- OP_FINAL_STATE (R482) -/
  | opFinalState (t slot : Nat)
  /-- NVS_SHUTDOWN (R504) -/
  | nvsShutdown (t : Nat)
  /-- NVS_RESTART (R504) -/
  | nvsRestart (t : Nat)
  /-- FW_WRITE (R503) -/
  | fwWrite (t sess slot : Nat)
  /-- STORE_SCRUB (R500) -/
  | storeScrub (t sess slot : Nat)
  /-- PANEL_REFRESH (R515) -/
  | panelRefresh (t sess slot arg0 : Nat)
  /-- ARB_EPOCH_INC (R510) -/
  | arbEpochInc (t sess slot arg0 : Nat)
  /-- FACILITY_WRITE (R511) -/
  | facilityWrite (t sess slot arg0 arg1 arg2 arg3 : Nat)
  /-- TALLY_BURN_DONE (R506) -/
  | tallyBurnDone (t : Nat) (burnt : Bool)
  /-- NAND_ERASE_DONE (R497) -/
  | nandEraseDone (t : Nat) (erased blank : Bool)
  /-- NAND_PROGRAM_DONE (R493) -/
  | nandProgramDone (t : Nat) (programmed : Bool)
  /-- BLOCK_RELOCATION (R491) -/
  | blockRelocation (t : Nat)
  /-- JOURNAL_COMPACTION (R496) -/
  | journalCompaction (t : Nat)
  /-- PANEL_AUTO_REFRESH (R514) -/
  | panelAutoRefresh (t : Nat)
  /-- PANEL_DRIVE_DONE (R513) -/
  | panelDriveDone (t : Nat)
  /-- ALM_ACK (R522) -/
  | almAck (t v : Nat)
  /-- ESCALATION_TIMER (R527) -/
  | escalationTimer (t code : Nat)
  /-- READ_TRACK_START (R165) -/
  | readTrackStart (t : Nat)
  /-- EXPOSE_TRACK_END (R163) -/
  | exposeTrackEnd (t : Nat)
  /-- PAUSE_EXPIRY (R434) -/
  | pauseExpiry (t port : Nat)
  /-- AC_OVERVOLTAGE_CLEAR (R130) -/
  | acOvervoltageClear (t : Nat)
  /-- MANAGEMENT_LINK_UP (R464) -/
  | managementLinkUp (t : Nat)
  /-- MANAGEMENT_LINK_DOWN (R464) -/
  | managementLinkDown (t : Nat)
  /-- EXTEST_UPDATE_DR (R547) -/
  | extestUpdateDr (t cells : Nat)
  /-- VREF_T_RETURN (R545) -/
  | vrefTReturn (t : Nat)
  /-- T_WHOLE_SECOND (R389) -/
  | tWholeSecond (t : Nat)
  deriving DecidableEq, Repr

end Sys2Proof
end

