-- ==== Sys2Proof/WellFormed.lean ====
section
/-!
DEFINITION. Well-formed commands: every operand lies in the width or range that spec/ gives it. A command's instant
`t` has none. Port 4 is the management port, which takes part in ARP, ICMP and the discarded packets (R433, R465).
-/
namespace Sys2Proof

/-- A number fits a field of `w` bits. -/
def fits (w v : Nat) : Bool := decide (v < 2 ^ w)

/-- Every element is a byte. -/
def isBytes (l : List Nat) : Bool := l.all (fits 8)

/-- A TMP request: the fields of R466 in their widths. -/
def TmpReq.wf (q : TmpReq) : Bool :=
  fits 32 q.srcIp && fits 16 q.srcPort && fits 8 q.version && fits 8 q.status && fits 8 q.rsv && fits 32 q.session &&
    fits 32 q.seq && fits 32 q.addr && fits 16 q.count && fits 16 q.reason && isBytes q.payload

/-- A key: KEY_ID of 16 bits and 32 bytes (R82, R476). -/
def KeyEnt.wf (k : KeyEnt) : Bool := fits 16 k.id && isBytes k.key && k.key.length == 32

/-- What a firmware copy declares (R119, R501). -/
def FwDesc.wf (f : FwDesc) : Bool :=
  fits 32 f.version && fits 16 f.arb && f.iface.length == 3 && f.imageKeys.all (·.wf) && f.custKeys.all (·.wf) &&
    f.factKeys.all (·.wf)

/-- What the carrier declares (R108, R119). -/
def CarrierRead.wf (c : CarrierRead) : Bool :=
  fits 16 c.rev && fits 16 c.epoch && fits 16 c.oldest

/-- A tile position: 256 bytes where the identity memory can be read (R108, R157). -/
def TileRead.wf (r : TileRead) : Bool := isBytes r.bytes && (!(r.present && r.readable) || r.bytes.length == 256)

/-- Converter samples are U16 (R17). -/
def PixelVideo.wf (p : PixelVideo) : Bool :=
  decide (p.tile < 8) && p.a.all (fits 16) && p.b.all (fits 16) && p.a2.all (fits 16) && p.b2.all (fits 16)

/-- The pixel that samples belong to. -/
def PixelVideo.place (p : PixelVideo) : Nat × Nat × Nat := (p.tile, p.row, p.col)

/-- A trim reading: one of the gain codes 0 to 3, sums of 4,096 samples of 16 bits (R200, R202). -/
def TrimRead.wf (r : TrimRead) : Bool := decide (r.gain < 4) && fits 28 r.s0 && fits 28 r.sp && fits 28 r.sm

/-- A command is well formed. -/
def Instr.wf : Instr → Bool
  | .registerWrite _ sess addr v => fits 32 sess && fits 32 addr && fits 32 v
  | .resetRelease _ => true
  | .powerUnitStart _ => true
  | .wardenFwCheckDone _ _ fw => fw.wf
  | .storeStageDone _ => true
  | .discoveryDone _ carrier tiles => carrier.wf && tiles.length == 8 && tiles.all (·.wf)
  | .baseSetCopyDone _ failed => failed.all (fun p => decide (p < 8))
  | .bringInDone _ => true
  | .modeRun _ => true
  | .runStart _ => true
  | .modeStop _ => true
  | .runEnd _ => true
  | .frameBoundary _ => true
  | .readTrackEnd _ video => video.all (·.wf)
  | .frameComplete _ => true
  | .tierChange _ => true
  | .govLockoutEnd _ => true
  | .govPredictionEnd _ => true
  | .voltageStepSettled _ => true
  | .roWindowEnd _ _ => true
  | .backlogOverflow _ => true
  | .refGateEnd _ _ _ => true
  | .refLoss _ _ => true
  | .refSwitch _ _ => true
  | .govRefCtrlWrite _ v => fits 32 v
  | .dllLock _ => true
  | .dllLossOfLock _ => true
  | .govCtrlWrite _ v => fits 32 v
  | .govThresholdWrite _ _ v => fits 32 v
  | .govClrCounts _ => true
  | .govClrMin _ => true
  | .imgVerify _ sess slot arg0 => fits 32 sess && decide (slot < 8) && fits 32 arg0
  | .imgActivate _ sess slot arg0 => fits 32 sess && decide (slot < 8) && fits 32 arg0
  | .imgWriteSlot _ sess slot arg0 arg1 => fits 32 sess && decide (slot < 8) && fits 32 arg0 && fits 32 arg1
  | .imgEraseSlot _ sess slot arg0 => fits 32 sess && decide (slot < 8) && fits 32 arg0
  | .imageFrameArrival _ _ => true
  | .activationQuiesced _ => true
  | .activationBuildDone _ => true
  | .slotWriteReadbackDone _ _ => true
  | .imgStageLenWrite _ v => fits 32 v
  | .imgStageClear _ => true
  | .goldenUnlock _ sess => fits 32 sess
  | .imgPrimaryWrite _ v => fits 32 v
  | .fallbackClear _ => true
  | .imgload _ => true
  | .testportFrame _ frame => isBytes frame && frame.length == 1024
  | .imgstat _ => true
  | .idcode _ => true
  | .samplePreload _ pins => fits 16 pins
  | .extest _ => true
  | .bypass _ opcode => fits 8 opcode
  | .testLogicReset _ => true
  | .vrefTLoss _ => true
  | .tileBind _ sess slot pos serLo serHi arg3 tile => fits 32 sess && decide (slot < 8) && decide (pos < 8) && fits 32 serLo && fits 32 serHi && fits 32 arg3 && tile.wf
  | .quarOverride _ sess => fits 32 sess
  | .settlingCheck _ => true
  | .settlingTimeout _ => true
  | .acInputLost _ => true
  | .acReturn _ => true
  | .acOvervoltage _ _ => true
  | .dcInputLost _ => true
  | .inputInRange _ _ => true
  | .pfwRaise _ => true
  | .pfwClear _ => true
  | .railsFall _ => true
  | .pwrTargetWrite _ v => fits 32 v
  | .descentDrainEnd _ => true
  | .ladderStepDone _ => true
  | .blackExit _ _ _ => true
  | .triggerWake _ input => decide (input < 2)
  | .epochCommit _ v => fits 32 v
  | .epochApply _ => true
  | .fplGeomWrite _ addr v => fits 32 addr && fits 32 v
  | .ilvWindowClose _ fe => decide (fe < 33)
  | .ilvSolveDone _ fe => decide (fe < 33)
  | .ilvSetApply _ fe => decide (fe < 33)
  | .ilvSolveLate _ fe => decide (fe < 33)
  | .spareSlotDue _ => true
  | .sparePostponedStart _ => true
  | .spareShadowDone _ own other => own.all (·.wf) && other.all (·.wf) && own.map (·.place) == other.map (·.place)
  | .spareTrimDone _ reads => reads.all (·.wf)
  | .spareReturnShadowDone _ own other => own.all (·.wf) && other.all (·.wf) && own.map (·.place) == other.map (·.place)
  | .vcsTrimDone _ reads => reads.all (·.wf)
  | .spareRelease _ => true
  | .vfeClrClip _ => true
  | .vfeClrSpare _ => true
  | .corOutputWrite _ addr v => fits 32 addr && fits 32 v
  | .corClrCounts _ => true
  | .coefEccError _ tile row col => decide (tile < 8) && decide (row < 4096) && decide (col < 4096)
  | .shutterPeriodDue _ => true
  | .shutterCycleStart _ => true
  | .paddleClosed _ => true
  | .shutterSettleEnd _ => true
  | .shutterAverageEnd _ => true
  | .paddleOpened _ => true
  | .shutterResumeEnd _ => true
  | .shutterUpdateCommit _ => true
  | .paddleCloseTimeout _ => true
  | .paddleOpenTimeout _ => true
  | .paddleOpenRetry _ => true
  | .shutterRetryTimer _ => true
  | .calShutNow _ => true
  | .calShutNowTwoPt _ => true
  | .calShutReset _ => true
  | .paddleHeatStable _ => true
  | .paddleHeatTimeout _ => true
  | .driftRefitDone _ => true
  | .calgenApply _ => true
  | .calCharacterise _ sess slot arg0 arg1 arg2 arg3 => fits 32 sess && decide (slot < 8) && fits 32 arg0 && fits 32 arg1 && fits 32 arg2 && fits 32 arg3
  | .calCharGo _ => true
  | .calCharFit _ => true
  | .charPointStable _ => true
  | .charPointDone _ => true
  | .charPointTimeout _ => true
  | .charFitDone _ => true
  | .calRevert _ sess slot arg0 => fits 32 sess && decide (slot < 8) && fits 32 arg0
  | .bankWriteDone _ _ => true
  | .encoderCount _ _ => true
  | .lineBoundary _ => true
  | .encoderQerr _ => true
  | .encoderSignalLoss _ => true
  | .encoderSignalRestored _ => true
  | .encoderIndex _ => true
  | .encoderZero _ => true
  | .swpLineCplWrite _ v => fits 32 v
  | .scanArm _ => true
  | .scanStart _ => true
  | .scanEndCmd _ => true
  | .scanEnd _ => true
  | .outputLineEmit _ => true
  | .swpClrCounts _ => true
  | .stripComputeStart _ => true
  | .stripPassCommit _ => true
  | .refHeaterTimeout _ => true
  | .heaterOvercurrent _ _ => true
  | .heaterRestart _ _ => true
  | .edgeFitDone _ => true
  | .scanRecord _ => true
  | .solRun _ sess slot arg0 arg1 arg2 arg3 => fits 32 sess && decide (slot < 8) && fits 32 arg0 && fits 32 arg1 && fits 32 arg2 && fits 32 arg3
  | .solSystemEnd _ sys _ => decide (sys < 4096)
  | .solDeadline _ _ => true
  | .solBatchCommit _ => true
  | .solClrCounts _ => true
  | .triggerEdge _ input => decide (input < 2)
  | .filSyncReset _ => true
  | .filSyncCtrlWrite _ v => fits 32 v
  | .timeSet _ => true
  | .todSrcWrite _ v => fits 32 v
  | .ppsEdge _ => true
  | .ptpSync _ _ => true
  | .ptpAnnounce _ _ => true
  | .ptpDelayResp _ _ => true
  | .ptpDelayReqSend _ => true
  | .ptpSourceLoss _ => true
  | .ppsSourceLoss _ => true
  | .timeStep _ => true
  | .holdoverLimit _ => true
  | .monCycleStart _ => true
  | .monEntryComplete _ codes => codes.all (fits 14)
  | .monInjectTrigger _ src => decide (src < 4)
  | .monInjGo _ => true
  | .monInjectedDone _ => true
  | .monCalibrate _ => true
  | .monSelfCalDone _ _ => true
  | .monSeqApply _ => true
  | .monSeqTakeEffect _ => true
  | .monAlarmWrite _ addr v => fits 32 addr && fits 32 v
  | .monClrCounts _ => true
  | .monInputStarved _ input => decide (input < 24)
  | .overtempTrip _ => true
  | .overtempRelease _ => true
  | .pluggableInsert _ port phy cls _ => decide (port < 4) && fits 8 phy && fits 8 cls
  | .pluggableRemove _ port => decide (port < 4)
  | .linkDown _ port => decide (port < 4)
  | .linkUp _ port => decide (port < 4)
  | .anFail _ port => decide (port < 4)
  | .fecSecond _ port _ _ => decide (port < 4)
  | .pauseFrame _ port quanta _ => decide (port < 4) && quanta.all (fun e => decide (e.1 < 8) && fits 16 e.2)
  | .pauseLimitExceeded _ port => decide (port < 4)
  | .arpRequestRx _ port ip mac target => decide (port < 5) && fits 32 ip && fits 48 mac && fits 32 target
  | .arpReplyRx _ port ip mac => decide (port < 4) && fits 32 ip && fits 48 mac
  | .arpTimer _ port ch => decide (port < 4) && decide (ch < 16)
  | .icmpEchoRx _ port ip mac payload => decide (port < 5) && fits 32 ip && fits 48 mac && isBytes payload
  | .rxDiscard _ port => decide (port < 5)
  | .tosonRecordSend _ ch => decide (ch < 16)
  | .heartbeat _ ch => decide (ch < 16)
  | .roceWriteSend _ ch => decide (ch < 16)
  | .roceAck _ ch psn => decide (ch < 16) && fits 24 psn
  | .roceNak _ ch psn syndrome => decide (ch < 16) && fits 24 psn && fits 8 syndrome
  | .roceAckTimeout _ ch => decide (ch < 16)
  | .roceCnp _ ch => decide (ch < 16)
  | .dcqcnAlphaTimer _ ch => decide (ch < 16)
  | .dcqcnRateTimer _ ch => decide (ch < 16)
  | .roceRequestDiscard _ ch => decide (ch < 16)
  | .prtBbCtrlWrite _ v => fits 32 v
  | .bbArm _ => true
  | .bbStop _ => true
  | .bbFlush _ => true
  | .captureStart _ => true
  | .drainStart _ => true
  | .channelCtrlWrite _ ch v => decide (ch < 16) && fits 32 v
  | .consWrite _ ch v => decide (ch < 16) && fits 32 v
  | .portConfigWrite _ addr v => fits 32 addr && fits 32 v
  | .prtClrCounts _ => true
  | .tmpOpen _ q => q.wf
  | .tmpAuth _ q => q.wf
  | .tmpClose _ q => q.wf
  | .tmpRead _ q => q.wf
  | .tmpWrite _ q => q.wf
  | .tmpMaskwrite _ q => q.wf
  | .tmpBlockRead _ q => q.wf
  | .tmpBlockWrite _ q => q.wf
  | .tmpToken _ q => q.wf
  | .tmpKeepalive _ q => q.wf
  | .tmpDiscard _ srcIp srcPort datagram => fits 32 srcIp && fits 16 srcPort && isBytes datagram
  | .sessionTimeout _ sess => fits 32 sess
  | .dhcpReply _ ip seconds => fits 32 ip && fits 32 seconds
  | .dhcpTimer _ => true
  | .opAbort _ slot _ _ => decide (slot < 8)
  | .opFinalState _ slot => decide (slot < 8)
  | .nvsShutdown _ => true
  | .nvsRestart _ => true
  | .fwWrite _ sess slot => fits 32 sess && decide (slot < 8)
  | .storeScrub _ sess slot => fits 32 sess && decide (slot < 8)
  | .panelRefresh _ sess slot arg0 => fits 32 sess && decide (slot < 8) && fits 32 arg0
  | .arbEpochInc _ sess slot arg0 => fits 32 sess && decide (slot < 8) && fits 32 arg0
  | .facilityWrite _ sess slot arg0 arg1 arg2 arg3 => fits 32 sess && decide (slot < 8) && fits 32 arg0 && fits 32 arg1 && fits 32 arg2 && fits 32 arg3
  | .tallyBurnDone _ _ => true
  | .nandEraseDone _ _ _ => true
  | .nandProgramDone _ _ => true
  | .blockRelocation _ => true
  | .journalCompaction _ => true
  | .panelAutoRefresh _ => true
  | .panelDriveDone _ => true
  | .almAck _ v => fits 32 v
  | .escalationTimer _ code => fits 16 code
  | .readTrackStart _ => true
  | .exposeTrackEnd _ => true
  | .pauseExpiry _ port => decide (port < 4)
  | .acOvervoltageClear _ => true
  | .managementLinkUp _ => true
  | .managementLinkDown _ => true
  | .extestUpdateDr _ cells => fits 16 cells
  | .vrefTReturn _ => true
  | .tWholeSecond _ => true

/-- The instant of a command. -/
def Instr.time : Instr → Nat
  | .registerWrite t _ _ _ => t
  | .resetRelease t => t
  | .powerUnitStart t => t
  | .wardenFwCheckDone t _ _ => t
  | .storeStageDone t => t
  | .discoveryDone t _ _ => t
  | .baseSetCopyDone t _ => t
  | .bringInDone t => t
  | .modeRun t => t
  | .runStart t => t
  | .modeStop t => t
  | .runEnd t => t
  | .frameBoundary t => t
  | .readTrackEnd t _ => t
  | .frameComplete t => t
  | .tierChange t => t
  | .govLockoutEnd t => t
  | .govPredictionEnd t => t
  | .voltageStepSettled t => t
  | .roWindowEnd t _ => t
  | .backlogOverflow t => t
  | .refGateEnd t _ _ => t
  | .refLoss t _ => t
  | .refSwitch t _ => t
  | .govRefCtrlWrite t _ => t
  | .dllLock t => t
  | .dllLossOfLock t => t
  | .govCtrlWrite t _ => t
  | .govThresholdWrite t _ _ => t
  | .govClrCounts t => t
  | .govClrMin t => t
  | .imgVerify t _ _ _ => t
  | .imgActivate t _ _ _ => t
  | .imgWriteSlot t _ _ _ _ => t
  | .imgEraseSlot t _ _ _ => t
  | .imageFrameArrival t _ => t
  | .activationQuiesced t => t
  | .activationBuildDone t => t
  | .slotWriteReadbackDone t _ => t
  | .imgStageLenWrite t _ => t
  | .imgStageClear t => t
  | .goldenUnlock t _ => t
  | .imgPrimaryWrite t _ => t
  | .fallbackClear t => t
  | .imgload t => t
  | .testportFrame t _ => t
  | .imgstat t => t
  | .idcode t => t
  | .samplePreload t _ => t
  | .extest t => t
  | .bypass t _ => t
  | .testLogicReset t => t
  | .vrefTLoss t => t
  | .tileBind t _ _ _ _ _ _ _ => t
  | .quarOverride t _ => t
  | .settlingCheck t => t
  | .settlingTimeout t => t
  | .acInputLost t => t
  | .acReturn t => t
  | .acOvervoltage t _ => t
  | .dcInputLost t => t
  | .inputInRange t _ => t
  | .pfwRaise t => t
  | .pfwClear t => t
  | .railsFall t => t
  | .pwrTargetWrite t _ => t
  | .descentDrainEnd t => t
  | .ladderStepDone t => t
  | .blackExit t _ _ => t
  | .triggerWake t _ => t
  | .epochCommit t _ => t
  | .epochApply t => t
  | .fplGeomWrite t _ _ => t
  | .ilvWindowClose t _ => t
  | .ilvSolveDone t _ => t
  | .ilvSetApply t _ => t
  | .ilvSolveLate t _ => t
  | .spareSlotDue t => t
  | .sparePostponedStart t => t
  | .spareShadowDone t _ _ => t
  | .spareTrimDone t _ => t
  | .spareReturnShadowDone t _ _ => t
  | .vcsTrimDone t _ => t
  | .spareRelease t => t
  | .vfeClrClip t => t
  | .vfeClrSpare t => t
  | .corOutputWrite t _ _ => t
  | .corClrCounts t => t
  | .coefEccError t _ _ _ => t
  | .shutterPeriodDue t => t
  | .shutterCycleStart t => t
  | .paddleClosed t => t
  | .shutterSettleEnd t => t
  | .shutterAverageEnd t => t
  | .paddleOpened t => t
  | .shutterResumeEnd t => t
  | .shutterUpdateCommit t => t
  | .paddleCloseTimeout t => t
  | .paddleOpenTimeout t => t
  | .paddleOpenRetry t => t
  | .shutterRetryTimer t => t
  | .calShutNow t => t
  | .calShutNowTwoPt t => t
  | .calShutReset t => t
  | .paddleHeatStable t => t
  | .paddleHeatTimeout t => t
  | .driftRefitDone t => t
  | .calgenApply t => t
  | .calCharacterise t _ _ _ _ _ _ => t
  | .calCharGo t => t
  | .calCharFit t => t
  | .charPointStable t => t
  | .charPointDone t => t
  | .charPointTimeout t => t
  | .charFitDone t => t
  | .calRevert t _ _ _ => t
  | .bankWriteDone t _ => t
  | .encoderCount t _ => t
  | .lineBoundary t => t
  | .encoderQerr t => t
  | .encoderSignalLoss t => t
  | .encoderSignalRestored t => t
  | .encoderIndex t => t
  | .encoderZero t => t
  | .swpLineCplWrite t _ => t
  | .scanArm t => t
  | .scanStart t => t
  | .scanEndCmd t => t
  | .scanEnd t => t
  | .outputLineEmit t => t
  | .swpClrCounts t => t
  | .stripComputeStart t => t
  | .stripPassCommit t => t
  | .refHeaterTimeout t => t
  | .heaterOvercurrent t _ => t
  | .heaterRestart t _ => t
  | .edgeFitDone t => t
  | .scanRecord t => t
  | .solRun t _ _ _ _ _ _ => t
  | .solSystemEnd t _ _ => t
  | .solDeadline t _ => t
  | .solBatchCommit t => t
  | .solClrCounts t => t
  | .triggerEdge t _ => t
  | .filSyncReset t => t
  | .filSyncCtrlWrite t _ => t
  | .timeSet t => t
  | .todSrcWrite t _ => t
  | .ppsEdge t => t
  | .ptpSync t _ => t
  | .ptpAnnounce t _ => t
  | .ptpDelayResp t _ => t
  | .ptpDelayReqSend t => t
  | .ptpSourceLoss t => t
  | .ppsSourceLoss t => t
  | .timeStep t => t
  | .holdoverLimit t => t
  | .monCycleStart t => t
  | .monEntryComplete t _ => t
  | .monInjectTrigger t _ => t
  | .monInjGo t => t
  | .monInjectedDone t => t
  | .monCalibrate t => t
  | .monSelfCalDone t _ => t
  | .monSeqApply t => t
  | .monSeqTakeEffect t => t
  | .monAlarmWrite t _ _ => t
  | .monClrCounts t => t
  | .monInputStarved t _ => t
  | .overtempTrip t => t
  | .overtempRelease t => t
  | .pluggableInsert t _ _ _ _ => t
  | .pluggableRemove t _ => t
  | .linkDown t _ => t
  | .linkUp t _ => t
  | .anFail t _ => t
  | .fecSecond t _ _ _ => t
  | .pauseFrame t _ _ _ => t
  | .pauseLimitExceeded t _ => t
  | .arpRequestRx t _ _ _ _ => t
  | .arpReplyRx t _ _ _ => t
  | .arpTimer t _ _ => t
  | .icmpEchoRx t _ _ _ _ => t
  | .rxDiscard t _ => t
  | .tosonRecordSend t _ => t
  | .heartbeat t _ => t
  | .roceWriteSend t _ => t
  | .roceAck t _ _ => t
  | .roceNak t _ _ _ => t
  | .roceAckTimeout t _ => t
  | .roceCnp t _ => t
  | .dcqcnAlphaTimer t _ => t
  | .dcqcnRateTimer t _ => t
  | .roceRequestDiscard t _ => t
  | .prtBbCtrlWrite t _ => t
  | .bbArm t => t
  | .bbStop t => t
  | .bbFlush t => t
  | .captureStart t => t
  | .drainStart t => t
  | .channelCtrlWrite t _ _ => t
  | .consWrite t _ _ => t
  | .portConfigWrite t _ _ => t
  | .prtClrCounts t => t
  | .tmpOpen t _ => t
  | .tmpAuth t _ => t
  | .tmpClose t _ => t
  | .tmpRead t _ => t
  | .tmpWrite t _ => t
  | .tmpMaskwrite t _ => t
  | .tmpBlockRead t _ => t
  | .tmpBlockWrite t _ => t
  | .tmpToken t _ => t
  | .tmpKeepalive t _ => t
  | .tmpDiscard t _ _ _ => t
  | .sessionTimeout t _ => t
  | .dhcpReply t _ _ => t
  | .dhcpTimer t => t
  | .opAbort t _ _ _ => t
  | .opFinalState t _ => t
  | .nvsShutdown t => t
  | .nvsRestart t => t
  | .fwWrite t _ _ => t
  | .storeScrub t _ _ => t
  | .panelRefresh t _ _ _ => t
  | .arbEpochInc t _ _ _ => t
  | .facilityWrite t _ _ _ _ _ _ => t
  | .tallyBurnDone t _ => t
  | .nandEraseDone t _ _ => t
  | .nandProgramDone t _ => t
  | .blockRelocation t => t
  | .journalCompaction t => t
  | .panelAutoRefresh t => t
  | .panelDriveDone t => t
  | .almAck t _ => t
  | .escalationTimer t _ => t
  | .readTrackStart t => t
  | .exposeTrackEnd t => t
  | .pauseExpiry t _ => t
  | .acOvervoltageClear t => t
  | .managementLinkUp t => t
  | .managementLinkDown t => t
  | .extestUpdateDr t _ => t
  | .vrefTReturn t => t
  | .tWholeSecond t => t

/-- The operation slot that a command names (R481). -/
def Instr.slot? : Instr → Option Nat
  | .registerWrite _ _ _ _ => none
  | .resetRelease _ => none
  | .powerUnitStart _ => none
  | .wardenFwCheckDone _ _ _ => none
  | .storeStageDone _ => none
  | .discoveryDone _ _ _ => none
  | .baseSetCopyDone _ _ => none
  | .bringInDone _ => none
  | .modeRun _ => none
  | .runStart _ => none
  | .modeStop _ => none
  | .runEnd _ => none
  | .frameBoundary _ => none
  | .readTrackEnd _ _ => none
  | .frameComplete _ => none
  | .tierChange _ => none
  | .govLockoutEnd _ => none
  | .govPredictionEnd _ => none
  | .voltageStepSettled _ => none
  | .roWindowEnd _ _ => none
  | .backlogOverflow _ => none
  | .refGateEnd _ _ _ => none
  | .refLoss _ _ => none
  | .refSwitch _ _ => none
  | .govRefCtrlWrite _ _ => none
  | .dllLock _ => none
  | .dllLossOfLock _ => none
  | .govCtrlWrite _ _ => none
  | .govThresholdWrite _ _ _ => none
  | .govClrCounts _ => none
  | .govClrMin _ => none
  | .imgVerify _ _ slot _ => some slot
  | .imgActivate _ _ slot _ => some slot
  | .imgWriteSlot _ _ slot _ _ => some slot
  | .imgEraseSlot _ _ slot _ => some slot
  | .imageFrameArrival _ _ => none
  | .activationQuiesced _ => none
  | .activationBuildDone _ => none
  | .slotWriteReadbackDone _ _ => none
  | .imgStageLenWrite _ _ => none
  | .imgStageClear _ => none
  | .goldenUnlock _ _ => none
  | .imgPrimaryWrite _ _ => none
  | .fallbackClear _ => none
  | .imgload _ => none
  | .testportFrame _ _ => none
  | .imgstat _ => none
  | .idcode _ => none
  | .samplePreload _ _ => none
  | .extest _ => none
  | .bypass _ _ => none
  | .testLogicReset _ => none
  | .vrefTLoss _ => none
  | .tileBind _ _ slot _ _ _ _ _ => some slot
  | .quarOverride _ _ => none
  | .settlingCheck _ => none
  | .settlingTimeout _ => none
  | .acInputLost _ => none
  | .acReturn _ => none
  | .acOvervoltage _ _ => none
  | .dcInputLost _ => none
  | .inputInRange _ _ => none
  | .pfwRaise _ => none
  | .pfwClear _ => none
  | .railsFall _ => none
  | .pwrTargetWrite _ _ => none
  | .descentDrainEnd _ => none
  | .ladderStepDone _ => none
  | .blackExit _ _ _ => none
  | .triggerWake _ _ => none
  | .epochCommit _ _ => none
  | .epochApply _ => none
  | .fplGeomWrite _ _ _ => none
  | .ilvWindowClose _ _ => none
  | .ilvSolveDone _ _ => none
  | .ilvSetApply _ _ => none
  | .ilvSolveLate _ _ => none
  | .spareSlotDue _ => none
  | .sparePostponedStart _ => none
  | .spareShadowDone _ _ _ => none
  | .spareTrimDone _ _ => none
  | .spareReturnShadowDone _ _ _ => none
  | .vcsTrimDone _ _ => none
  | .spareRelease _ => none
  | .vfeClrClip _ => none
  | .vfeClrSpare _ => none
  | .corOutputWrite _ _ _ => none
  | .corClrCounts _ => none
  | .coefEccError _ _ _ _ => none
  | .shutterPeriodDue _ => none
  | .shutterCycleStart _ => none
  | .paddleClosed _ => none
  | .shutterSettleEnd _ => none
  | .shutterAverageEnd _ => none
  | .paddleOpened _ => none
  | .shutterResumeEnd _ => none
  | .shutterUpdateCommit _ => none
  | .paddleCloseTimeout _ => none
  | .paddleOpenTimeout _ => none
  | .paddleOpenRetry _ => none
  | .shutterRetryTimer _ => none
  | .calShutNow _ => none
  | .calShutNowTwoPt _ => none
  | .calShutReset _ => none
  | .paddleHeatStable _ => none
  | .paddleHeatTimeout _ => none
  | .driftRefitDone _ => none
  | .calgenApply _ => none
  | .calCharacterise _ _ slot _ _ _ _ => some slot
  | .calCharGo _ => none
  | .calCharFit _ => none
  | .charPointStable _ => none
  | .charPointDone _ => none
  | .charPointTimeout _ => none
  | .charFitDone _ => none
  | .calRevert _ _ slot _ => some slot
  | .bankWriteDone _ _ => none
  | .encoderCount _ _ => none
  | .lineBoundary _ => none
  | .encoderQerr _ => none
  | .encoderSignalLoss _ => none
  | .encoderSignalRestored _ => none
  | .encoderIndex _ => none
  | .encoderZero _ => none
  | .swpLineCplWrite _ _ => none
  | .scanArm _ => none
  | .scanStart _ => none
  | .scanEndCmd _ => none
  | .scanEnd _ => none
  | .outputLineEmit _ => none
  | .swpClrCounts _ => none
  | .stripComputeStart _ => none
  | .stripPassCommit _ => none
  | .refHeaterTimeout _ => none
  | .heaterOvercurrent _ _ => none
  | .heaterRestart _ _ => none
  | .edgeFitDone _ => none
  | .scanRecord _ => none
  | .solRun _ _ slot _ _ _ _ => some slot
  | .solSystemEnd _ _ _ => none
  | .solDeadline _ _ => none
  | .solBatchCommit _ => none
  | .solClrCounts _ => none
  | .triggerEdge _ _ => none
  | .filSyncReset _ => none
  | .filSyncCtrlWrite _ _ => none
  | .timeSet _ => none
  | .todSrcWrite _ _ => none
  | .ppsEdge _ => none
  | .ptpSync _ _ => none
  | .ptpAnnounce _ _ => none
  | .ptpDelayResp _ _ => none
  | .ptpDelayReqSend _ => none
  | .ptpSourceLoss _ => none
  | .ppsSourceLoss _ => none
  | .timeStep _ => none
  | .holdoverLimit _ => none
  | .monCycleStart _ => none
  | .monEntryComplete _ _ => none
  | .monInjectTrigger _ _ => none
  | .monInjGo _ => none
  | .monInjectedDone _ => none
  | .monCalibrate _ => none
  | .monSelfCalDone _ _ => none
  | .monSeqApply _ => none
  | .monSeqTakeEffect _ => none
  | .monAlarmWrite _ _ _ => none
  | .monClrCounts _ => none
  | .monInputStarved _ _ => none
  | .overtempTrip _ => none
  | .overtempRelease _ => none
  | .pluggableInsert _ _ _ _ _ => none
  | .pluggableRemove _ _ => none
  | .linkDown _ _ => none
  | .linkUp _ _ => none
  | .anFail _ _ => none
  | .fecSecond _ _ _ _ => none
  | .pauseFrame _ _ _ _ => none
  | .pauseLimitExceeded _ _ => none
  | .arpRequestRx _ _ _ _ _ => none
  | .arpReplyRx _ _ _ _ => none
  | .arpTimer _ _ _ => none
  | .icmpEchoRx _ _ _ _ _ => none
  | .rxDiscard _ _ => none
  | .tosonRecordSend _ _ => none
  | .heartbeat _ _ => none
  | .roceWriteSend _ _ => none
  | .roceAck _ _ _ => none
  | .roceNak _ _ _ _ => none
  | .roceAckTimeout _ _ => none
  | .roceCnp _ _ => none
  | .dcqcnAlphaTimer _ _ => none
  | .dcqcnRateTimer _ _ => none
  | .roceRequestDiscard _ _ => none
  | .prtBbCtrlWrite _ _ => none
  | .bbArm _ => none
  | .bbStop _ => none
  | .bbFlush _ => none
  | .captureStart _ => none
  | .drainStart _ => none
  | .channelCtrlWrite _ _ _ => none
  | .consWrite _ _ _ => none
  | .portConfigWrite _ _ _ => none
  | .prtClrCounts _ => none
  | .tmpOpen _ _ => none
  | .tmpAuth _ _ => none
  | .tmpClose _ _ => none
  | .tmpRead _ _ => none
  | .tmpWrite _ _ => none
  | .tmpMaskwrite _ _ => none
  | .tmpBlockRead _ _ => none
  | .tmpBlockWrite _ _ => none
  | .tmpToken _ _ => none
  | .tmpKeepalive _ _ => none
  | .tmpDiscard _ _ _ _ => none
  | .sessionTimeout _ _ => none
  | .dhcpReply _ _ _ => none
  | .dhcpTimer _ => none
  | .opAbort _ slot _ _ => some slot
  | .opFinalState _ slot => some slot
  | .nvsShutdown _ => none
  | .nvsRestart _ => none
  | .fwWrite _ _ slot => some slot
  | .storeScrub _ _ slot => some slot
  | .panelRefresh _ _ slot _ => some slot
  | .arbEpochInc _ _ slot _ => some slot
  | .facilityWrite _ _ slot _ _ _ _ => some slot
  | .tallyBurnDone _ _ => none
  | .nandEraseDone _ _ _ => none
  | .nandProgramDone _ _ => none
  | .blockRelocation _ => none
  | .journalCompaction _ => none
  | .panelAutoRefresh _ => none
  | .panelDriveDone _ => none
  | .almAck _ _ => none
  | .escalationTimer _ _ => none
  | .readTrackStart _ => none
  | .exposeTrackEnd _ => none
  | .pauseExpiry _ _ => none
  | .acOvervoltageClear _ => none
  | .managementLinkUp _ => none
  | .managementLinkDown _ => none
  | .extestUpdateDr _ _ => none
  | .vrefTReturn _ => none
  | .tWholeSecond _ => none

end Sys2Proof
end

