-- ==== Sys2Proof/Decode.lean ====
section
/-!
DEFINITION. Words that spell a command. spec/opcode_table.json gives no row of the module any bits, so no word spells
one.
-/
namespace Sys2Proof

/-- The command that the low `nbits` bits of `w` spell: none, for every word. -/
def decodeTableWord (_nbits _w : Nat) : Option Instr := none

end Sys2Proof
end

