-- ==== Sys2Proof/Machine/Float.lean ====
section
/-!
DEFINITION. Binary floating point as exact integers: the formats binary32 and binary64 of IEEE 754, rounding of an
exact quotient, and `rhe`, the rounding of an exact quotient to an integer with ties to even (R188).
-/
namespace Sys2Proof.Machine

/-! ### Rounding to integers -/

/-- The quotient `a / b` rounded to the nearest integer, ties to even; `b` above 0. -/
def rhe (a : Int) (b : Nat) : Int :=
  let q := a / (b : Int)
  let r := (a % (b : Int)) * 2
  if r < b then q else if (b : Int) < r then q + 1 else if q % 2 = 0 then q else q + 1

/-- An integer limited to a range. -/
def clampI (lo hi v : Int) : Int := max lo (min hi v)

/-- An integer limited to 16 signed bits. -/
def clampS16 (v : Int) : Int := clampI (-32768) 32767 v

/-! ### Floating point values -/

/-- Rounding modes: to nearest even, toward zero, up, down. -/
inductive RMode where
  | nearest | zero | up | down
  deriving DecidableEq, Repr

/-- A format: precision in bits, least and greatest exponent of a normal value with one bit before the point. -/
structure Fmt where
  p : Nat
  emin : Int
  emax : Int
  deriving DecidableEq, Repr

/-- binary32 and binary64. -/
def b32 : Fmt := ⟨24, -126, 127⟩
def b64 : Fmt := ⟨53, -1022, 1023⟩

/-- A value: not a number, an infinity, or ± m × 2^e (a zero where m is 0). -/
inductive FVal where
  | nan
  | inf (neg : Bool)
  | fin (neg : Bool) (m : Nat) (e : Int)
  deriving DecidableEq, Repr

/-- What rounding found: the value is not exact, overflowed, was below the least normal value before rounding. -/
structure RFlags where
  inexact : Bool := false
  overflow : Bool := false
  tiny : Bool := false
  deriving DecidableEq, Repr

/-- Whether a magnitude with quotient `q`, remainder `r` of `d`, is rounded away from zero. -/
def roundAway (rm : RMode) (neg : Bool) (q r d : Nat) : Bool :=
  match rm with
  | .nearest => decide (d < 2 * r) || (2 * r == d && q % 2 == 1)
  | .zero => false
  | .up => !neg && r != 0
  | .down => neg && r != 0

/-- The quotient and remainder of `num / (den × 2^e)`, with the divisor. -/
def scaled (num den : Nat) (e : Int) : Nat × Nat × Nat :=
  if 0 ≤ e then (num / (den * 2 ^ e.toNat), num % (den * 2 ^ e.toNat), den * 2 ^ e.toNat)
  else (num * 2 ^ (-e).toNat / den, num * 2 ^ (-e).toNat % den, den)

/-- The exact quotient `num / den` (both above 0) rounded into a format. -/
def roundQ (f : Fmt) (rm : RMode) (neg : Bool) (num den : Nat) : FVal × RFlags :=
  let e0 : Int := (Nat.log2 num : Int) - (Nat.log2 den : Int) - (f.p : Int) + 1
  let e1 := if (scaled num den e0).1 < 2 ^ (f.p - 1) then e0 - 1 else e0
  let eLow := f.emin - (f.p : Int) + 1
  let tiny := decide (e1 < eLow)
  let e := if tiny then eLow else e1
  let s := scaled num den e
  let m := s.1 + b2n (roundAway rm neg s.1 s.2.1 s.2.2)
  let inexact := s.2.1 != 0
  let me : Nat × Int := if m = 2 ^ f.p then (2 ^ (f.p - 1), e + 1) else (m, e)
  if f.emax < me.2 + (f.p : Int) - 1 then
    let big := match rm with
      | .nearest => true | .zero => false | .up => !neg | .down => neg
    (if big then .inf neg else .fin neg (2 ^ f.p - 1) (f.emax - (f.p : Int) + 1), ⟨true, true, false⟩)
  else (.fin neg me.1 me.2, ⟨inexact, false, tiny⟩)

/-- An integer fraction rounded into a format (zero positive). -/
def ofFrac (f : Fmt) (rm : RMode) (num : Int) (den : Nat) : FVal :=
  if num = 0 then .fin false 0 0 else (roundQ f rm (num < 0) num.natAbs den).1

/-- A value as an exact fraction; none for an infinity or a NaN. -/
def FVal.frac : FVal → Option (Int × Nat)
  | .fin n m e =>
    let a : Int := if 0 ≤ e then m * 2 ^ e.toNat else m
    some (if n then -a else a, if 0 ≤ e then 1 else 2 ^ (-e).toNat)
  | _ => none

/-- The fraction of a finite value; 0 otherwise. -/
def FVal.q (v : FVal) : Int × Nat := v.frac.getD (0, 1)

/-- A value is a finite number. -/
def FVal.isFin : FVal → Bool
  | .fin _ _ _ => true
  | _ => false

/-! ### binary32 and binary64 words -/

/-- The word of a value in a format of `w` exponent bits; a NaN is the quiet NaN of R325. -/
def FVal.word (f : Fmt) (w : Nat) : FVal → Nat
  | .nan => (2 ^ w - 1) * 2 ^ (f.p - 1) + 2 ^ (f.p - 2)
  | .inf n => b2n n * 2 ^ (w + f.p - 1) + (2 ^ w - 1) * 2 ^ (f.p - 1)
  | .fin n m e =>
    b2n n * 2 ^ (w + f.p - 1) +
      (if m < 2 ^ (f.p - 1) then m else (e + (f.p : Int) - 1 + f.emax).toNat * 2 ^ (f.p - 1) + (m - 2 ^ (f.p - 1)))

/-- The value of a word. -/
def FVal.ofWord (f : Fmt) (w v : Nat) : FVal :=
  let n := bit v (w + f.p - 1) == 1
  let ex := bits v (f.p - 1) w
  let m := bits v 0 (f.p - 1)
  if ex = 2 ^ w - 1 then (if m = 0 then .inf n else .nan)
  else if ex = 0 then .fin n m (f.emin - (f.p : Int) + 1)
  else .fin n (m + 2 ^ (f.p - 1)) ((ex : Int) - f.emax - (f.p : Int) + 1)

/-- The word of a binary32 value, and its value. -/
def f32Word (v : FVal) : Nat := v.word b32 8
def f32 (w : Nat) : FVal := FVal.ofWord b32 8 w

/-- The exact value of a finite binary32 word. -/
def f32q (w : Nat) : Int × Nat := (f32 w).q

/-- The binary32 word nearest a fraction, ties to even. -/
def toF32 (a : Int × Nat) : Nat := f32Word (ofFrac b32 .nearest a.1 a.2)

/-- A binary32 word is a finite number. -/
def f32Fin (w : Nat) : Bool := (f32 w).isFin

/-- The binary64 word of a fraction. -/
def toF64 (a : Int × Nat) : Nat := (ofFrac b64 .nearest a.1 a.2).word b64 11

/-! ### Exact fractions -/

def qAdd (a b : Int × Nat) : Int × Nat := (a.1 * b.2 + b.1 * a.2, a.2 * b.2)
def qNeg (a : Int × Nat) : Int × Nat := (-a.1, a.2)
def qSub (a b : Int × Nat) : Int × Nat := qAdd a (qNeg b)
def qMul (a b : Int × Nat) : Int × Nat := (a.1 * b.1, a.2 * b.2)
/-- The quotient; a zero divisor gives 0. -/
def qDiv (a b : Int × Nat) : Int × Nat :=
  if b.1 = 0 then (0, 1) else (a.1 * b.2 * (if b.1 < 0 then -1 else 1), a.2 * b.1.natAbs)
/-- `a ≤ b`. -/
def qLe (a b : Int × Nat) : Bool := decide (a.1 * b.2 ≤ b.1 * a.2)
/-- `a < b`. -/
def qLt (a b : Int × Nat) : Bool := decide (a.1 * b.2 < b.1 * a.2)
/-- The magnitude. -/
def qAbs (a : Int × Nat) : Int × Nat := (a.1.natAbs, a.2)
/-- An integer as a fraction. -/
def qI (a : Int) : Int × Nat := (a, 1)
/-- A fraction rounded to an integer, ties to even. -/
def qRhe (a : Int × Nat) : Int := rhe a.1 a.2

/-! ### binary64 (rounded to nearest, ties to even, after every operation) -/

/-- A binary64 value kept as the exact fraction it stands for; the chapters that name binary64 use it on finite
values only. -/
abbrev D := Int × Nat

/-- A fraction rounded to binary64. -/
def dRound (a : D) : D := (ofFrac b64 .nearest a.1 a.2).q

def dAdd (a b : D) : D := dRound (qAdd a b)
def dSub (a b : D) : D := dRound (qSub a b)
def dMul (a b : D) : D := dRound (qMul a b)
def dDiv (a b : D) : D := dRound (qDiv a b)
/-- An integer in binary64. -/
def dInt (a : Int) : D := dRound (qI a)

/-- The integer square root, by Newton's steps on fuel. -/
def isqrtFuel : Nat → Nat → Nat → Nat
  | 0, _, x => x
  | k + 1, n, x =>
    let y := (x + n / x) / 2
    if y < x then isqrtFuel k n y else x

/-- The integer square root. -/
def isqrt (n : Nat) : Nat := if n = 0 then 0 else isqrtFuel (Nat.log2 n + 4) n (2 ^ (Nat.log2 n / 2 + 1))

/-- A fraction that rounds as √(num / den) does in any format of at most 60 bits: a root with 70 more bits and
a last bit for what is below them. -/
def sqrtFrac (num den : Nat) : Nat × Nat :=
  let k := Nat.log2 den + 80
  let n := num * den * 2 ^ (2 * k)
  let r := isqrt n
  (2 * r + b2n (r * r != n), 2 * den * 2 ^ k)

/-- The square root of a non-negative binary64 value. -/
def dSqrt (a : D) : D :=
  if a.1 ≤ 0 then (0, 1) else
    let q := sqrtFrac a.1.natAbs a.2
    dRound (q.1, q.2)

end Sys2Proof.Machine
end

