-- ==== Sys2Proof/Config.lean ====
section
/-!
DEFINITION. What one module or one implementation fixes and the values that spec/ leaves open. Every constant
here is opaque: nothing in Lean can evaluate it, so a statement holds whatever it is.
-/
namespace Sys2Proof

/-! ### Factory data of the module (the FACTORY region of R490, the cells 384 to 511 of R505) -/

/-- Module serial, 64 bits. -/
opaque Config.serial : Nat
/-- Module hardware revision. -/
opaque Config.hwRev : Nat
/-- Silicon stepping code (R119). -/
opaque Config.stepping : Nat
/-- EPOCH and OLDEST that the stepping declares for interface 0 REG, 1 REC, 2 SCHED, 3 CAR (R119). -/
opaque Config.stepIface : Nat → Nat × Nat
/-- MAC address of the management port. -/
opaque Config.mgmtMac : Nat
/-- MAC address of data port 0; those of the other ports follow it (R432). -/
opaque Config.portMac : Nat
/-- GOV_RO_SCALE (R36). -/
opaque Config.roScale : Nat
/-- GOV_RO_VSENS above its least value 655, modulo the 1,312 values that R61 allows (R61). -/
opaque Config.roVsens : Nat
/-- MON_DIE_K0 and MON_DIE_K1. -/
opaque Config.dieK0 : Nat
opaque Config.dieK1 : Nat
/-- Factory interleave values OFS, G and K of a front-end (R187). -/
opaque Config.ilvFactory : Nat → Nat × Nat × Nat
/-- Factory trims of a front-end (R184), by gain code and converter as `2 × gain + B`: offset and gain. -/
opaque Config.trimFactory : (fe index : Nat) → Int × Int
/-- Factory configuration cells 448 to 511 of the tally array (R505). -/
opaque Config.factoryCells : Nat
/-- Local queue-pair number of a channel. -/
opaque Config.localQpn : Nat → Nat
/-- Public keys of the boot ROM for firmware (R501): key identifier to 32 bytes, where the ROM holds it. -/
opaque Config.bootKey : Nat → Option (List Nat)
/-- What a firmware file holds beyond its header, read from its body bytes (R121, R82, R476): spec/ gives the
compatibility table and the key lists no byte layout. -/
opaque Config.fwBody : List Nat → FwDesc

/-! ### Open values -/

/-- Whether a quantity that spec/ gives without a rounding rule is rounded up; `site` names the quantity. -/
opaque Config.roundUp : (site num den : Nat) → Bool
/-- GOV_CYCLE_EST where a window counted no ring period at all (R36 divides by N_min). -/
opaque Config.cycleOpen : Nat → Nat
/-- SHADING where the white and the dark code of a pixel are equal, by the code and the dark code (R313 divides by their difference). -/
opaque Config.shadeOpen : (code d : Nat) → Nat
/-- An open value of the kind `site`, by the index of its use. -/
opaque Config.freeValue : (site index : Nat) → Nat
/-- What the identity memory of a tile position holds when a TILE_BIND that comes as a TMP write reads it. -/
opaque Config.tileRead : (pos index : Nat) → TileRead
/-- Which solver systems an abort that comes as a TMP write cuts, and after how many operations. -/
opaque Config.abortCuts : (index : Nat) → List SolCut
/-- An open truth value of the kind `site`, by the index of its use. -/
opaque Config.freeBool : (site index : Nat) → Bool

end Sys2Proof
end

