-- ==== Sys2Proof/Machine/Sparse.lean ====
section
/-!
DEFINITION. Sparse stores: keys with values in ONE canonical form (keys strictly rising, no entry equal to
what an unlisted key reads as). The register file, the addressed buffers and the per-pixel planes use it.
-/
namespace Sys2Proof.Machine

/-- What key `k` reads as: its entry, or `d` where none is listed. -/
def Sparse.get {α : Type} (d : α) : List (Nat × α) → Nat → α
  | [], _ => d
  | (j, v) :: m, k => if k = j then v else Sparse.get d m k

/-- Key `k` no longer listed. -/
def Sparse.erase {α : Type} (m : List (Nat × α)) (k : Nat) : List (Nat × α) := m.filter fun e => e.1 != k

/-- Key `k` set to `v`; an entry equal to `d` is not kept, so equal stores are equal lists. -/
def Sparse.put {α : Type} [DecidableEq α] (d : α) : List (Nat × α) → Nat → α → List (Nat × α)
  | [], k, v => if v = d then [] else [(k, v)]
  | (j, w) :: m, k, v =>
    if k < j then (if v = d then (j, w) :: Sparse.erase m k else (k, v) :: (j, w) :: m)
    else if k = j then (if v = d then Sparse.erase m k else (k, v) :: m)
    else (j, w) :: Sparse.put d m k v

/-- Every key of the list is above `b`. -/
def Sparse.above {α : Type} (b : Nat) (m : List (Nat × α)) : Bool := m.all fun e => decide (b < e.1)

/-- The canonical form. -/
def Sparse.wf {α : Type} [DecidableEq α] (d : α) : List (Nat × α) → Bool
  | [] => true
  | (j, v) :: m => decide (v ≠ d) && Sparse.above j m && Sparse.wf d m

/-- Successive values stored from key `k` upward. -/
def Sparse.puts {α : Type} [DecidableEq α] (d : α) (m : List (Nat × α)) (k : Nat) : List α → List (Nat × α)
  | [] => m
  | v :: vs => Sparse.puts d (Sparse.put d m k v) (k + 1) vs

/-- `n` successive values from key `k`. -/
def Sparse.gets {α : Type} (d : α) (m : List (Nat × α)) (k : Nat) : Nat → List α
  | 0 => []
  | n + 1 => Sparse.get d m k :: Sparse.gets d m (k + 1) n

/-- An addressed byte buffer. An unlisted byte reads as 0. -/
abbrev Mem := List Host.Cell

/-- A byte of a buffer, as a number. -/
def Mem.byte (m : Mem) (a : Nat) : Nat := (Sparse.get 0#8 m a).toNat

/-- `n` bytes of a buffer from address `a`. -/
def Mem.bytes (m : Mem) (a n : Nat) : List Nat := (Sparse.gets 0#8 m a n).map BitVec.toNat

/-- Bytes stored from address `a` upward. -/
def Mem.store (m : Mem) (a : Nat) (bs : List Nat) : Mem := Sparse.puts 0#8 m a (bs.map (BitVec.ofNat 8))

/-- A little-endian word of `n` bytes at address `a` (R8). -/
def Mem.le (m : Mem) (a n : Nat) : Nat := leVal (m.bytes a n)

/-- The canonical form of a buffer. -/
abbrev Memory.wf (m : Mem) : Bool := Sparse.wf 0#8 m

end Sys2Proof.Machine
end

