-- ==== Sys2Proof/Machine/RegFile.lean ====
section
/-!
DEFINITION. Register fields and the register file (R10 to R15). A field has ONE home: its address and its
least significant bit. The file lists, under that key, the exclusive-or of the field's value with its reset
value, so a register at its reset value is not listed and the canonical form of Sparse needs no table.
-/
namespace Sys2Proof.Machine

/-- The access codes of R12. -/
inductive Access where
  | ro | rw | w1c | wo | ct
  deriving DecidableEq, Repr

/-- A named field of a register: address, bit position, width, reset value, access code and the range that
R14 judges a write against. -/
structure Fld where
  addr : Nat
  lsb : Nat
  width : Nat
  reset : Nat
  acc : Access
  lo : Nat
  hi : Nat
  deriving DecidableEq, Repr

/-- A field whose whole code space is in range. -/
def fld (addr lsb width reset : Nat) (acc : Access) : Fld := ⟨addr, lsb, width, reset, acc, 0, 2 ^ width - 1⟩

/-- A field whose table or chapter gives a range (R14). -/
def fldR (addr lsb width reset : Nat) (acc : Access) (lo hi : Nat) : Fld := ⟨addr, lsb, width, reset, acc, lo, hi⟩

/-- The key of a field in the register file. -/
def Fld.key (f : Fld) : Nat := f.addr * 32 + f.lsb

/-- The register file: key of a field, and its value exclusive-or its reset value. -/
abbrev RegFile := List (Nat × Nat)

/-- The value of a field. -/
def RegFile.get (r : RegFile) (f : Fld) : Nat := Sparse.get 0 r f.key ^^^ f.reset

/-- A field set to the low `width` bits of a value. -/
def RegFile.set (r : RegFile) (f : Fld) (v : Nat) : RegFile :=
  Sparse.put 0 r f.key ((v % 2 ^ f.width) ^^^ f.reset)

/-- One register of a register table: its address, the strides and counts of its indices, its fields at
index 0. -/
structure RegRow where
  base : Nat
  dims : List (Nat × Nat)
  flds : List Fld
  deriving Repr

/-- The address is one of the register's instances. -/
def RegRow.holds (r : RegRow) (addr : Nat) : Bool :=
  decide (r.base ≤ addr) &&
    match r.dims with
    | [] => addr == r.base
    | [(s, c)] => (addr - r.base) % s == 0 && decide ((addr - r.base) / s < c)
    | (s, c) :: (s2, c2) :: _ =>
      decide ((addr - r.base) / s < c) && (addr - r.base) % s % s2 == 0 && decide ((addr - r.base) % s / s2 < c2)

/-- The fields of the instance at an address. -/
def RegRow.fieldsFor (r : RegRow) (addr : Nat) : List Fld :=
  r.flds.map fun f => { f with addr := f.addr + (addr - r.base) }

/-- The field of a register word (R7). -/
def Fld.ofWord (f : Fld) (w : Nat) : Nat := bits w f.lsb f.width

end Sys2Proof.Machine
end

