-- ==== Sys2Proof/Machine/RegsA.lean ====
section
/-!
DEFINITION. The named register fields, written from the register tables of spec/ (chapters 02, 03, 04, 05, 06; R12 to R15).
A field of an indexed register takes its index. Reset 0 stands where the table has a dash (log entry 2).
-/
namespace Sys2Proof.Machine


/-! Registers of spec/02_self_timed_engine.md -/

def GOV_CTRL.TIER_MIN : Fld := fld 0x10000 0 2 0 .rw
def GOV_CTRL.TIER_MAX : Fld := fld 0x10000 4 2 0 .rw
def GOV_VLIMIT.VFLOOR : Fld := fldR 0x10004 0 5 8 .rw 0 8
def GOV_VLIMIT.VSTART : Fld := fldR 0x10004 8 5 8 .rw 0 16
def GOV_DEADLINE.DL : Fld := fld 0x10008 0 24 0 .ro
def GOV_SLACK_LOW.LOW : Fld := fld 0x1000c 0 24 0 .rw
def GOV_SLACK_HIGH.HIGH : Fld := fld 0x10010 0 24 0 .rw
def GOV_STATE.TIER : Fld := fld 0x10014 0 2 0 .ro
def GOV_STATE.PREDICTING : Fld := fld 0x10014 4 1 0 .ro
def GOV_STATE.VCODE : Fld := fld 0x10014 8 5 8 .ro
def GOV_STATE.LOCKOUT : Fld := fld 0x10014 16 5 0 .ro
def GOV_STATE.RUNLEN : Fld := fld 0x10014 24 5 0 .ro
def GOV_STATE.RUNKIND : Fld := fld 0x10014 29 2 0 .ro
def GOV_LAST_SLACK.SLACK : Fld := fld 0x10018 0 32 0 .ro
def GOV_LAST_FRAME.FRAME : Fld := fld 0x1001c 0 32 0 .ro
def GOV_MIN_SLACK.SLACK : Fld := fld 0x10020 0 32 2147483647 .ro
def GOV_LATE_COUNT.COUNT : Fld := fld 0x10024 0 32 0 .ro
def GOV_DECIM_COUNT.COUNT : Fld := fld 0x10028 0 32 0 .ro
def GOV_OVF_COUNT.COUNT : Fld := fld 0x1002c 0 32 0 .ro
def GOV_TIER_FRAMES_0.COUNT : Fld := fld 0x10030 0 32 0 .ro
def GOV_TIER_FRAMES_1.COUNT : Fld := fld 0x10034 0 32 0 .ro
def GOV_TIER_FRAMES_2.COUNT : Fld := fld 0x10038 0 32 0 .ro
def GOV_TIER_FRAMES_3.COUNT : Fld := fld 0x1003c 0 32 0 .ro
def GOV_CLR.CLR_COUNTS : Fld := fld 0x10040 0 1 0 .wo
def GOV_CLR.CLR_MIN : Fld := fld 0x10040 1 1 0 .wo
def GOV_EVENTS.TIER_UP : Fld := fld 0x10044 0 1 0 .w1c
def GOV_EVENTS.TIER_DOWN : Fld := fld 0x10044 1 1 0 .w1c
def GOV_EVENTS.AT_VMAX : Fld := fld 0x10044 2 1 0 .w1c
def GOV_EVENTS.LATE : Fld := fld 0x10044 3 1 0 .w1c
def GOV_EVENTS.OVF : Fld := fld 0x10044 4 1 0 .w1c
def GOV_EVENTS.REF_SWITCH : Fld := fld 0x10044 5 1 0 .w1c
def GOV_EVENTS.DLL_UNLOCK : Fld := fld 0x10044 6 1 0 .w1c
def GOV_RO_COUNT.N_MIN : Fld := fld 0x10050 0 16 0 .ro
def GOV_RO_COUNT.INDEX : Fld := fld 0x10050 16 3 0 .ro
def GOV_RO_SCALE.SCALE : Fld := fld 0x10054 0 16 0 .ro
def GOV_CYCLE_EST.CYCLE : Fld := fld 0x10058 0 12 0 .ro
def GOV_RO_VSENS.VSENS : Fld := fld 0x1005c 0 16 0 .ro
def GOV_WORK_0.W : Fld := fld 0x10060 0 24 0 .ro
def GOV_WORK_1.W : Fld := fld 0x10064 0 24 0 .ro
def GOV_WORK_2.W : Fld := fld 0x10068 0 24 0 .ro
def GOV_WORK_3.W : Fld := fld 0x1006c 0 24 0 .ro
def GOV_FIXED.F : Fld := fld 0x10070 0 16 0 .ro
def GOV_REF_CTRL.SRC_SEL : Fld := fldR 0x10100 0 2 0 .rw 0 2
def GOV_REF_STATUS.SRC : Fld := fld 0x10104 0 1 0 .ro
def GOV_REF_STATUS.EXT_VALID : Fld := fld 0x10104 1 1 0 .ro
def GOV_REF_STATUS.QUALIFIED : Fld := fld 0x10104 2 1 0 .ro
def GOV_REF_STATUS.HOLDOVER : Fld := fld 0x10104 3 1 0 .ro
def GOV_REF_STATUS.EXT_SEEN : Fld := fld 0x10104 4 1 0 .ro
def GOV_REF_STATUS.DLL_LOCK : Fld := fld 0x10104 5 1 0 .ro
def GOV_REF_FREQ.EXT_FREQ : Fld := fld 0x10108 0 16 0 .ro
def GOV_REF_LOSS_COUNT.COUNT : Fld := fld 0x1010c 0 16 0 .ro
def GOV_REF_HOLD_TIME.SECONDS : Fld := fld 0x10110 0 24 0 .ro

/-! Registers of spec/03_fabric_images.md -/

def IMG_STATUS.SRC : Fld := fld 0x20000 0 3 7 .ro
def IMG_STATUS.FALLBACK : Fld := fld 0x20000 4 1 0 .w1c
def IMG_STATUS.COMPAT : Fld := fld 0x20000 8 2 0 .ro
def IMG_STATUS.OVERRIDE : Fld := fld 0x20000 10 1 0 .ro
def IMG_STATUS.LOADING : Fld := fld 0x20000 12 1 0 .ro
def IMG_STATUS.TESTPORT : Fld := fld 0x20000 13 1 0 .ro
def IMG_ACTIVE_ID_LO.ID : Fld := fld 0x20004 0 32 0 .ro
def IMG_ACTIVE_ID_HI.ID : Fld := fld 0x20008 0 32 0 .ro
def IMG_ACTIVE_VER.VER : Fld := fld 0x2000c 0 32 0 .ro
def IMG_ACTIVE_INFO.ARB_EPOCH : Fld := fld 0x20010 0 8 0 .ro
def IMG_ACTIVE_INFO.TILE_TYPE : Fld := fld 0x20010 8 8 0 .ro
def IMG_ACTIVE_INFO.TILE_MASK : Fld := fld 0x20010 16 8 0 .ro
def IMG_ACTIVE_IFACE0.REG : Fld := fld 0x20014 0 16 0 .ro
def IMG_ACTIVE_IFACE0.REC : Fld := fld 0x20014 16 16 0 .ro
def IMG_ACTIVE_IFACE1.SCHED : Fld := fld 0x20018 0 16 0 .ro
def IMG_ACTIVE_IFACE1.CAR : Fld := fld 0x20018 16 16 0 .ro
def IMG_PRIMARY.SLOT : Fld := fld 0x20020 0 2 0 .rw
def IMG_GOLDEN.LOCKED : Fld := fld 0x20024 0 1 1 .ro
def IMG_GOLDEN.UNLOCKS_LEFT : Fld := fld 0x20024 8 3 0 .ro
def IMG_GOLDEN_UNLOCK.UNLOCK : Fld := fld 0x20028 0 1 0 .ct
def IMG_ARB_EPOCH.EPOCH : Fld := fld 0x2002c 0 8 0 .ro
def IMG_STAGE_LEN.LEN : Fld := fld 0x20030 0 27 0 .rw
def IMG_STAGE_CTRL.CLEAR : Fld := fld 0x20034 0 1 0 .wo
def IMG_SLOTn_STATUS.STATE (n : Nat) : Fld := fld (0x20040 + 0x10 * n) 0 2 0 .ro
def IMG_SLOTn_STATUS.WRITING (n : Nat) : Fld := fld (0x20040 + 0x10 * n) 3 1 0 .ro
def IMG_SLOTn_STATUS.COPY (n : Nat) : Fld := fld (0x20040 + 0x10 * n) 4 1 0 .ro
def IMG_SLOTn_STATUS.REASON (n : Nat) : Fld := fld (0x20040 + 0x10 * n) 8 4 0 .ro
def IMG_SLOTn_STATUS.ARB_EPOCH (n : Nat) : Fld := fld (0x20040 + 0x10 * n) 16 8 0 .ro
def IMG_SLOTn_ID_LO.ID (n : Nat) : Fld := fld (0x20044 + 0x10 * n) 0 32 0 .ro
def IMG_SLOTn_ID_HI.ID (n : Nat) : Fld := fld (0x20048 + 0x10 * n) 0 32 0 .ro
def IMG_SLOTn_VER.VER (n : Nat) : Fld := fld (0x2004c + 0x10 * n) 0 32 0 .ro
def IMG_LAST_LOAD.REASON : Fld := fld 0x20080 0 4 0 .ro
def IMG_LAST_LOAD.SRC : Fld := fld 0x20080 4 3 0 .ro
def IMG_LAST_LOAD.COMPAT : Fld := fld 0x20080 8 2 0 .ro
def IMG_LAST_LOAD.OUTCOME : Fld := fld 0x20080 12 2 0 .ro
def IMG_FAIL_FRAME.FRAME : Fld := fld 0x20084 0 17 0 .ro
def IMG_FAIL_SECTION.INDEX : Fld := fld 0x20088 0 6 63 .ro
def IMG_TP_STATUS.STAT : Fld := fld 0x20090 0 24 0 .ro

/-! Registers of spec/04_bring_up.md -/

def ENG_ID_STEPPING.STEPPING : Fld := fld 0x100 0 16 0 .ro
def ENG_ID_FIRMWARE.VER : Fld := fld 0x104 0 32 0 .ro
def ENG_ID_CARRIER.REV : Fld := fld 0x108 0 8 0 .ro
def ENG_ID_CARRIER.JESOR_MIN : Fld := fld 0x108 8 8 0 .ro
def ENG_ID_CARRIER.JESOR_MAX : Fld := fld 0x108 16 8 0 .ro
def ENG_IFACE_STEP_i.EPOCH (n : Nat) : Fld := fld (0x110 + 0x4 * n) 0 16 0 .ro
def ENG_IFACE_STEP_i.OLDEST (n : Nat) : Fld := fld (0x110 + 0x4 * n) 16 16 0 .ro
def ENG_IFACE_FW_i.EPOCH (n : Nat) : Fld := fld (0x120 + 0x4 * n) 0 16 0 .ro
def ENG_IFACE_FW_i.OLDEST (n : Nat) : Fld := fld (0x120 + 0x4 * n) 16 16 0 .ro
def ENG_IFACE_CAR.EPOCH : Fld := fld 0x12c 0 16 0 .ro
def ENG_IFACE_CAR.OLDEST : Fld := fld 0x12c 16 16 0 .ro
def ENG_IMG_OLDEST0.REG : Fld := fld 0x130 0 16 0 .ro
def ENG_IMG_OLDEST0.REC : Fld := fld 0x130 16 16 0 .ro
def ENG_IMG_OLDEST1.SCHED : Fld := fld 0x134 0 16 0 .ro
def ENG_IMG_OLDEST1.CAR : Fld := fld 0x134 16 16 0 .ro
def ENG_COMPAT.PAIR_TESTED : Fld := fld 0x140 0 6 0 .ro
def ENG_COMPAT.IFACE_FAIL : Fld := fld 0x140 8 4 0 .ro
def ENG_COMPAT.OUTCOME : Fld := fld 0x140 16 2 0 .ro
def ENG_COMPAT_TABLE.ENTRIES : Fld := fld 0x144 0 16 0 .ro
def ENG_QUAR_OVERRIDE.OVERRIDE : Fld := fld 0x148 0 1 0 .ct
def ENG_OVERRIDE_LEFT.LEFT : Fld := fld 0x14c 0 4 0 .ro
def FPL_POSn_STATE.STATE (n : Nat) : Fld := fld (0x40f00 + 0x4 * n) 0 3 0 .ro
def FPL_POSn_STATE.TYPE (n : Nat) : Fld := fld (0x40f00 + 0x4 * n) 8 2 0 .ro
def FPL_POSn_STATE.BASE_OK (n : Nat) : Fld := fld (0x40f00 + 0x4 * n) 12 1 0 .ro
def FPL_POSn_SERIAL_LO.SERIAL (n : Nat) : Fld := fld (0x40f20 + 0x8 * n) 0 32 0 .ro
def FPL_POSn_SERIAL_HI.SERIAL (n : Nat) : Fld := fld (0x40f24 + 0x8 * n) 0 32 0 .ro
def FPL_POSn_BOUND_LO.SERIAL (n : Nat) : Fld := fld (0x40f60 + 0x8 * n) 0 32 0 .ro
def FPL_POSn_BOUND_HI.SERIAL (n : Nat) : Fld := fld (0x40f64 + 0x8 * n) 0 32 0 .ro
def FPL_CARRIER.TYPE : Fld := fld 0x40fa0 0 2 0 .ro
def FPL_CARRIER.BOUND_MASK : Fld := fld 0x40fa0 8 8 0 .ro
def FPL_CARRIER.PRESENT_MASK : Fld := fld 0x40fa0 16 8 0 .ro
def FPL_BIND_LEFT.LEFT : Fld := fld 0x40fa4 0 7 0 .ro

/-! Registers of spec/05_mains_and_ladder.md -/

def PWR_TARGET.STATE : Fld := fldR 0x30000 0 3 0 .rw 0 5
def PWR_STATUS.STATE : Fld := fld 0x30004 0 3 0 .ro
def PWR_STATUS.MOVING : Fld := fld 0x30004 4 1 0 .ro
def PWR_STATUS.PFW : Fld := fld 0x30004 8 1 0 .ro
def PWR_STATUS.SOURCE : Fld := fld 0x30004 9 2 0 .ro
def PWR_STATUS.AC_OK : Fld := fld 0x30004 11 1 0 .ro
def PWR_STATUS.DC_OK : Fld := fld 0x30004 12 1 0 .ro
def PWR_STATUS.SETTLING : Fld := fld 0x30004 16 1 0 .ro
def PWR_CTRL.DRAM_HOLD : Fld := fld 0x30008 0 1 1 .rw
def PWR_CTRL.WAKE_TRIG0 : Fld := fld 0x30008 4 1 0 .rw
def PWR_CTRL.WAKE_TRIG1 : Fld := fld 0x30008 5 1 0 .rw
def PWR_DRAIN_LIMIT.MS : Fld := fld 0x3000c 0 16 5000 .rw
def PWR_PORT_HOLD.PORTn : Fld := fld 0x30010 0 4 0 .rw
def PWR_EVENTS.PFW_RAISED : Fld := fld 0x30014 0 1 0 .w1c
def PWR_EVENTS.PFW_CLEARED : Fld := fld 0x30014 1 1 0 .w1c
def PWR_EVENTS.SRC_SWITCH : Fld := fld 0x30014 2 1 0 .w1c
def PWR_EVENTS.WAKE_TRIG : Fld := fld 0x30014 3 1 0 .w1c
def PWR_EVENTS.DISCARD : Fld := fld 0x30014 4 1 0 .w1c
def PWR_EVENTS.ASCENT_DEFERRED : Fld := fld 0x30014 5 1 0 .w1c
def PWR_DIP_COUNT.COUNT : Fld := fld 0x30018 0 32 0 .ro
def PWR_FAIL_COUNT.COUNT : Fld := fld 0x3001c 0 32 0 .ro
def PWR_DISCARD_COUNT.COUNT : Fld := fld 0x30020 0 32 0 .ro
def PWR_LAST_EXIT.US : Fld := fld 0x30024 0 24 0 .ro
def PWR_LAST_EXIT.FROM : Fld := fld 0x30024 24 3 0 .ro
def PWR_AC_VRMS.V : Fld := fld 0x30030 0 16 0 .ro
def PWR_AC_FREQ.HZ : Fld := fld 0x30034 0 16 0 .ro
def PWR_DC_V.V : Fld := fld 0x30038 0 16 0 .ro
def PWR_INPUT_W.W : Fld := fld 0x3003c 0 16 0 .ro
def PWR_BLACK_ADVANCE_LO.TICKS : Fld := fld 0x30040 0 32 0 .ro
def PWR_BLACK_ADVANCE_HI.TICKS : Fld := fld 0x30044 0 32 0 .ro

/-! Registers of spec/06_focal_plane.md -/

def FPL_EPOCH.EPOCH : Fld := fld 0x40000 0 16 0 .wo
def FPL_EPOCH_STATE.COMMITTED : Fld := fld 0x40004 0 16 0 .ro
def FPL_EPOCH_STATE.PENDING : Fld := fld 0x40004 16 1 0 .ro
def FPL_EPOCH_STATE.LAST_REFUSE : Fld := fld 0x40004 20 4 0 .ro
def FPL_EPOCH_APPLIED.EPOCH : Fld := fld 0x40008 0 16 0 .ro
def FPL_COMMIT_TICK_LO.TICK : Fld := fld 0x4000c 0 32 0 .ro
def FPL_COMMIT_TICK_HI.TICK : Fld := fld 0x40010 0 32 0 .ro
def FPL_EVENTS.STRETCH : Fld := fld 0x40014 0 1 0 .w1c
def FPL_EVENTS.SUPERSEDED : Fld := fld 0x40014 1 1 0 .w1c
def FPL_EVENTS.REFUSED : Fld := fld 0x40014 2 1 0 .w1c
def FPL_EVENTS.OVERRUN : Fld := fld 0x40014 3 1 0 .w1c
def FPL_EVENTS.TS_DISAGREE : Fld := fld 0x40014 4 1 0 .w1c
def FPL_STRETCH_COUNT.COUNT : Fld := fld 0x40018 0 32 0 .ro
def FPL_SUPERSEDE_COUNT.COUNT : Fld := fld 0x4001c 0 32 0 .ro
def FPL_OVERRUN_COUNT.COUNT : Fld := fld 0x40020 0 32 0 .ro
def FPL_SH_PROG.PROG : Fld := fld 0x40100 0 4 0 .rw
def FPL_SH_INT.INT : Fld := fld 0x40104 0 27 0 .rw
def FPL_SH_PERIOD.PERIOD : Fld := fldR 0x40108 0 24 0 .rw 1 0xFFFFFF
def FPL_SH_GAIN.GAINn (k : Nat) : Fld := fld 0x4010c (2 * k) 2 0 .rw
def FPL_SH_BIASn.VDET (n : Nat) : Fld := fld (0x40120 + 0x4 * n) 0 12 0 .rw
def FPL_SH_BIASn.VSKIM (n : Nat) : Fld := fld (0x40120 + 0x4 * n) 16 12 0 .rw
def FPL_ACT_PROG.PROG : Fld := fld 0x40200 0 4 0 .ro
def FPL_ACT_INT.INT : Fld := fld 0x40204 0 27 0 .ro
def FPL_ACT_PERIOD.PERIOD : Fld := fld 0x40208 0 24 0 .ro
def FPL_ACT_GAIN.GAINn (k : Nat) : Fld := fld 0x4020c (2 * k) 2 0 .ro
def FPL_ACT_BIASn.VDET (n : Nat) : Fld := fld (0x40220 + 0x4 * n) 0 12 0 .ro
def FPL_ACT_BIASn.VSKIM (n : Nat) : Fld := fld (0x40220 + 0x4 * n) 16 12 0 .ro
def FPL_GEOMn_X.X (n : Nat) : Fld := fld (0x40300 + 0x10 * n) 0 32 0 .rw
def FPL_GEOMn_Y.Y (n : Nat) : Fld := fld (0x40304 + 0x10 * n) 0 32 0 .rw
def FPL_GEOMn_ORIENT.FLIP_X (n : Nat) : Fld := fld (0x40308 + 0x10 * n) 0 1 0 .rw
def FPL_GEOMn_ORIENT.FLIP_Y (n : Nat) : Fld := fld (0x40308 + 0x10 * n) 1 1 0 .rw
def FPL_PG_STATUS.ACQ_PROG : Fld := fld 0x40400 0 4 0 .ro
def FPL_PG_STATUS.IDLE_PROG : Fld := fld 0x40400 4 4 0 .ro
def FPL_PG_STATUS.EXP_RUN : Fld := fld 0x40400 8 1 0 .ro
def FPL_PG_STATUS.READ_RUN : Fld := fld 0x40400 9 1 0 .ro
def FPL_PG_STATUS.IDLE_RUN : Fld := fld 0x40400 10 1 0 .ro
def FPL_PG_STEPS_USED.STEPS : Fld := fld 0x40404 0 14 0 .ro
def FPL_PGn_INFO.PRESENT (n : Nat) : Fld := fld (0x40410 + 0x10 * n) 0 1 0 .ro
def FPL_PGn_INFO.ROLE (n : Nat) : Fld := fld (0x40410 + 0x10 * n) 1 2 0 .ro
def FPL_PGn_INFO.STEPS (n : Nat) : Fld := fld (0x40410 + 0x10 * n) 16 11 0 .ro
def FPL_PGn_ELEN.E (n : Nat) : Fld := fld (0x40414 + 0x10 * n) 0 32 0 .ro
def FPL_PGn_RLEN.L (n : Nat) : Fld := fld (0x40418 + 0x10 * n) 0 32 0 .ro
def FPL_PGn_GUARD.GUARD (n : Nat) : Fld := fld (0x4041c + 0x10 * n) 0 32 0 .ro
def FPL_TEMPn.TSA (n : Nat) : Fld := fld (0x40600 + 0x4 * n) 0 16 0 .ro
def FPL_TEMPn.TSB (n : Nat) : Fld := fld (0x40600 + 0x4 * n) 16 16 0 .ro
def FPL_IDn_WORDi.BYTES (n i : Nat) : Fld := fld (0x41000 + 0x100 * n + 0x4 * i) 0 32 0 .ro

/-- Rows of the register table, chapter 02, block 0x1 (part 0). -/
def regRows02_1_0 : List RegRow := [
  ⟨0x10000, [], [GOV_CTRL.TIER_MIN, GOV_CTRL.TIER_MAX]⟩,
  ⟨0x10004, [], [GOV_VLIMIT.VFLOOR, GOV_VLIMIT.VSTART]⟩,
  ⟨0x10008, [], [GOV_DEADLINE.DL]⟩,
  ⟨0x1000c, [], [GOV_SLACK_LOW.LOW]⟩,
  ⟨0x10010, [], [GOV_SLACK_HIGH.HIGH]⟩,
  ⟨0x10014, [], [GOV_STATE.TIER, GOV_STATE.PREDICTING, GOV_STATE.VCODE, GOV_STATE.LOCKOUT, GOV_STATE.RUNLEN, GOV_STATE.RUNKIND]⟩,
  ⟨0x10018, [], [GOV_LAST_SLACK.SLACK]⟩,
  ⟨0x1001c, [], [GOV_LAST_FRAME.FRAME]⟩,
  ⟨0x10020, [], [GOV_MIN_SLACK.SLACK]⟩,
  ⟨0x10024, [], [GOV_LATE_COUNT.COUNT]⟩,
  ⟨0x10028, [], [GOV_DECIM_COUNT.COUNT]⟩,
  ⟨0x1002c, [], [GOV_OVF_COUNT.COUNT]⟩,
  ⟨0x10030, [], [GOV_TIER_FRAMES_0.COUNT]⟩,
  ⟨0x10034, [], [GOV_TIER_FRAMES_1.COUNT]⟩,
  ⟨0x10038, [], [GOV_TIER_FRAMES_2.COUNT]⟩,
  ⟨0x1003c, [], [GOV_TIER_FRAMES_3.COUNT]⟩,
  ⟨0x10040, [], [GOV_CLR.CLR_COUNTS, GOV_CLR.CLR_MIN]⟩,
  ⟨0x10044, [], [GOV_EVENTS.TIER_UP, GOV_EVENTS.TIER_DOWN, GOV_EVENTS.AT_VMAX, GOV_EVENTS.LATE, GOV_EVENTS.OVF, GOV_EVENTS.REF_SWITCH, GOV_EVENTS.DLL_UNLOCK]⟩,
  ⟨0x10050, [], [GOV_RO_COUNT.N_MIN, GOV_RO_COUNT.INDEX]⟩,
  ⟨0x10054, [], [GOV_RO_SCALE.SCALE]⟩,
  ⟨0x10058, [], [GOV_CYCLE_EST.CYCLE]⟩,
  ⟨0x1005c, [], [GOV_RO_VSENS.VSENS]⟩,
  ⟨0x10060, [], [GOV_WORK_0.W]⟩,
  ⟨0x10064, [], [GOV_WORK_1.W]⟩,
  ⟨0x10068, [], [GOV_WORK_2.W]⟩,
  ⟨0x1006c, [], [GOV_WORK_3.W]⟩,
  ⟨0x10070, [], [GOV_FIXED.F]⟩,
  ⟨0x10100, [], [GOV_REF_CTRL.SRC_SEL]⟩,
  ⟨0x10104, [], [GOV_REF_STATUS.SRC, GOV_REF_STATUS.EXT_VALID, GOV_REF_STATUS.QUALIFIED, GOV_REF_STATUS.HOLDOVER, GOV_REF_STATUS.EXT_SEEN, GOV_REF_STATUS.DLL_LOCK]⟩,
  ⟨0x10108, [], [GOV_REF_FREQ.EXT_FREQ]⟩,
  ⟨0x1010c, [], [GOV_REF_LOSS_COUNT.COUNT]⟩,
  ⟨0x10110, [], [GOV_REF_HOLD_TIME.SECONDS]⟩]

/-- The register table of chapter 02, block 0x1. -/
def regRows02_1 : List RegRow := regRows02_1_0

/-- Rows of the register table, chapter 03, block 0x2 (part 0). -/
def regRows03_2_0 : List RegRow := [
  ⟨0x20000, [], [IMG_STATUS.SRC, IMG_STATUS.FALLBACK, IMG_STATUS.COMPAT, IMG_STATUS.OVERRIDE, IMG_STATUS.LOADING, IMG_STATUS.TESTPORT]⟩,
  ⟨0x20004, [], [IMG_ACTIVE_ID_LO.ID]⟩,
  ⟨0x20008, [], [IMG_ACTIVE_ID_HI.ID]⟩,
  ⟨0x2000c, [], [IMG_ACTIVE_VER.VER]⟩,
  ⟨0x20010, [], [IMG_ACTIVE_INFO.ARB_EPOCH, IMG_ACTIVE_INFO.TILE_TYPE, IMG_ACTIVE_INFO.TILE_MASK]⟩,
  ⟨0x20014, [], [IMG_ACTIVE_IFACE0.REG, IMG_ACTIVE_IFACE0.REC]⟩,
  ⟨0x20018, [], [IMG_ACTIVE_IFACE1.SCHED, IMG_ACTIVE_IFACE1.CAR]⟩,
  ⟨0x20020, [], [IMG_PRIMARY.SLOT]⟩,
  ⟨0x20024, [], [IMG_GOLDEN.LOCKED, IMG_GOLDEN.UNLOCKS_LEFT]⟩,
  ⟨0x20028, [], [IMG_GOLDEN_UNLOCK.UNLOCK]⟩,
  ⟨0x2002c, [], [IMG_ARB_EPOCH.EPOCH]⟩,
  ⟨0x20030, [], [IMG_STAGE_LEN.LEN]⟩,
  ⟨0x20034, [], [IMG_STAGE_CTRL.CLEAR]⟩,
  ⟨0x20040, [(0x10, 4)], [IMG_SLOTn_STATUS.STATE 0, IMG_SLOTn_STATUS.WRITING 0, IMG_SLOTn_STATUS.COPY 0, IMG_SLOTn_STATUS.REASON 0, IMG_SLOTn_STATUS.ARB_EPOCH 0]⟩,
  ⟨0x20044, [(0x10, 4)], [IMG_SLOTn_ID_LO.ID 0]⟩,
  ⟨0x20048, [(0x10, 4)], [IMG_SLOTn_ID_HI.ID 0]⟩,
  ⟨0x2004c, [(0x10, 4)], [IMG_SLOTn_VER.VER 0]⟩,
  ⟨0x20080, [], [IMG_LAST_LOAD.REASON, IMG_LAST_LOAD.SRC, IMG_LAST_LOAD.COMPAT, IMG_LAST_LOAD.OUTCOME]⟩,
  ⟨0x20084, [], [IMG_FAIL_FRAME.FRAME]⟩,
  ⟨0x20088, [], [IMG_FAIL_SECTION.INDEX]⟩,
  ⟨0x20090, [], [IMG_TP_STATUS.STAT]⟩]

/-- The register table of chapter 03, block 0x2. -/
def regRows03_2 : List RegRow := regRows03_2_0

/-- Rows of the register table, chapter 04, block 0x0 (part 0). -/
def regRows04_0_0 : List RegRow := [
  ⟨0x100, [], [ENG_ID_STEPPING.STEPPING]⟩,
  ⟨0x104, [], [ENG_ID_FIRMWARE.VER]⟩,
  ⟨0x108, [], [ENG_ID_CARRIER.REV, ENG_ID_CARRIER.JESOR_MIN, ENG_ID_CARRIER.JESOR_MAX]⟩,
  ⟨0x110, [(0x4, 4)], [ENG_IFACE_STEP_i.EPOCH 0, ENG_IFACE_STEP_i.OLDEST 0]⟩,
  ⟨0x120, [(0x4, 3)], [ENG_IFACE_FW_i.EPOCH 0, ENG_IFACE_FW_i.OLDEST 0]⟩,
  ⟨0x12c, [], [ENG_IFACE_CAR.EPOCH, ENG_IFACE_CAR.OLDEST]⟩,
  ⟨0x130, [], [ENG_IMG_OLDEST0.REG, ENG_IMG_OLDEST0.REC]⟩,
  ⟨0x134, [], [ENG_IMG_OLDEST1.SCHED, ENG_IMG_OLDEST1.CAR]⟩,
  ⟨0x140, [], [ENG_COMPAT.PAIR_TESTED, ENG_COMPAT.IFACE_FAIL, ENG_COMPAT.OUTCOME]⟩,
  ⟨0x144, [], [ENG_COMPAT_TABLE.ENTRIES]⟩,
  ⟨0x148, [], [ENG_QUAR_OVERRIDE.OVERRIDE]⟩,
  ⟨0x14c, [], [ENG_OVERRIDE_LEFT.LEFT]⟩]

/-- The register table of chapter 04, block 0x0. -/
def regRows04_0 : List RegRow := regRows04_0_0

/-- Rows of the register table, chapter 04, block 0x4 (part 0). -/
def regRows04_4_0 : List RegRow := [
  ⟨0x40f00, [(0x4, 8)], [FPL_POSn_STATE.STATE 0, FPL_POSn_STATE.TYPE 0, FPL_POSn_STATE.BASE_OK 0]⟩,
  ⟨0x40f20, [(0x8, 8)], [FPL_POSn_SERIAL_LO.SERIAL 0]⟩,
  ⟨0x40f24, [(0x8, 8)], [FPL_POSn_SERIAL_HI.SERIAL 0]⟩,
  ⟨0x40f60, [(0x8, 8)], [FPL_POSn_BOUND_LO.SERIAL 0]⟩,
  ⟨0x40f64, [(0x8, 8)], [FPL_POSn_BOUND_HI.SERIAL 0]⟩,
  ⟨0x40fa0, [], [FPL_CARRIER.TYPE, FPL_CARRIER.BOUND_MASK, FPL_CARRIER.PRESENT_MASK]⟩,
  ⟨0x40fa4, [], [FPL_BIND_LEFT.LEFT]⟩]

/-- The register table of chapter 04, block 0x4. -/
def regRows04_4 : List RegRow := regRows04_4_0

/-- Rows of the register table, chapter 05, block 0x3 (part 0). -/
def regRows05_3_0 : List RegRow := [
  ⟨0x30000, [], [PWR_TARGET.STATE]⟩,
  ⟨0x30004, [], [PWR_STATUS.STATE, PWR_STATUS.MOVING, PWR_STATUS.PFW, PWR_STATUS.SOURCE, PWR_STATUS.AC_OK, PWR_STATUS.DC_OK, PWR_STATUS.SETTLING]⟩,
  ⟨0x30008, [], [PWR_CTRL.DRAM_HOLD, PWR_CTRL.WAKE_TRIG0, PWR_CTRL.WAKE_TRIG1]⟩,
  ⟨0x3000c, [], [PWR_DRAIN_LIMIT.MS]⟩,
  ⟨0x30010, [], [PWR_PORT_HOLD.PORTn]⟩,
  ⟨0x30014, [], [PWR_EVENTS.PFW_RAISED, PWR_EVENTS.PFW_CLEARED, PWR_EVENTS.SRC_SWITCH, PWR_EVENTS.WAKE_TRIG, PWR_EVENTS.DISCARD, PWR_EVENTS.ASCENT_DEFERRED]⟩,
  ⟨0x30018, [], [PWR_DIP_COUNT.COUNT]⟩,
  ⟨0x3001c, [], [PWR_FAIL_COUNT.COUNT]⟩,
  ⟨0x30020, [], [PWR_DISCARD_COUNT.COUNT]⟩,
  ⟨0x30024, [], [PWR_LAST_EXIT.US, PWR_LAST_EXIT.FROM]⟩,
  ⟨0x30030, [], [PWR_AC_VRMS.V]⟩,
  ⟨0x30034, [], [PWR_AC_FREQ.HZ]⟩,
  ⟨0x30038, [], [PWR_DC_V.V]⟩,
  ⟨0x3003c, [], [PWR_INPUT_W.W]⟩,
  ⟨0x30040, [], [PWR_BLACK_ADVANCE_LO.TICKS]⟩,
  ⟨0x30044, [], [PWR_BLACK_ADVANCE_HI.TICKS]⟩]

/-- The register table of chapter 05, block 0x3. -/
def regRows05_3 : List RegRow := regRows05_3_0

/-- Rows of the register table, chapter 06, block 0x4 (part 0). -/
def regRows06_4_0 : List RegRow := [
  ⟨0x40000, [], [FPL_EPOCH.EPOCH]⟩,
  ⟨0x40004, [], [FPL_EPOCH_STATE.COMMITTED, FPL_EPOCH_STATE.PENDING, FPL_EPOCH_STATE.LAST_REFUSE]⟩,
  ⟨0x40008, [], [FPL_EPOCH_APPLIED.EPOCH]⟩,
  ⟨0x4000c, [], [FPL_COMMIT_TICK_LO.TICK]⟩,
  ⟨0x40010, [], [FPL_COMMIT_TICK_HI.TICK]⟩,
  ⟨0x40014, [], [FPL_EVENTS.STRETCH, FPL_EVENTS.SUPERSEDED, FPL_EVENTS.REFUSED, FPL_EVENTS.OVERRUN, FPL_EVENTS.TS_DISAGREE]⟩,
  ⟨0x40018, [], [FPL_STRETCH_COUNT.COUNT]⟩,
  ⟨0x4001c, [], [FPL_SUPERSEDE_COUNT.COUNT]⟩,
  ⟨0x40020, [], [FPL_OVERRUN_COUNT.COUNT]⟩,
  ⟨0x40100, [], [FPL_SH_PROG.PROG]⟩,
  ⟨0x40104, [], [FPL_SH_INT.INT]⟩,
  ⟨0x40108, [], [FPL_SH_PERIOD.PERIOD]⟩,
  ⟨0x4010c, [], [FPL_SH_GAIN.GAINn 0, FPL_SH_GAIN.GAINn 1, FPL_SH_GAIN.GAINn 2, FPL_SH_GAIN.GAINn 3, FPL_SH_GAIN.GAINn 4, FPL_SH_GAIN.GAINn 5, FPL_SH_GAIN.GAINn 6, FPL_SH_GAIN.GAINn 7]⟩,
  ⟨0x40120, [(0x4, 8)], [FPL_SH_BIASn.VDET 0, FPL_SH_BIASn.VSKIM 0]⟩,
  ⟨0x40200, [], [FPL_ACT_PROG.PROG]⟩,
  ⟨0x40204, [], [FPL_ACT_INT.INT]⟩,
  ⟨0x40208, [], [FPL_ACT_PERIOD.PERIOD]⟩,
  ⟨0x4020c, [], [FPL_ACT_GAIN.GAINn 0, FPL_ACT_GAIN.GAINn 1, FPL_ACT_GAIN.GAINn 2, FPL_ACT_GAIN.GAINn 3, FPL_ACT_GAIN.GAINn 4, FPL_ACT_GAIN.GAINn 5, FPL_ACT_GAIN.GAINn 6, FPL_ACT_GAIN.GAINn 7]⟩,
  ⟨0x40220, [(0x4, 8)], [FPL_ACT_BIASn.VDET 0, FPL_ACT_BIASn.VSKIM 0]⟩,
  ⟨0x40300, [(0x10, 8)], [FPL_GEOMn_X.X 0]⟩,
  ⟨0x40304, [(0x10, 8)], [FPL_GEOMn_Y.Y 0]⟩,
  ⟨0x40308, [(0x10, 8)], [FPL_GEOMn_ORIENT.FLIP_X 0, FPL_GEOMn_ORIENT.FLIP_Y 0]⟩,
  ⟨0x40400, [], [FPL_PG_STATUS.ACQ_PROG, FPL_PG_STATUS.IDLE_PROG, FPL_PG_STATUS.EXP_RUN, FPL_PG_STATUS.READ_RUN, FPL_PG_STATUS.IDLE_RUN]⟩,
  ⟨0x40404, [], [FPL_PG_STEPS_USED.STEPS]⟩,
  ⟨0x40410, [(0x10, 16)], [FPL_PGn_INFO.PRESENT 0, FPL_PGn_INFO.ROLE 0, FPL_PGn_INFO.STEPS 0]⟩,
  ⟨0x40414, [(0x10, 16)], [FPL_PGn_ELEN.E 0]⟩,
  ⟨0x40418, [(0x10, 16)], [FPL_PGn_RLEN.L 0]⟩,
  ⟨0x4041c, [(0x10, 16)], [FPL_PGn_GUARD.GUARD 0]⟩,
  ⟨0x40600, [(0x4, 8)], [FPL_TEMPn.TSA 0, FPL_TEMPn.TSB 0]⟩,
  ⟨0x41000, [(0x100, 8), (0x4, 64)], [FPL_IDn_WORDi.BYTES 0 0]⟩]

/-- The register table of chapter 06, block 0x4. -/
def regRows06_4 : List RegRow := regRows06_4_0

end Sys2Proof.Machine
end

