-- ==== Sys2Proof/Machine/RegsB.lean ====
section
/-!
DEFINITION. The named register fields, written from the register tables of spec/ (chapters 07, 08, 09, 10, 11, 13; R12 to R15).
A field of an indexed register takes its index. Reset 0 stands where the table has a dash (log entry 2).
-/
namespace Sys2Proof.Machine


/-! Registers of spec/07_video_front_ends.md -/

def VFE_PWR_STATUS.ON : Fld := fld 0x50000 0 1 0 .ro
def VFE_PWR_STATUS.REF_OK : Fld := fld 0x50000 1 1 0 .ro
def VFE_ILV_CTRL.EST_EN : Fld := fld 0x50004 0 1 1 .rw
def VFE_ILV_CTRL.FREEZE : Fld := fld 0x50004 1 1 0 .rw
def VFE_ILV_CTRL.ALPHA : Fld := fld 0x50004 4 3 3 .rw
def VFE_ILV_WIN.WIN : Fld := fldR 0x50008 0 5 20 .rw 16 24
def VFE_EVENTS.ILV_REJECT : Fld := fld 0x5000c 0 1 0 .w1c
def VFE_EVENTS.TRIM_FAIL : Fld := fld 0x5000c 1 1 0 .w1c
def VFE_EVENTS.SPARE_HELD : Fld := fld 0x5000c 2 1 0 .w1c
def VFE_EVENTS.MATCH_FAIL : Fld := fld 0x5000c 3 1 0 .w1c
def VFE_EVENTS.ROT_HALT : Fld := fld 0x5000c 4 1 0 .w1c
def VFE_EVENTS.SWAP_POSTPONED : Fld := fld 0x5000c 5 1 0 .w1c
def VFE_EVENTS.SWAP_ABANDONED : Fld := fld 0x5000c 6 1 0 .w1c
def VFE_ILVn_OFS.OFS (n : Nat) : Fld := fld (0x50040 + 0x10 * n) 0 16 0 .ro
def VFE_ILVn_GAIN.G (n : Nat) : Fld := fld (0x50044 + 0x10 * n) 0 16 0 .ro
def VFE_ILVn_SKEW.K (n : Nat) : Fld := fld (0x50048 + 0x10 * n) 0 16 0 .ro
def VFE_ILVn_STAT.ACCEPTS (n : Nat) : Fld := fld (0x5004c + 0x10 * n) 0 16 0 .ro
def VFE_ILVn_STAT.REJECTS (n : Nat) : Fld := fld (0x5004c + 0x10 * n) 16 8 0 .ro
def VFE_ILVn_STAT.HELD_G (n : Nat) : Fld := fld (0x5004c + 0x10 * n) 24 1 0 .ro
def VFE_ILVn_STAT.HELD_K (n : Nat) : Fld := fld (0x5004c + 0x10 * n) 25 1 0 .ro
def VFE_FACTn_OFS.OFS (n : Nat) : Fld := fld (0x50300 + 0x10 * n) 0 16 0 .ro
def VFE_FACTn_GAIN.G (n : Nat) : Fld := fld (0x50304 + 0x10 * n) 0 16 0 .ro
def VFE_FACTn_SKEW.K (n : Nat) : Fld := fld (0x50308 + 0x10 * n) 0 16 0 .ro
def VFE_SPARE_CTRL.ROT_EN : Fld := fld 0x50600 0 1 1 .rw
def VFE_SPARE_CTRL.RELEASE : Fld := fld 0x50600 8 1 0 .wo
def VFE_SPARE_STATE.PHASE : Fld := fld 0x50604 0 3 0 .ro
def VFE_SPARE_STATE.CHAN : Fld := fld 0x50604 8 6 0 .ro
def VFE_SPARE_STATE.HELD_CHAN : Fld := fld 0x50604 16 6 0x3F .ro
def VFE_SPARE_PASS.CHAN : Fld := fld 0x50608 0 32 0 .ro
def VFE_SPARE_FAIL.CHAN : Fld := fld 0x5060c 0 32 0 .ro
def VFE_SPARE_TRIED.CHAN : Fld := fld 0x50610 0 32 0 .ro
def VFE_SPARE_COUNTS.PASS_TOTAL : Fld := fld 0x50614 0 16 0 .ro
def VFE_SPARE_COUNTS.FAIL_TOTAL : Fld := fld 0x50614 16 16 0 .ro
def VFE_SPARE_LAST.CHAN : Fld := fld 0x50618 0 6 63 .ro
def VFE_SPARE_LAST.RESULT : Fld := fld 0x50618 8 2 0 .ro
def VFE_ROT_TIME.MS : Fld := fld 0x5061c 0 24 0 .ro
def VFE_SPARE_VCS.FAILS : Fld := fld 0x50620 0 2 0 .ro
def VFE_CLIPn.COUNT (n : Nat) : Fld := fld (0x50700 + 0x4 * n) 0 32 0 .ro
def VFE_CLAMP_COUNT.COUNT : Fld := fld 0x50800 0 32 0 .ro
def VFE_CLR.CLR_CLIP : Fld := fld 0x50804 0 1 0 .wo
def VFE_CLR.CLR_SPARE : Fld := fld 0x50804 1 1 0 .wo

/-! Registers of spec/08_correction_arithmetic.md -/

def COR_STATUS.FORMAT : Fld := fld 0x60000 0 2 0 .ro
def COR_STATUS.IMG_FORMAT : Fld := fld 0x60000 2 2 0 .ro
def COR_STATUS.STAGES : Fld := fld 0x60000 4 6 0 .ro
def COR_STATUS.ORDER : Fld := fld 0x60000 12 2 0 .ro
def COR_PEDESTAL.PED : Fld := fld 0x60004 0 16 8192 .rw
def COR_OUT_CTRL.GAP_FILL : Fld := fld 0x60008 0 1 0 .rw
def COR_GAP_VALUE.VALUE : Fld := fld 0x6000c 0 16 0 .rw
def COR_EVENTS.SAT : Fld := fld 0x60010 0 1 0 .w1c
def COR_EVENTS.GAIN_CLAMP : Fld := fld 0x60010 1 1 0 .w1c
def COR_EVENTS.DT_SAT : Fld := fld 0x60010 2 1 0 .w1c
def COR_EVENTS.ORPHAN : Fld := fld 0x60010 3 1 0 .w1c
def COR_EVENTS.COEF_ECC : Fld := fld 0x60010 4 1 0 .w1c
def COR_EVENTS.REFUSED : Fld := fld 0x60010 5 1 0 .w1c
def COR_CLR.CLR_COUNTS : Fld := fld 0x60014 0 1 0 .wo
def COR_DTn.T (n : Nat) : Fld := fld (0x60020 + 0x4 * n) 0 16 0 .ro
def COR_DTn.SENSOR (n : Nat) : Fld := fld (0x60020 + 0x4 * n) 16 2 0 .ro
def COR_DTn.SAT (n : Nat) : Fld := fld (0x60020 + 0x4 * n) 18 1 0 .ro
def COR_TREFn.TREF (n : Nat) : Fld := fld (0x60040 + 0x4 * n) 0 16 0 .ro
def COR_TREFn.C_REF (n : Nat) : Fld := fld (0x60040 + 0x4 * n) 16 2 0 .ro
def COR_TBASEn.TB (n : Nat) : Fld := fld (0x60060 + 0x4 * n) 0 16 0 .ro
def COR_TSCALEn.KT (n : Nat) : Fld := fld (0x60080 + 0x4 * n) 0 32 0 .ro
def COR_RBASEn.LB (n : Nat) : Fld := fld (0x600a0 + 0x4 * n) 0 32 0 .ro
def COR_RSCALEn.KR (n : Nat) : Fld := fld (0x600c0 + 0x4 * n) 0 32 0 .ro
def COR_SATLOn.COUNT (n : Nat) : Fld := fld (0x60100 + 0x20 * n) 0 32 0 .ro
def COR_SATHIn.COUNT (n : Nat) : Fld := fld (0x60104 + 0x20 * n) 0 32 0 .ro
def COR_GCLAMPn.COUNT (n : Nat) : Fld := fld (0x60108 + 0x20 * n) 0 32 0 .ro
def COR_REPLACEDn.COUNT (n : Nat) : Fld := fld (0x6010c + 0x20 * n) 0 32 0 .ro
def COR_ORPHANn.COUNT (n : Nat) : Fld := fld (0x60110 + 0x20 * n) 0 32 0 .ro
def COR_DTSATn.COUNT (n : Nat) : Fld := fld (0x60114 + 0x20 * n) 0 32 0 .ro
def COR_BADn.COUNT (n : Nat) : Fld := fld (0x60118 + 0x20 * n) 0 21 0 .ro
def COR_ECCn.COUNT (n : Nat) : Fld := fld (0x6011c + 0x20 * n) 0 32 0 .ro
def COR_BPM_SEL.TILE : Fld := fld 0x60400 0 3 0 .rw
def COR_BPM_SEL.ROW : Fld := fld 0x60400 16 10 0 .rw
def COR_BPM_WORDi.BITS (n : Nat) : Fld := fld (0x60800 + 0x4 * n) 0 32 0 .ro

/-! Registers of spec/09_calibration_in_service.md -/

def CAL_STATUS.SHUT_STATE : Fld := fld 0x70000 0 3 0 .ro
def CAL_STATUS.CYCLE : Fld := fld 0x70000 4 3 0 .ro
def CAL_STATUS.UNCAL_MASK : Fld := fld 0x70000 8 8 0 .ro
def CAL_STATUS.FACT_DRIFT_MASK : Fld := fld 0x70000 16 8 0 .ro
def CAL_GEN.GEN : Fld := fld 0x70004 0 32 0 .ro
def CAL_GEN_COMMITTED.GEN : Fld := fld 0x70008 0 32 0 .ro
def CAL_GEN_SOURCE.SOURCE : Fld := fld 0x7000c 0 3 0 .ro
def CAL_GEN_SOURCE.TILES : Fld := fld 0x7000c 8 8 0 .ro
def CAL_SHUT_CTRL.AUTO_EN : Fld := fld 0x70010 0 1 1 .rw
def CAL_SHUT_CTRL.TWO_PT_EVERY : Fld := fld 0x70010 8 8 0 .rw
def CAL_SHUT_PERIOD.S : Fld := fldR 0x70014 0 12 120 .rw 10 3600
def CAL_SHUT_FRAMES.N : Fld := fldR 0x70018 0 7 16 .rw 4 64
def CAL_SHUT_CMD.NOW : Fld := fld 0x7001c 0 1 0 .wo
def CAL_SHUT_CMD.NOW_TWO_PT : Fld := fld 0x7001c 1 1 0 .wo
def CAL_SHUT_CMD.RESET : Fld := fld 0x7001c 2 1 0 .wo
def CAL_SHUT_NEXT.S : Fld := fld 0x70020 0 12 0 .ro
def CAL_PADDLE_T.SHA : Fld := fld 0x70024 0 16 0 .ro
def CAL_PADDLE_T.SHB : Fld := fld 0x70024 16 16 0 .ro
def CAL_CTRL.REFIT_EN : Fld := fld 0x70028 0 1 1 .rw
def CAL_CTRL.AUTO_BAD : Fld := fld 0x70028 1 1 0 .rw
def CAL_EVENTS.CYCLE_DONE : Fld := fld 0x70030 0 1 0 .w1c
def CAL_EVENTS.UPDATE_REJECT : Fld := fld 0x70030 1 1 0 .w1c
def CAL_EVENTS.CYCLE_ABANDON : Fld := fld 0x70030 2 1 0 .w1c
def CAL_EVENTS.REFIT_DONE : Fld := fld 0x70030 3 1 0 .w1c
def CAL_EVENTS.REFIT_REJECT : Fld := fld 0x70030 4 1 0 .w1c
def CAL_EVENTS.SHUT_FAULT : Fld := fld 0x70030 5 1 0 .w1c
def CAL_EVENTS.BANK_WRITTEN : Fld := fld 0x70030 6 1 0 .w1c
def CAL_CYCLE_COUNT.COUNT : Fld := fld 0x70034 0 32 0 .ro
def CAL_REJECT_COUNT.COUNT : Fld := fld 0x70038 0 32 0 .ro
def CAL_ABANDON_COUNT.COUNT : Fld := fld 0x7003c 0 32 0 .ro
def CAL_REFIT_RESTARTS.COUNT : Fld := fld 0x70040 0 32 0 .ro
def CAL_TILEn_STATE.HIST (n : Nat) : Fld := fld (0x70100 + 0x10 * n) 0 6 0 .ro
def CAL_TILEn_STATE.DRIFT_SRC (n : Nat) : Fld := fld (0x70100 + 0x10 * n) 8 2 0 .ro
def CAL_TILEn_STATE.G1_SRC (n : Nat) : Fld := fld (0x70100 + 0x10 * n) 10 1 0 .ro
def CAL_TILEn_STATE.CHAR (n : Nat) : Fld := fld (0x70100 + 0x10 * n) 11 1 0 .ro
def CAL_TILEn_STATE.SPAN (n : Nat) : Fld := fld (0x70100 + 0x10 * n) 16 16 0 .ro
def CAL_TILEn_RESP.RESP_L (n : Nat) : Fld := fld (0x70104 + 0x10 * n) 0 32 0 .ro
def CAL_TILEn_LAST.FAILPIX (n : Nat) : Fld := fld (0x70108 + 0x10 * n) 0 21 0 .ro
def CAL_TILEn_LAST.RESULT (n : Nat) : Fld := fld (0x70108 + 0x10 * n) 24 2 0 .ro
def CAL_TILEn_LAST.KIND (n : Nat) : Fld := fld (0x70108 + 0x10 * n) 26 2 0 .ro
def CAL_AUTOBADn.COUNT (n : Nat) : Fld := fld (0x7010c + 0x10 * n) 0 21 0 .ro
def CAL_BANK_A.SEQ : Fld := fld 0x70200 0 32 0 .ro
def CAL_BANK_B.SEQ : Fld := fld 0x70204 0 32 0 .ro
def CAL_BANK_STATE.A : Fld := fld 0x70208 0 2 0 .ro
def CAL_BANK_STATE.B : Fld := fld 0x70208 2 2 0 .ro
def CAL_BANK_STATE.NEWEST : Fld := fld 0x70208 4 1 0 .ro
def CAL_CHAR_POINT.TBB : Fld := fld 0x70300 0 16 0 .rw
def CAL_CHAR_CMD.GO : Fld := fld 0x70304 0 1 0 .wo
def CAL_CHAR_CMD.FIT : Fld := fld 0x70304 1 1 0 .wo
def CAL_CHAR_STATE.STATE : Fld := fld 0x70308 0 3 0 .ro
def CAL_CHAR_STATE.POINTS : Fld := fld 0x70308 4 5 0 .ro
def CAL_CHAR_FRAMES.N : Fld := fldR 0x7030c 0 9 64 .rw 16 256

/-! Registers of spec/10_sweep_acquisition.md -/

def SWP_ENC_CTRL.DIR_INV : Fld := fld 0x80000 0 1 0 .rw
def SWP_ENC_CTRL.INDEX_MODE : Fld := fldR 0x80000 1 2 1 .rw 0 2
def SWP_ENC_CTRL.FILT : Fld := fldR 0x80000 8 4 8 .rw 1 15
def SWP_ENC_CTRL.HYST : Fld := fld 0x80000 16 8 4 .rw
def SWP_ENC_STATUS.DIR : Fld := fld 0x80004 0 1 0 .ro
def SWP_ENC_STATUS.LEVELS : Fld := fld 0x80004 4 3 0 .ro
def SWP_ENC_STATUS.SIG_OK : Fld := fld 0x80004 8 1 0 .ro
def SWP_ENC_STATUS.REFERENCED : Fld := fld 0x80004 9 1 0 .ro
def SWP_ENC_POS_LO.POS : Fld := fld 0x80008 0 32 0 .ro
def SWP_ENC_POS_HI.POS : Fld := fld 0x8000c 0 32 0 .ro
def SWP_ENC_INDEX_LO.POS : Fld := fld 0x80010 0 32 0 .ro
def SWP_ENC_INDEX_HI.POS : Fld := fld 0x80014 0 32 0 .ro
def SWP_ENC_RATE.RATE : Fld := fld 0x80018 0 32 0 .ro
def SWP_ENC_QERR_COUNT.COUNT : Fld := fld 0x8001c 0 32 0 .ro
def SWP_ENC_CMD.ZERO : Fld := fld 0x80020 0 1 0 .wo
def SWP_LINE_CPL.CPL : Fld := fldR 0x80040 0 16 0 .rw 1 65535
def SWP_LINE_INDEX.INDEX : Fld := fld 0x80044 0 32 0 .ro
def SWP_REV_COUNT.COUNT : Fld := fld 0x80048 0 32 0 .ro
def SWP_REVLINE_COUNT.COUNT : Fld := fld 0x8004c 0 32 0 .ro
def SWP_SKIP_COUNT.COUNT : Fld := fld 0x80050 0 32 0 .ro
def SWP_REPEAT_COUNT.COUNT : Fld := fld 0x80054 0 32 0 .ro
def SWP_GAPLINE_COUNT.COUNT : Fld := fld 0x80058 0 32 0 .ro
def SWP_SH_MINPER.MINPER : Fld := fldR 0x80080 0 24 0 .rw 1 0xFFFFFF
def SWP_SH_NOMPER.NOMPER : Fld := fld 0x80084 0 24 0 .rw
def SWP_ACT_MINPER.MINPER : Fld := fld 0x80088 0 24 0 .ro
def SWP_ACT_NOMPER.NOMPER : Fld := fld 0x8008c 0 24 0 .ro
def SWP_SCAN_CTRL.START_SRC : Fld := fldR 0x80100 0 2 1 .rw 0 2
def SWP_SCAN_ORIGIN_LO.POS : Fld := fld 0x80104 0 32 0 .rw
def SWP_SCAN_ORIGIN_HI.POS : Fld := fld 0x80108 0 32 0 .rw
def SWP_SCAN_DARK.START : Fld := fld 0x8010c 0 16 0 .rw
def SWP_SCAN_DARK.COUNT : Fld := fld 0x8010c 16 10 0 .rw
def SWP_SCAN_BRIGHT.START : Fld := fld 0x80110 0 16 0 .rw
def SWP_SCAN_BRIGHT.COUNT : Fld := fld 0x80110 16 10 0 .rw
def SWP_SCAN_OBJ_START.START : Fld := fld 0x80114 0 16 0 .rw
def SWP_SCAN_OBJ_COUNT.COUNT : Fld := fld 0x80118 0 32 0 .rw
def SWP_SCAN_CMD.ARM : Fld := fld 0x8011c 0 1 0 .wo
def SWP_SCAN_CMD.END : Fld := fld 0x8011c 1 1 0 .wo
def SWP_SCAN_STATE.STATE : Fld := fld 0x80120 0 3 0 .ro
def SWP_SCAN_STATE.LAST_END : Fld := fld 0x80120 4 3 0 .ro
def SWP_SCAN_STATE.ARM_REFUSE : Fld := fld 0x80120 8 4 0 .ro
def SWP_SCAN_NO.NUMBER : Fld := fld 0x80124 0 32 0 .ro
def SWP_SCAN_O_LO.POS : Fld := fld 0x80128 0 32 0 .ro
def SWP_SCAN_O_HI.POS : Fld := fld 0x8012c 0 32 0 .ro
def SWP_HIGHWATER.INDEX : Fld := fld 0x80130 0 32 0 .ro
def SWP_EVENTS.REVERSAL : Fld := fld 0x80134 0 1 0 .w1c
def SWP_EVENTS.QERR : Fld := fld 0x80134 1 1 0 .w1c
def SWP_EVENTS.SIGLOSS : Fld := fld 0x80134 2 1 0 .w1c
def SWP_EVENTS.SKIP : Fld := fld 0x80134 3 1 0 .w1c
def SWP_EVENTS.ARM_REFUSED : Fld := fld 0x80134 4 1 0 .w1c
def SWP_EVENTS.SCAN_DONE : Fld := fld 0x80134 5 1 0 .w1c
def SWP_CLR.CLR_COUNTS : Fld := fld 0x80138 0 1 0 .wo
def SWP_ALIGN_STATUS.XAVG : Fld := fld 0x80200 0 3 0 .ro
def SWP_ALIGN_STATUS.DEPTH : Fld := fld 0x80200 8 5 0 .ro
def SWP_ALIGN_BYTES.BYTES : Fld := fld 0x80204 0 24 0 .ro

/-! Registers of spec/11_sweep_correction.md -/

def SWP_REF_CTRL.HEAT_EN : Fld := fld 0x80800 0 1 1 .rw
def SWP_REF_CTRL.DK_HOLD : Fld := fld 0x80800 1 1 0 .rw
def SWP_REF_CTRL.MARGIN : Fld := fld 0x80800 4 3 4 .rw
def SWP_REF_CTRL.MINLINES : Fld := fldR 0x80800 8 8 32 .rw 8 255
def SWP_REF_DT.DT : Fld := fldR 0x80804 0 16 1920 .rw 640 3200
def SWP_REF_DK_SET.T : Fld := fld 0x80808 0 16 0 .rw
def SWP_REF_STATUS.READY : Fld := fld 0x8080c 0 1 0 .ro
def SWP_REF_STATUS.HEAT_DK : Fld := fld 0x8080c 1 1 0 .ro
def SWP_REF_STATUS.HEAT_BR : Fld := fld 0x8080c 2 1 0 .ro
def SWP_REF_STATUS.SENS_OK : Fld := fld 0x8080c 4 4 0 .ro
def SWP_REF_STATUS.PASS : Fld := fld 0x8080c 8 3 0 .ro
def SWP_REF_TDK.RS0 : Fld := fld 0x80810 0 16 0 .ro
def SWP_REF_TDK.RS1 : Fld := fld 0x80810 16 16 0 .ro
def SWP_REF_TBR.RS2 : Fld := fld 0x80814 0 16 0 .ro
def SWP_REF_TBR.RS3 : Fld := fld 0x80814 16 16 0 .ro
def SWP_REF_HEAT.DUTY_DK : Fld := fld 0x80818 0 8 0 .ro
def SWP_REF_HEAT.DUTY_BR : Fld := fld 0x80818 8 8 0 .ro
def SWP_REF_LAST.DARK_LINES : Fld := fld 0x8081c 0 10 0 .ro
def SWP_REF_LAST.BRIGHT_LINES : Fld := fld 0x8081c 16 10 0 .ro
def SWP_REF_LAST.RESULT : Fld := fld 0x8081c 28 2 0 .ro
def SWP_REF_TILES.DARK_OK : Fld := fld 0x80820 0 8 0 .ro
def SWP_REF_TILES.BRIGHT_OK : Fld := fld 0x80820 8 8 0 .ro
def SWP_REF_EVENTS.PASS_DONE : Fld := fld 0x80824 0 1 0 .w1c
def SWP_REF_EVENTS.PASS_REJECT : Fld := fld 0x80824 1 1 0 .w1c
def SWP_REF_EVENTS.TILE_REJECT : Fld := fld 0x80824 2 1 0 .w1c
def SWP_REF_EVENTS.FEW_LINES : Fld := fld 0x80824 3 1 0 .w1c
def SWP_REF_EVENTS.NOT_READY : Fld := fld 0x80824 4 1 0 .w1c
def SWP_REF_EVENTS.SENS_FAULT : Fld := fld 0x80824 5 1 0 .w1c
def SWP_REF_REJECT_COUNT.COUNT : Fld := fld 0x80828 0 32 0 .ro
def SWP_REF_FAILn.DK_FAIL (n : Nat) : Fld := fld (0x80840 + 0x4 * n) 0 15 0 .ro
def SWP_REF_FAILn.BR_FAIL (n : Nat) : Fld := fld (0x80840 + 0x4 * n) 16 15 0 .ro
def SWP_STITCH_STATUS.SEAM_MODE : Fld := fld 0x80880 0 1 0 .ro
def SWP_STITCH_STATUS.SEAMS : Fld := fld 0x80880 8 8 0 .ro
def SWP_STITCH_STATUS.WIDTH : Fld := fld 0x80880 16 16 0 .ro
def SWP_STITCH_OFFn.OFFSET (n : Nat) : Fld := fld (0x808a0 + 0x4 * n) 0 16 0 .ro
def SWP_SHD_STATUS.SPAN : Fld := fld 0x808c0 0 16 0 .ro
def SWP_SHD_STATUS.IDENTITY : Fld := fld 0x808c0 16 8 0 .ro
def SWP_SHD_SAT_COUNT.COUNT : Fld := fld 0x808c4 0 32 0 .ro
def SWP_EDGE_CTRL.BAND : Fld := fld 0x80900 0 2 3 .rw
def SWP_EDGE_CTRL.POL : Fld := fld 0x80900 4 1 0 .rw
def SWP_EDGE_CTRL.RUNLEN : Fld := fldR 0x80900 8 8 8 .rw 2 255
def SWP_EDGE_THR.THR : Fld := fld 0x80904 0 32 0 .rw
def SWP_EDGE_STATUS.LEAD_VALID : Fld := fld 0x80908 0 1 0 .ro
def SWP_EDGE_STATUS.SIDE_VALID : Fld := fld 0x80908 1 1 0 .ro
def SWP_EDGE_STATUS.NO_OBJECT : Fld := fld 0x80908 2 1 0 .ro
def SWP_EDGE_STATUS.N_LEAD : Fld := fld 0x80908 8 7 0 .ro
def SWP_SKEW.SKEW : Fld := fld 0x8090c 0 32 2147483648 .ro
def SWP_SCANREC_WORDi.BYTES (n : Nat) : Fld := fld (0x80a00 + 0x4 * n) 0 32 0 .ro
def SWP_REFLINE_SEL.TILE : Fld := fld 0x80c00 0 3 0 .rw
def SWP_REFLINE_SEL.BAND : Fld := fld 0x80c00 4 2 0 .rw
def SWP_REFLINE_SEL.LINE : Fld := fld 0x80c00 8 1 0 .rw
def SWP_REFLINE_WORDi.VALUE (n : Nat) : Fld := fld (0x81000 + 0x4 * n) 0 24 0 .ro

/-! Registers of spec/13_solver_jobs.md -/

def SOL_STATUS.BUSY : Fld := fld 0x90000 0 1 0 .ro
def SOL_STATUS.HOST_RUN : Fld := fld 0x90000 1 1 0 .ro
def SOL_STATUS.MOD_RUN : Fld := fld 0x90000 2 1 0 .ro
def SOL_STATUS.QUEUED : Fld := fld 0x90000 4 3 0 .ro
def SOL_STATUS.TIER : Fld := fld 0x90000 8 2 0 .ro
def SOL_EVENTS.DEADLINE : Fld := fld 0x90004 0 1 0 .w1c
def SOL_EVENTS.DESC_ERR : Fld := fld 0x90004 1 1 0 .w1c
def SOL_EVENTS.MOD_LATE : Fld := fld 0x90004 2 1 0 .w1c
def SOL_EVENTS.ECC : Fld := fld 0x90004 3 1 0 .w1c
def SOL_HOST_BATCHES.COUNT : Fld := fld 0x90008 0 32 0 .ro
def SOL_HOST_SYSTEMS.COUNT : Fld := fld 0x9000c 0 32 0 .ro
def SOL_MOD_BATCHES.COUNT : Fld := fld 0x90010 0 32 0 .ro
def SOL_MOD_SYSTEMS.COUNT : Fld := fld 0x90014 0 32 0 .ro
def SOL_MOD_NOTOK.COUNT : Fld := fld 0x90018 0 32 0 .ro
def SOL_MOD_LATE.COUNT : Fld := fld 0x9001c 0 32 0 .ro
def SOL_MOD_LAST.JOB : Fld := fld 0x90020 0 3 0 .ro
def SOL_MOD_LAST.TILE : Fld := fld 0x90020 4 3 0 .ro
def SOL_MOD_LAST.MS : Fld := fld 0x90020 8 24 0 .ro
def SOL_CLR.CLR_COUNTS : Fld := fld 0x90024 0 1 0 .wo
def SOL_SCHED_PRESENT.MASK : Fld := fld 0x90040 0 32 0 .ro
def SOL_SCHEDn_INFO.ORDER (n : Nat) : Fld := fld (0x90100 + 0x10 * n) 0 13 0 .ro
def SOL_SCHEDn_NNZ.NNZ_L (n : Nat) : Fld := fld (0x90104 + 0x10 * n) 0 24 0 .ro
def SOL_SCHEDn_OPS.F (n : Nat) : Fld := fld (0x90108 + 0x10 * n) 0 32 0 .ro
def SOL_SCHEDn_SPAN.SPAN (n : Nat) : Fld := fld (0x9010c + 0x10 * n) 0 32 0 .ro

/-- Rows of the register table, chapter 07, block 0x5 (part 0). -/
def regRows07_5_0 : List RegRow := [
  ⟨0x50000, [], [VFE_PWR_STATUS.ON, VFE_PWR_STATUS.REF_OK]⟩,
  ⟨0x50004, [], [VFE_ILV_CTRL.EST_EN, VFE_ILV_CTRL.FREEZE, VFE_ILV_CTRL.ALPHA]⟩,
  ⟨0x50008, [], [VFE_ILV_WIN.WIN]⟩,
  ⟨0x5000c, [], [VFE_EVENTS.ILV_REJECT, VFE_EVENTS.TRIM_FAIL, VFE_EVENTS.SPARE_HELD, VFE_EVENTS.MATCH_FAIL, VFE_EVENTS.ROT_HALT, VFE_EVENTS.SWAP_POSTPONED, VFE_EVENTS.SWAP_ABANDONED]⟩,
  ⟨0x50040, [(0x10, 33)], [VFE_ILVn_OFS.OFS 0]⟩,
  ⟨0x50044, [(0x10, 33)], [VFE_ILVn_GAIN.G 0]⟩,
  ⟨0x50048, [(0x10, 33)], [VFE_ILVn_SKEW.K 0]⟩,
  ⟨0x5004c, [(0x10, 33)], [VFE_ILVn_STAT.ACCEPTS 0, VFE_ILVn_STAT.REJECTS 0, VFE_ILVn_STAT.HELD_G 0, VFE_ILVn_STAT.HELD_K 0]⟩,
  ⟨0x50300, [(0x10, 33)], [VFE_FACTn_OFS.OFS 0]⟩,
  ⟨0x50304, [(0x10, 33)], [VFE_FACTn_GAIN.G 0]⟩,
  ⟨0x50308, [(0x10, 33)], [VFE_FACTn_SKEW.K 0]⟩,
  ⟨0x50600, [], [VFE_SPARE_CTRL.ROT_EN, VFE_SPARE_CTRL.RELEASE]⟩,
  ⟨0x50604, [], [VFE_SPARE_STATE.PHASE, VFE_SPARE_STATE.CHAN, VFE_SPARE_STATE.HELD_CHAN]⟩,
  ⟨0x50608, [], [VFE_SPARE_PASS.CHAN]⟩,
  ⟨0x5060c, [], [VFE_SPARE_FAIL.CHAN]⟩,
  ⟨0x50610, [], [VFE_SPARE_TRIED.CHAN]⟩,
  ⟨0x50614, [], [VFE_SPARE_COUNTS.PASS_TOTAL, VFE_SPARE_COUNTS.FAIL_TOTAL]⟩,
  ⟨0x50618, [], [VFE_SPARE_LAST.CHAN, VFE_SPARE_LAST.RESULT]⟩,
  ⟨0x5061c, [], [VFE_ROT_TIME.MS]⟩,
  ⟨0x50620, [], [VFE_SPARE_VCS.FAILS]⟩,
  ⟨0x50700, [(0x4, 33)], [VFE_CLIPn.COUNT 0]⟩,
  ⟨0x50800, [], [VFE_CLAMP_COUNT.COUNT]⟩,
  ⟨0x50804, [], [VFE_CLR.CLR_CLIP, VFE_CLR.CLR_SPARE]⟩]

/-- The register table of chapter 07, block 0x5. -/
def regRows07_5 : List RegRow := regRows07_5_0

/-- Rows of the register table, chapter 08, block 0x6 (part 0). -/
def regRows08_6_0 : List RegRow := [
  ⟨0x60000, [], [COR_STATUS.FORMAT, COR_STATUS.IMG_FORMAT, COR_STATUS.STAGES, COR_STATUS.ORDER]⟩,
  ⟨0x60004, [], [COR_PEDESTAL.PED]⟩,
  ⟨0x60008, [], [COR_OUT_CTRL.GAP_FILL]⟩,
  ⟨0x6000c, [], [COR_GAP_VALUE.VALUE]⟩,
  ⟨0x60010, [], [COR_EVENTS.SAT, COR_EVENTS.GAIN_CLAMP, COR_EVENTS.DT_SAT, COR_EVENTS.ORPHAN, COR_EVENTS.COEF_ECC, COR_EVENTS.REFUSED]⟩,
  ⟨0x60014, [], [COR_CLR.CLR_COUNTS]⟩,
  ⟨0x60020, [(0x4, 8)], [COR_DTn.T 0, COR_DTn.SENSOR 0, COR_DTn.SAT 0]⟩,
  ⟨0x60040, [(0x4, 8)], [COR_TREFn.TREF 0, COR_TREFn.C_REF 0]⟩,
  ⟨0x60060, [(0x4, 8)], [COR_TBASEn.TB 0]⟩,
  ⟨0x60080, [(0x4, 8)], [COR_TSCALEn.KT 0]⟩,
  ⟨0x600a0, [(0x4, 8)], [COR_RBASEn.LB 0]⟩,
  ⟨0x600c0, [(0x4, 8)], [COR_RSCALEn.KR 0]⟩,
  ⟨0x60100, [(0x20, 8)], [COR_SATLOn.COUNT 0]⟩,
  ⟨0x60104, [(0x20, 8)], [COR_SATHIn.COUNT 0]⟩,
  ⟨0x60108, [(0x20, 8)], [COR_GCLAMPn.COUNT 0]⟩,
  ⟨0x6010c, [(0x20, 8)], [COR_REPLACEDn.COUNT 0]⟩,
  ⟨0x60110, [(0x20, 8)], [COR_ORPHANn.COUNT 0]⟩,
  ⟨0x60114, [(0x20, 8)], [COR_DTSATn.COUNT 0]⟩,
  ⟨0x60118, [(0x20, 8)], [COR_BADn.COUNT 0]⟩,
  ⟨0x6011c, [(0x20, 8)], [COR_ECCn.COUNT 0]⟩,
  ⟨0x60400, [], [COR_BPM_SEL.TILE, COR_BPM_SEL.ROW]⟩,
  ⟨0x60800, [(0x4, 128)], [COR_BPM_WORDi.BITS 0]⟩]

/-- The register table of chapter 08, block 0x6. -/
def regRows08_6 : List RegRow := regRows08_6_0

/-- Rows of the register table, chapter 09, block 0x7 (part 0). -/
def regRows09_7_0 : List RegRow := [
  ⟨0x70000, [], [CAL_STATUS.SHUT_STATE, CAL_STATUS.CYCLE, CAL_STATUS.UNCAL_MASK, CAL_STATUS.FACT_DRIFT_MASK]⟩,
  ⟨0x70004, [], [CAL_GEN.GEN]⟩,
  ⟨0x70008, [], [CAL_GEN_COMMITTED.GEN]⟩,
  ⟨0x7000c, [], [CAL_GEN_SOURCE.SOURCE, CAL_GEN_SOURCE.TILES]⟩,
  ⟨0x70010, [], [CAL_SHUT_CTRL.AUTO_EN, CAL_SHUT_CTRL.TWO_PT_EVERY]⟩,
  ⟨0x70014, [], [CAL_SHUT_PERIOD.S]⟩,
  ⟨0x70018, [], [CAL_SHUT_FRAMES.N]⟩,
  ⟨0x7001c, [], [CAL_SHUT_CMD.NOW, CAL_SHUT_CMD.NOW_TWO_PT, CAL_SHUT_CMD.RESET]⟩,
  ⟨0x70020, [], [CAL_SHUT_NEXT.S]⟩,
  ⟨0x70024, [], [CAL_PADDLE_T.SHA, CAL_PADDLE_T.SHB]⟩,
  ⟨0x70028, [], [CAL_CTRL.REFIT_EN, CAL_CTRL.AUTO_BAD]⟩,
  ⟨0x70030, [], [CAL_EVENTS.CYCLE_DONE, CAL_EVENTS.UPDATE_REJECT, CAL_EVENTS.CYCLE_ABANDON, CAL_EVENTS.REFIT_DONE, CAL_EVENTS.REFIT_REJECT, CAL_EVENTS.SHUT_FAULT, CAL_EVENTS.BANK_WRITTEN]⟩,
  ⟨0x70034, [], [CAL_CYCLE_COUNT.COUNT]⟩,
  ⟨0x70038, [], [CAL_REJECT_COUNT.COUNT]⟩,
  ⟨0x7003c, [], [CAL_ABANDON_COUNT.COUNT]⟩,
  ⟨0x70040, [], [CAL_REFIT_RESTARTS.COUNT]⟩,
  ⟨0x70100, [(0x10, 8)], [CAL_TILEn_STATE.HIST 0, CAL_TILEn_STATE.DRIFT_SRC 0, CAL_TILEn_STATE.G1_SRC 0, CAL_TILEn_STATE.CHAR 0, CAL_TILEn_STATE.SPAN 0]⟩,
  ⟨0x70104, [(0x10, 8)], [CAL_TILEn_RESP.RESP_L 0]⟩,
  ⟨0x70108, [(0x10, 8)], [CAL_TILEn_LAST.FAILPIX 0, CAL_TILEn_LAST.RESULT 0, CAL_TILEn_LAST.KIND 0]⟩,
  ⟨0x7010c, [(0x10, 8)], [CAL_AUTOBADn.COUNT 0]⟩,
  ⟨0x70200, [], [CAL_BANK_A.SEQ]⟩,
  ⟨0x70204, [], [CAL_BANK_B.SEQ]⟩,
  ⟨0x70208, [], [CAL_BANK_STATE.A, CAL_BANK_STATE.B, CAL_BANK_STATE.NEWEST]⟩,
  ⟨0x70300, [], [CAL_CHAR_POINT.TBB]⟩,
  ⟨0x70304, [], [CAL_CHAR_CMD.GO, CAL_CHAR_CMD.FIT]⟩,
  ⟨0x70308, [], [CAL_CHAR_STATE.STATE, CAL_CHAR_STATE.POINTS]⟩,
  ⟨0x7030c, [], [CAL_CHAR_FRAMES.N]⟩]

/-- The register table of chapter 09, block 0x7. -/
def regRows09_7 : List RegRow := regRows09_7_0

/-- Rows of the register table, chapter 10, block 0x8 (part 0). -/
def regRows10_8_0 : List RegRow := [
  ⟨0x80000, [], [SWP_ENC_CTRL.DIR_INV, SWP_ENC_CTRL.INDEX_MODE, SWP_ENC_CTRL.FILT, SWP_ENC_CTRL.HYST]⟩,
  ⟨0x80004, [], [SWP_ENC_STATUS.DIR, SWP_ENC_STATUS.LEVELS, SWP_ENC_STATUS.SIG_OK, SWP_ENC_STATUS.REFERENCED]⟩,
  ⟨0x80008, [], [SWP_ENC_POS_LO.POS]⟩,
  ⟨0x8000c, [], [SWP_ENC_POS_HI.POS]⟩,
  ⟨0x80010, [], [SWP_ENC_INDEX_LO.POS]⟩,
  ⟨0x80014, [], [SWP_ENC_INDEX_HI.POS]⟩,
  ⟨0x80018, [], [SWP_ENC_RATE.RATE]⟩,
  ⟨0x8001c, [], [SWP_ENC_QERR_COUNT.COUNT]⟩,
  ⟨0x80020, [], [SWP_ENC_CMD.ZERO]⟩,
  ⟨0x80040, [], [SWP_LINE_CPL.CPL]⟩,
  ⟨0x80044, [], [SWP_LINE_INDEX.INDEX]⟩,
  ⟨0x80048, [], [SWP_REV_COUNT.COUNT]⟩,
  ⟨0x8004c, [], [SWP_REVLINE_COUNT.COUNT]⟩,
  ⟨0x80050, [], [SWP_SKIP_COUNT.COUNT]⟩,
  ⟨0x80054, [], [SWP_REPEAT_COUNT.COUNT]⟩,
  ⟨0x80058, [], [SWP_GAPLINE_COUNT.COUNT]⟩,
  ⟨0x80080, [], [SWP_SH_MINPER.MINPER]⟩,
  ⟨0x80084, [], [SWP_SH_NOMPER.NOMPER]⟩,
  ⟨0x80088, [], [SWP_ACT_MINPER.MINPER]⟩,
  ⟨0x8008c, [], [SWP_ACT_NOMPER.NOMPER]⟩,
  ⟨0x80100, [], [SWP_SCAN_CTRL.START_SRC]⟩,
  ⟨0x80104, [], [SWP_SCAN_ORIGIN_LO.POS]⟩,
  ⟨0x80108, [], [SWP_SCAN_ORIGIN_HI.POS]⟩,
  ⟨0x8010c, [], [SWP_SCAN_DARK.START, SWP_SCAN_DARK.COUNT]⟩,
  ⟨0x80110, [], [SWP_SCAN_BRIGHT.START, SWP_SCAN_BRIGHT.COUNT]⟩,
  ⟨0x80114, [], [SWP_SCAN_OBJ_START.START]⟩,
  ⟨0x80118, [], [SWP_SCAN_OBJ_COUNT.COUNT]⟩,
  ⟨0x8011c, [], [SWP_SCAN_CMD.ARM, SWP_SCAN_CMD.END]⟩,
  ⟨0x80120, [], [SWP_SCAN_STATE.STATE, SWP_SCAN_STATE.LAST_END, SWP_SCAN_STATE.ARM_REFUSE]⟩,
  ⟨0x80124, [], [SWP_SCAN_NO.NUMBER]⟩,
  ⟨0x80128, [], [SWP_SCAN_O_LO.POS]⟩,
  ⟨0x8012c, [], [SWP_SCAN_O_HI.POS]⟩,
  ⟨0x80130, [], [SWP_HIGHWATER.INDEX]⟩,
  ⟨0x80134, [], [SWP_EVENTS.REVERSAL, SWP_EVENTS.QERR, SWP_EVENTS.SIGLOSS, SWP_EVENTS.SKIP, SWP_EVENTS.ARM_REFUSED, SWP_EVENTS.SCAN_DONE]⟩,
  ⟨0x80138, [], [SWP_CLR.CLR_COUNTS]⟩,
  ⟨0x80200, [], [SWP_ALIGN_STATUS.XAVG, SWP_ALIGN_STATUS.DEPTH]⟩,
  ⟨0x80204, [], [SWP_ALIGN_BYTES.BYTES]⟩]

/-- The register table of chapter 10, block 0x8. -/
def regRows10_8 : List RegRow := regRows10_8_0

/-- Rows of the register table, chapter 11, block 0x8 (part 0). -/
def regRows11_8_0 : List RegRow := [
  ⟨0x80800, [], [SWP_REF_CTRL.HEAT_EN, SWP_REF_CTRL.DK_HOLD, SWP_REF_CTRL.MARGIN, SWP_REF_CTRL.MINLINES]⟩,
  ⟨0x80804, [], [SWP_REF_DT.DT]⟩,
  ⟨0x80808, [], [SWP_REF_DK_SET.T]⟩,
  ⟨0x8080c, [], [SWP_REF_STATUS.READY, SWP_REF_STATUS.HEAT_DK, SWP_REF_STATUS.HEAT_BR, SWP_REF_STATUS.SENS_OK, SWP_REF_STATUS.PASS]⟩,
  ⟨0x80810, [], [SWP_REF_TDK.RS0, SWP_REF_TDK.RS1]⟩,
  ⟨0x80814, [], [SWP_REF_TBR.RS2, SWP_REF_TBR.RS3]⟩,
  ⟨0x80818, [], [SWP_REF_HEAT.DUTY_DK, SWP_REF_HEAT.DUTY_BR]⟩,
  ⟨0x8081c, [], [SWP_REF_LAST.DARK_LINES, SWP_REF_LAST.BRIGHT_LINES, SWP_REF_LAST.RESULT]⟩,
  ⟨0x80820, [], [SWP_REF_TILES.DARK_OK, SWP_REF_TILES.BRIGHT_OK]⟩,
  ⟨0x80824, [], [SWP_REF_EVENTS.PASS_DONE, SWP_REF_EVENTS.PASS_REJECT, SWP_REF_EVENTS.TILE_REJECT, SWP_REF_EVENTS.FEW_LINES, SWP_REF_EVENTS.NOT_READY, SWP_REF_EVENTS.SENS_FAULT]⟩,
  ⟨0x80828, [], [SWP_REF_REJECT_COUNT.COUNT]⟩,
  ⟨0x80840, [(0x4, 8)], [SWP_REF_FAILn.DK_FAIL 0, SWP_REF_FAILn.BR_FAIL 0]⟩,
  ⟨0x80880, [], [SWP_STITCH_STATUS.SEAM_MODE, SWP_STITCH_STATUS.SEAMS, SWP_STITCH_STATUS.WIDTH]⟩,
  ⟨0x808a0, [(0x4, 8)], [SWP_STITCH_OFFn.OFFSET 0]⟩,
  ⟨0x808c0, [], [SWP_SHD_STATUS.SPAN, SWP_SHD_STATUS.IDENTITY]⟩,
  ⟨0x808c4, [], [SWP_SHD_SAT_COUNT.COUNT]⟩,
  ⟨0x80900, [], [SWP_EDGE_CTRL.BAND, SWP_EDGE_CTRL.POL, SWP_EDGE_CTRL.RUNLEN]⟩,
  ⟨0x80904, [], [SWP_EDGE_THR.THR]⟩,
  ⟨0x80908, [], [SWP_EDGE_STATUS.LEAD_VALID, SWP_EDGE_STATUS.SIDE_VALID, SWP_EDGE_STATUS.NO_OBJECT, SWP_EDGE_STATUS.N_LEAD]⟩,
  ⟨0x8090c, [], [SWP_SKEW.SKEW]⟩,
  ⟨0x80a00, [(0x4, 96)], [SWP_SCANREC_WORDi.BYTES 0]⟩,
  ⟨0x80c00, [], [SWP_REFLINE_SEL.TILE, SWP_REFLINE_SEL.BAND, SWP_REFLINE_SEL.LINE]⟩,
  ⟨0x81000, [(0x4, 4096)], [SWP_REFLINE_WORDi.VALUE 0]⟩]

/-- The register table of chapter 11, block 0x8. -/
def regRows11_8 : List RegRow := regRows11_8_0

/-- Rows of the register table, chapter 13, block 0x9 (part 0). -/
def regRows13_9_0 : List RegRow := [
  ⟨0x90000, [], [SOL_STATUS.BUSY, SOL_STATUS.HOST_RUN, SOL_STATUS.MOD_RUN, SOL_STATUS.QUEUED, SOL_STATUS.TIER]⟩,
  ⟨0x90004, [], [SOL_EVENTS.DEADLINE, SOL_EVENTS.DESC_ERR, SOL_EVENTS.MOD_LATE, SOL_EVENTS.ECC]⟩,
  ⟨0x90008, [], [SOL_HOST_BATCHES.COUNT]⟩,
  ⟨0x9000c, [], [SOL_HOST_SYSTEMS.COUNT]⟩,
  ⟨0x90010, [], [SOL_MOD_BATCHES.COUNT]⟩,
  ⟨0x90014, [], [SOL_MOD_SYSTEMS.COUNT]⟩,
  ⟨0x90018, [], [SOL_MOD_NOTOK.COUNT]⟩,
  ⟨0x9001c, [], [SOL_MOD_LATE.COUNT]⟩,
  ⟨0x90020, [], [SOL_MOD_LAST.JOB, SOL_MOD_LAST.TILE, SOL_MOD_LAST.MS]⟩,
  ⟨0x90024, [], [SOL_CLR.CLR_COUNTS]⟩,
  ⟨0x90040, [], [SOL_SCHED_PRESENT.MASK]⟩,
  ⟨0x90100, [(0x10, 32)], [SOL_SCHEDn_INFO.ORDER 0]⟩,
  ⟨0x90104, [(0x10, 32)], [SOL_SCHEDn_NNZ.NNZ_L 0]⟩,
  ⟨0x90108, [(0x10, 32)], [SOL_SCHEDn_OPS.F 0]⟩,
  ⟨0x9010c, [(0x10, 32)], [SOL_SCHEDn_SPAN.SPAN 0]⟩]

/-- The register table of chapter 13, block 0x9. -/
def regRows13_9 : List RegRow := regRows13_9_0

end Sys2Proof.Machine
end

