-- ==== Sys2Proof/Machine/RegsC.lean ====
section
/-!
DEFINITION. The named register fields, written from the register tables of spec/ (chapters 14, 15, 16; R12 to R15).
A field of an indexed register takes its index. Reset 0 stands where the table has a dash (log entry 2).
-/
namespace Sys2Proof.Machine


/-! Registers of spec/14_filters_and_time.md -/

def FIL_STATUS.D : Fld := fld 0xa0000 0 7 0 .ro
def FIL_STATUS.D_EFF : Fld := fld 0xa0000 8 7 0 .ro
def FIL_STATUS.FILL : Fld := fld 0xa0000 16 7 0 .ro
def FIL_STATUS.BX : Fld := fld 0xa0000 24 3 0 .ro
def FIL_STATUS.BY : Fld := fld 0xa0000 27 4 0 .ro
def FIL_SYNC_CTRL.SRC : Fld := fldR 0xa0004 0 2 0 .rw 0 2
def FIL_SYNC_CTRL.MODE : Fld := fld 0xa0004 4 2 0 .rw
def FIL_SYNC_CMD.RESET : Fld := fld 0xa0008 0 1 0 .wo
def FIL_EVENTS.RESET : Fld := fld 0xa000c 0 1 0 .w1c
def FIL_EVENTS.FSYNC_LATE : Fld := fld 0xa000c 1 1 0 .w1c
def FIL_EVENTS.FSYNC_MISSED : Fld := fld 0xa000c 2 1 0 .w1c
def FIL_EVENTS.TIME_LOST : Fld := fld 0xa000c 3 1 0 .w1c
def FIL_EVENTS.TIME_LOCKED : Fld := fld 0xa000c 4 1 0 .w1c
def FIL_EVENTS.TIME_STEP : Fld := fld 0xa000c 5 1 0 .w1c
def FIL_EVENTS.PPS_BAD : Fld := fld 0xa000c 6 1 0 .w1c
def FIL_EVENTS.MASTER_CHANGE : Fld := fld 0xa000c 7 1 0 .w1c
def FIL_RESET_COUNT.COUNT : Fld := fld 0xa0010 0 32 0 .ro
def FIL_FSYNC_LATE_COUNT.COUNT : Fld := fld 0xa0014 0 32 0 .ro
def FIL_FSYNC_MISS_COUNT.COUNT : Fld := fld 0xa0018 0 32 0 .ro
def FIL_TINn_CTRL.TERM (n : Nat) : Fld := fld (0xa0100 + 0x10 * n) 0 1 0 .rw
def FIL_TINn_CTRL.EDGE (n : Nat) : Fld := fld (0xa0100 + 0x10 * n) 1 1 0 .rw
def FIL_TINn_CTRL.FILT (n : Nat) : Fld := fldR (0xa0100 + 0x10 * n) 4 4 4 .rw 1 15
def FIL_TINn_COUNT.COUNT (n : Nat) : Fld := fld (0xa0104 + 0x10 * n) 0 32 0 .ro
def FIL_TINn_TS_SEC.SEC (n : Nat) : Fld := fld (0xa0108 + 0x10 * n) 0 32 0 .ro
def FIL_TINn_TS_NS.NS (n : Nat) : Fld := fld (0xa010c + 0x10 * n) 0 30 0 .ro
def FIL_TOUTn_CTRL.SRC (n : Nat) : Fld := fldR (0xa0200 + 0x10 * n) 0 4 0 .rw 0 10
def FIL_TOUTn_CTRL.INV (n : Nat) : Fld := fld (0xa0200 + 0x10 * n) 4 1 0 .rw
def FIL_TOUTn_CTRL.SERIES (n : Nat) : Fld := fld (0xa0200 + 0x10 * n) 5 1 0 .rw
def FIL_TOUTn_DELAY.DELAY (n : Nat) : Fld := fld (0xa0204 + 0x10 * n) 0 20 0 .rw
def FIL_TOUTn_WIDTH.WIDTH (n : Nat) : Fld := fldR (0xa0208 + 0x10 * n) 0 20 160 .rw 1 1048575
def FIL_TIME_CTRL.TOD_SRC : Fld := fld 0xa0400 0 2 0 .rw
def FIL_TIME_CTRL.REQUIRE_LOCK : Fld := fld 0xa0400 4 1 0 .rw
def FIL_TIME_CTRL.DOMAIN : Fld := fld 0xa0400 8 7 0 .rw
def FIL_TIME_STATE.STATE : Fld := fld 0xa0404 0 3 0 .ro
def FIL_TIME_STATE.SRC_OK : Fld := fld 0xa0404 4 1 0 .ro
def FIL_TIME_NOW_SEC_LO.SEC : Fld := fld 0xa0408 0 32 0 .ro
def FIL_TIME_NOW_SEC_HI.SEC : Fld := fld 0xa040c 0 16 0 .ro
def FIL_TIME_NOW_NS.NS : Fld := fld 0xa0410 0 30 0 .ro
def FIL_TIME_SET_SEC_LO.SEC : Fld := fld 0xa0414 0 32 0 .rw
def FIL_TIME_SET_SEC_HI.SEC : Fld := fld 0xa0418 0 16 0 .rw
def FIL_TIME_SET_NS.NS : Fld := fldR 0xa041c 0 30 0 .rw 0 999999999
def FIL_TIME_CMD.SET : Fld := fld 0xa0420 0 1 0 .wo
def FIL_TIME_OFFSET.NS : Fld := fld 0xa0424 0 32 0 .ro
def FIL_TIME_RATE.RATE : Fld := fld 0xa0428 0 32 0 .ro
def FIL_STEP_THRESH.US : Fld := fldR 0xa042c 0 20 1000 .rw 1 1000000
def FIL_SLEW_MAX.PPM : Fld := fldR 0xa0430 0 9 100 .rw 1 500
def FIL_HOLD_LIMIT.S : Fld := fldR 0xa0434 0 17 600 .rw 1 86400
def FIL_HOLD_TIME.S : Fld := fld 0xa0438 0 24 0 .ro
def FIL_PPS_DELAY.NS : Fld := fld 0xa043c 0 32 0 .rw
def FIL_PPS_BAD_COUNT.COUNT : Fld := fld 0xa0440 0 32 0 .ro
def FIL_PTP_STATUS.PORT_STATE : Fld := fld 0xa0444 0 4 0 .ro
def FIL_PTP_STATUS.UTC_OFFSET : Fld := fld 0xa0444 16 16 0 .ro
def FIL_PTP_MASTER_LO.ID : Fld := fld 0xa0448 0 32 0 .ro
def FIL_PTP_MASTER_HI.ID : Fld := fld 0xa044c 0 32 0 .ro
def FIL_PTP_MEANDELAY.NS : Fld := fld 0xa0450 0 32 0 .ro

/-! Registers of spec/15_monitor_converter.md -/

def MON_STATUS.RUNNING : Fld := fld 0xb0000 0 1 0 .ro
def MON_STATUS.CAL_OK : Fld := fld 0xb0000 1 1 0 .ro
def MON_STATUS.CALIBRATING : Fld := fld 0xb0000 2 1 0 .ro
def MON_STATUS.INJ_RUN : Fld := fld 0xb0000 3 1 0 .ro
def MON_STATUS.INJ_PENDING : Fld := fld 0xb0000 4 1 0 .ro
def MON_STATUS.ENTRY : Fld := fld 0xb0000 8 4 0 .ro
def MON_STATUS.OT_COMP : Fld := fld 0xb0000 12 1 0 .ro
def MON_CMD.CALIBRATE : Fld := fld 0xb0004 0 1 0 .wo
def MON_CMD.INJ_GO : Fld := fld 0xb0004 1 1 0 .wo
def MON_CMD.SEQ_APPLY : Fld := fld 0xb0004 2 1 0 .wo
def MON_SEQ_CTRL.REG_LEN : Fld := fld 0xb0008 0 5 0 .rw
def MON_SEQ_CTRL.INJ_LEN : Fld := fld 0xb0008 8 3 0 .rw
def MON_SEQ_CTRL.INJ_TRIG : Fld := fld 0xb0008 16 4 0 .rw
def MON_SEQ_PERIOD.PERIOD : Fld := fld 0xb000c 0 20 0 .rw
def MON_SEQ_STATE.REFUSE : Fld := fld 0xb0010 0 4 0 .ro
def MON_SEQ_STATE.PENDING : Fld := fld 0xb0010 4 1 0 .ro
def MON_CYCLE.TIME : Fld := fld 0xb0014 0 20 0 .ro
def MON_EVENTS.CAL_DONE : Fld := fld 0xb0018 0 1 0 .w1c
def MON_EVENTS.CAL_FAIL : Fld := fld 0xb0018 1 1 0 .w1c
def MON_EVENTS.INJ_DONE : Fld := fld 0xb0018 2 1 0 .w1c
def MON_EVENTS.INJ_LOST : Fld := fld 0xb0018 3 1 0 .w1c
def MON_EVENTS.SEQ_APPLIED : Fld := fld 0xb0018 4 1 0 .w1c
def MON_EVENTS.SEQ_REFUSED : Fld := fld 0xb0018 5 1 0 .w1c
def MON_EVENTS.ALARM : Fld := fld 0xb0018 6 1 0 .w1c
def MON_EVENTS.INPUT_FAIL : Fld := fld 0xb0018 7 1 0 .w1c
def MON_EVENTS.VCORE : Fld := fld 0xb0018 8 1 0 .w1c
def MON_EVENTS.STARVED : Fld := fld 0xb0018 9 1 0 .w1c
def MON_INJ_LOST.COUNT : Fld := fld 0xb001c 0 32 0 .ro
def MON_INJ_STATUS.SRC : Fld := fld 0xb0020 0 2 0 .ro
def MON_INJ_TICK_LO.TICK : Fld := fld 0xb0024 0 32 0 .ro
def MON_INJ_TICK_HI.TICK : Fld := fld 0xb0028 0 32 0 .ro
def MON_OVERRUN_COUNT.COUNT : Fld := fld 0xb002c 0 32 0 .ro
def MON_CLR.CLR_COUNTS : Fld := fld 0xb0030 0 1 0 .wo
def MON_SEQi_W0.W0 (n : Nat) : Fld := fld (0xb0040 + 0x8 * n) 0 24 0 .rw
def MON_SEQi_W1.SAMPT (n : Nat) : Fld := fld (0xb0044 + 0x8 * n) 0 13 0 .rw
def MON_ISEQj_W0.W0 (n : Nat) : Fld := fld (0xb00c0 + 0x8 * n) 0 24 0 .rw
def MON_ISEQj_W1.SAMPT (n : Nat) : Fld := fld (0xb00c4 + 0x8 * n) 0 13 0 .rw
def MON_RSLT_ii.VALUE (n : Nat) : Fld := fld (0xb0100 + 0x4 * n) 0 16 0 .ro
def MON_RSLT_ii.INPUT (n : Nat) : Fld := fld (0xb0100 + 0x4 * n) 16 5 0 .ro
def MON_RSLT_ii.CYCLE (n : Nat) : Fld := fld (0xb0100 + 0x4 * n) 24 4 0 .ro
def MON_RSLT_ii.OVR (n : Nat) : Fld := fld (0xb0100 + 0x4 * n) 29 1 0 .ro
def MON_RSLT_ii.FAIL (n : Nat) : Fld := fld (0xb0100 + 0x4 * n) 30 1 0 .ro
def MON_RSLT_ii.VALID (n : Nat) : Fld := fld (0xb0100 + 0x4 * n) 31 1 0 .ro
def MON_IRSLT_j.VALUE (n : Nat) : Fld := fld (0xb0140 + 0x4 * n) 0 16 0 .ro
def MON_IRSLT_j.INPUT (n : Nat) : Fld := fld (0xb0140 + 0x4 * n) 16 5 0 .ro
def MON_IRSLT_j.CYCLE (n : Nat) : Fld := fld (0xb0140 + 0x4 * n) 24 4 0 .ro
def MON_IRSLT_j.OVR (n : Nat) : Fld := fld (0xb0140 + 0x4 * n) 29 1 0 .ro
def MON_IRSLT_j.FAIL (n : Nat) : Fld := fld (0xb0140 + 0x4 * n) 30 1 0 .ro
def MON_IRSLT_j.VALID (n : Nat) : Fld := fld (0xb0140 + 0x4 * n) 31 1 0 .ro
def MON_CAL_g.OFS (n : Nat) : Fld := fld (0xb0160 + 0x4 * n) 0 16 0 .ro
def MON_CAL_g.GAIN (n : Nat) : Fld := fld (0xb0160 + 0x4 * n) 16 16 32768 .ro
def MON_CAL_STATUS.DONE : Fld := fld 0xb0174 0 1 0 .ro
def MON_CAL_STATUS.FAIL : Fld := fld 0xb0174 1 1 0 .ro
def MON_CAL_STATUS.COUNT : Fld := fld 0xb0174 8 8 0 .ro
def MON_DIE_K0.K0 : Fld := fld 0xb0180 0 32 0 .ro
def MON_DIE_K1.K1 : Fld := fld 0xb0184 0 32 0 .ro
def MON_VALn.VALUE (n : Nat) : Fld := fld (0xb0200 + 0x4 * n) 0 16 0 .ro
def MON_VALn.STATE (n : Nat) : Fld := fld (0xb0200 + 0x4 * n) 16 3 0 .ro
def MON_VALn.STALE (n : Nat) : Fld := fld (0xb0200 + 0x4 * n) 19 1 0 .ro
def MON_VALn.ALM_HI (n : Nat) : Fld := fld (0xb0200 + 0x4 * n) 20 1 0 .ro
def MON_VALn.ALM_LO (n : Nat) : Fld := fld (0xb0200 + 0x4 * n) 21 1 0 .ro
def MON_VALn_TICK.TICK (n : Nat) : Fld := fld (0xb0280 + 0x4 * n) 0 32 0 .ro
def MON_HCORn.HOFS (n : Nat) : Fld := fld (0xb0300 + 0x4 * n) 0 16 0 .rw
def MON_HCORn.HGAIN (n : Nat) : Fld := fld (0xb0300 + 0x4 * n) 16 16 32768 .rw
def MON_ALMn_CTRL.EN_HI (n : Nat) : Fld := fld (0xb0380 + 0x10 * n) 0 1 0 .rw
def MON_ALMn_CTRL.EN_LO (n : Nat) : Fld := fld (0xb0380 + 0x10 * n) 1 1 0 .rw
def MON_ALMn_CTRL.QUAL (n : Nat) : Fld := fldR (0xb0380 + 0x10 * n) 4 4 4 .rw 1 15
def MON_ALMn_CTRL.HYST (n : Nat) : Fld := fld (0xb0380 + 0x10 * n) 16 16 0 .rw
def MON_ALMn_HI.HI (n : Nat) : Fld := fld (0xb0384 + 0x10 * n) 0 16 65535 .rw
def MON_ALMn_LO.LO (n : Nat) : Fld := fld (0xb0388 + 0x10 * n) 0 16 0 .rw
def MON_ACT_SEQi_W0.W0 (n : Nat) : Fld := fld (0xb0500 + 0x8 * n) 0 24 0 .ro
def MON_ACT_SEQi_W1.SAMPT (n : Nat) : Fld := fld (0xb0504 + 0x8 * n) 0 13 0 .ro
def MON_ACT_ISEQj_W0.W0 (n : Nat) : Fld := fld (0xb0580 + 0x8 * n) 0 24 0 .ro
def MON_ACT_ISEQj_W1.SAMPT (n : Nat) : Fld := fld (0xb0584 + 0x8 * n) 0 13 0 .ro
def MON_ACT_CTRL.ALL : Fld := fld 0xb05a0 0 20 0 .ro
def MON_ACT_PERIOD.PERIOD : Fld := fld 0xb05a4 0 20 0 .ro
def MON_FAIL_STATUS.INPUTS : Fld := fld 0xb0600 0 24 0 .ro
def MON_ALM_HI_STATUS.INPUTS : Fld := fld 0xb0604 0 24 0 .ro
def MON_ALM_LO_STATUS.INPUTS : Fld := fld 0xb0608 0 24 0 .ro

/-! Registers of spec/16_data_ports.md -/

def PRT_BB_CTRL.MODE : Fld := fldR 0xc0000 0 2 1 .rw 0 2
def PRT_BB_CTRL.LIVE_DEPTH : Fld := fldR 0xc0000 8 6 4 .rw 1 63
def PRT_BB_CAP_FRAMES.COUNT : Fld := fld 0xc0004 0 32 0 .rw
def PRT_BB_CMD.ARM : Fld := fld 0xc0008 0 1 0 .wo
def PRT_BB_CMD.STOP : Fld := fld 0xc0008 1 1 0 .wo
def PRT_BB_CMD.FLUSH : Fld := fld 0xc0008 2 1 0 .wo
def PRT_BB_STATE.CAP : Fld := fld 0xc000c 0 2 0 .ro
def PRT_BB_STATE.ENTRIES : Fld := fld 0xc000c 8 24 0 .ro
def PRT_BB_PAGES.PAGES : Fld := fld 0xc0010 0 24 15728640 .ro
def PRT_BB_FREE.PAGES : Fld := fld 0xc0014 0 24 15728640 .ro
def PRT_BB_DROP_COUNT.COUNT : Fld := fld 0xc0018 0 32 0 .ro
def PRT_BB_LIVE_DROP.COUNT : Fld := fld 0xc001c 0 32 0 .ro
def PRT_BB_POSTCAP_COUNT.COUNT : Fld := fld 0xc0020 0 32 0 .ro
def PRT_BB_CAPTURED.COUNT : Fld := fld 0xc0024 0 32 0 .ro
def PRT_BB_FLUSH_COUNT.COUNT : Fld := fld 0xc0028 0 32 0 .ro
def PRT_EVENTS.OVERRUN : Fld := fld 0xc002c 0 1 0 .w1c
def PRT_EVENTS.DRAIN_DONE : Fld := fld 0xc002c 1 1 0 .w1c
def PRT_EVENTS.LINK_DOWN : Fld := fld 0xc002c 2 1 0 .w1c
def PRT_EVENTS.LINK_UP : Fld := fld 0xc002c 3 1 0 .w1c
def PRT_EVENTS.QP_ERROR : Fld := fld 0xc002c 4 1 0 .w1c
def PRT_EVENTS.PAUSE_LONG : Fld := fld 0xc002c 5 1 0 .w1c
def PRT_EVENTS.ARP_FAIL : Fld := fld 0xc002c 6 1 0 .w1c
def PRT_EVENTS.PLUGGABLE : Fld := fld 0xc002c 7 1 0 .w1c
def PRT_CLR.CLR_COUNTS : Fld := fld 0xc0030 0 1 0 .wo
def PRT_Pn_STATUS.PRESENT (n : Nat) : Fld := fld (0xc0100 + 0x100 * n) 0 1 0 .ro
def PRT_Pn_STATUS.PHY (n : Nat) : Fld := fld (0xc0100 + 0x100 * n) 1 3 0 .ro
def PRT_Pn_STATUS.LINK (n : Nat) : Fld := fld (0xc0100 + 0x100 * n) 4 1 0 .ro
def PRT_Pn_STATUS.AN_FAIL (n : Nat) : Fld := fld (0xc0100 + 0x100 * n) 5 1 0 .ro
def PRT_Pn_STATUS.PAUSED (n : Nat) : Fld := fld (0xc0100 + 0x100 * n) 6 1 0 .ro
def PRT_Pn_CTRL.FC_MODE (n : Nat) : Fld := fldR (0xc0104 + 0x100 * n) 0 2 0 .rw 0 2
def PRT_Pn_CTRL.VLAN_EN (n : Nat) : Fld := fld (0xc0104 + 0x100 * n) 2 1 0 .rw
def PRT_Pn_CTRL.PCP (n : Nat) : Fld := fld (0xc0104 + 0x100 * n) 4 3 0 .rw
def PRT_Pn_CTRL.VID (n : Nat) : Fld := fld (0xc0104 + 0x100 * n) 16 12 0 .rw
def PRT_Pn_IP.ADDR (n : Nat) : Fld := fld (0xc0108 + 0x100 * n) 0 32 0 .rw
def PRT_Pn_PREFIX.LEN (n : Nat) : Fld := fldR (0xc010c + 0x100 * n) 0 6 0 .rw 0 32
def PRT_Pn_GW.ADDR (n : Nat) : Fld := fld (0xc0110 + 0x100 * n) 0 32 0 .rw
def PRT_Pn_MAC_LO.MAC (n : Nat) : Fld := fld (0xc0114 + 0x100 * n) 0 32 0 .ro
def PRT_Pn_MAC_HI.MAC (n : Nat) : Fld := fld (0xc0118 + 0x100 * n) 0 16 0 .ro
def PRT_Pn_PAUSE_LIMIT.MS (n : Nat) : Fld := fld (0xc011c + 0x100 * n) 0 16 100 .rw
def PRT_Pn_PAUSE_MS.COUNT (n : Nat) : Fld := fld (0xc0120 + 0x100 * n) 0 32 0 .ro
def PRT_Pn_RX_DISCARD.COUNT (n : Nat) : Fld := fld (0xc0124 + 0x100 * n) 0 32 0 .ro
def PRT_Pn_LINKDOWN_COUNT.COUNT (n : Nat) : Fld := fld (0xc0128 + 0x100 * n) 0 32 0 .ro
def PRT_Pn_FEC_CORR.COUNT (n : Nat) : Fld := fld (0xc012c + 0x100 * n) 0 32 0 .ro
def PRT_Pn_FEC_UNCORR.COUNT (n : Nat) : Fld := fld (0xc0130 + 0x100 * n) 0 32 0 .ro
def PRT_CHn_CTRL.EN (n : Nat) : Fld := fld (0xc0800 + 0x80 * n) 0 1 0 .rw
def PRT_CHn_CTRL.TRANSPORT (n : Nat) : Fld := fld (0xc0800 + 0x80 * n) 1 2 0 .rw
def PRT_CHn_CTRL.DSCP (n : Nat) : Fld := fld (0xc0800 + 0x80 * n) 8 6 0 .rw
def PRT_CHn_STATUS.STATE (n : Nat) : Fld := fld (0xc0804 + 0x80 * n) 0 3 0 .ro
def PRT_CHn_STATUS.REFUSE (n : Nat) : Fld := fld (0xc0804 + 0x80 * n) 8 4 0 .ro
def PRT_CHn_DST_IP.ADDR (n : Nat) : Fld := fld (0xc0808 + 0x80 * n) 0 32 0 .rw
def PRT_CHn_UDP.SRC (n : Nat) : Fld := fld (0xc080c + 0x80 * n) 0 16 0 .rw
def PRT_CHn_UDP.DST (n : Nat) : Fld := fld (0xc080c + 0x80 * n) 16 16 0 .rw
def PRT_CHn_DST_MAC_LO.MAC (n : Nat) : Fld := fld (0xc0810 + 0x80 * n) 0 32 0 .rw
def PRT_CHn_DST_MAC_HI.MAC (n : Nat) : Fld := fld (0xc0814 + 0x80 * n) 0 16 0 .rw
def PRT_CHn_DST_MAC_HI.STATIC (n : Nat) : Fld := fld (0xc0814 + 0x80 * n) 16 1 0 .rw
def PRT_CHn_SEQ.SEQ (n : Nat) : Fld := fld (0xc0818 + 0x80 * n) 0 32 0 .ro
def PRT_CHn_SENT.COUNT (n : Nat) : Fld := fld (0xc081c + 0x80 * n) 0 32 0 .ro
def PRT_CHn_OFF_DISCARD.COUNT (n : Nat) : Fld := fld (0xc0820 + 0x80 * n) 0 32 0 .ro
def PRT_CHn_RDMA_CFG.PMTU (n : Nat) : Fld := fld (0xc0830 + 0x80 * n) 0 2 3 .rw
def PRT_CHn_RDMA_CFG.TIMEOUT (n : Nat) : Fld := fld (0xc0830 + 0x80 * n) 8 5 14 .rw
def PRT_CHn_RDMA_CFG.RETRY (n : Nat) : Fld := fld (0xc0830 + 0x80 * n) 16 3 7 .rw
def PRT_CHn_RDMA_QPN.REMOTE (n : Nat) : Fld := fld (0xc0834 + 0x80 * n) 0 24 0 .rw
def PRT_CHn_RDMA_PSN.PSN (n : Nat) : Fld := fld (0xc0838 + 0x80 * n) 0 24 0 .rw
def PRT_CHn_RDMA_RKEY.RKEY (n : Nat) : Fld := fld (0xc083c + 0x80 * n) 0 32 0 .rw
def PRT_CHn_RDMA_VA_LO.VA (n : Nat) : Fld := fld (0xc0840 + 0x80 * n) 0 32 0 .rw
def PRT_CHn_RDMA_VA_HI.VA (n : Nat) : Fld := fld (0xc0844 + 0x80 * n) 0 32 0 .rw
def PRT_CHn_RDMA_LEN.LEN (n : Nat) : Fld := fld (0xc0848 + 0x80 * n) 0 32 0 .rw
def PRT_CHn_RDMA_SLOT.SLOT_PAGES (n : Nat) : Fld := fld (0xc084c + 0x80 * n) 0 16 0 .rw
def PRT_CHn_RDMA_SLOT.SLOTS (n : Nat) : Fld := fld (0xc084c + 0x80 * n) 16 16 0 .rw
def PRT_CHn_CONS.CONS (n : Nat) : Fld := fld (0xc0850 + 0x80 * n) 0 32 0 .rw
def PRT_CHn_PROD.PROD (n : Nat) : Fld := fld (0xc0854 + 0x80 * n) 0 32 0 .ro
def PRT_CHn_LOCAL_QPN.QPN (n : Nat) : Fld := fld (0xc0858 + 0x80 * n) 0 24 0 .ro
def PRT_CHn_QP_STATE.STATE (n : Nat) : Fld := fld (0xc085c + 0x80 * n) 0 2 0 .ro
def PRT_CHn_RATE.MBPS (n : Nat) : Fld := fld (0xc0860 + 0x80 * n) 0 17 100000 .ro
def PRT_CHn_CNP_COUNT.COUNT (n : Nat) : Fld := fld (0xc0864 + 0x80 * n) 0 32 0 .ro
def PRT_CHn_RETRANS.COUNT (n : Nat) : Fld := fld (0xc0868 + 0x80 * n) 0 32 0 .ro

/-- Rows of the register table, chapter 14, block 0xa (part 0). -/
def regRows14_A_0 : List RegRow := [
  ⟨0xa0000, [], [FIL_STATUS.D, FIL_STATUS.D_EFF, FIL_STATUS.FILL, FIL_STATUS.BX, FIL_STATUS.BY]⟩,
  ⟨0xa0004, [], [FIL_SYNC_CTRL.SRC, FIL_SYNC_CTRL.MODE]⟩,
  ⟨0xa0008, [], [FIL_SYNC_CMD.RESET]⟩,
  ⟨0xa000c, [], [FIL_EVENTS.RESET, FIL_EVENTS.FSYNC_LATE, FIL_EVENTS.FSYNC_MISSED, FIL_EVENTS.TIME_LOST, FIL_EVENTS.TIME_LOCKED, FIL_EVENTS.TIME_STEP, FIL_EVENTS.PPS_BAD, FIL_EVENTS.MASTER_CHANGE]⟩,
  ⟨0xa0010, [], [FIL_RESET_COUNT.COUNT]⟩,
  ⟨0xa0014, [], [FIL_FSYNC_LATE_COUNT.COUNT]⟩,
  ⟨0xa0018, [], [FIL_FSYNC_MISS_COUNT.COUNT]⟩,
  ⟨0xa0100, [(0x10, 2)], [FIL_TINn_CTRL.TERM 0, FIL_TINn_CTRL.EDGE 0, FIL_TINn_CTRL.FILT 0]⟩,
  ⟨0xa0104, [(0x10, 2)], [FIL_TINn_COUNT.COUNT 0]⟩,
  ⟨0xa0108, [(0x10, 2)], [FIL_TINn_TS_SEC.SEC 0]⟩,
  ⟨0xa010c, [(0x10, 2)], [FIL_TINn_TS_NS.NS 0]⟩,
  ⟨0xa0200, [(0x10, 2)], [FIL_TOUTn_CTRL.SRC 0, FIL_TOUTn_CTRL.INV 0, FIL_TOUTn_CTRL.SERIES 0]⟩,
  ⟨0xa0204, [(0x10, 2)], [FIL_TOUTn_DELAY.DELAY 0]⟩,
  ⟨0xa0208, [(0x10, 2)], [FIL_TOUTn_WIDTH.WIDTH 0]⟩,
  ⟨0xa0400, [], [FIL_TIME_CTRL.TOD_SRC, FIL_TIME_CTRL.REQUIRE_LOCK, FIL_TIME_CTRL.DOMAIN]⟩,
  ⟨0xa0404, [], [FIL_TIME_STATE.STATE, FIL_TIME_STATE.SRC_OK]⟩,
  ⟨0xa0408, [], [FIL_TIME_NOW_SEC_LO.SEC]⟩,
  ⟨0xa040c, [], [FIL_TIME_NOW_SEC_HI.SEC]⟩,
  ⟨0xa0410, [], [FIL_TIME_NOW_NS.NS]⟩,
  ⟨0xa0414, [], [FIL_TIME_SET_SEC_LO.SEC]⟩,
  ⟨0xa0418, [], [FIL_TIME_SET_SEC_HI.SEC]⟩,
  ⟨0xa041c, [], [FIL_TIME_SET_NS.NS]⟩,
  ⟨0xa0420, [], [FIL_TIME_CMD.SET]⟩,
  ⟨0xa0424, [], [FIL_TIME_OFFSET.NS]⟩,
  ⟨0xa0428, [], [FIL_TIME_RATE.RATE]⟩,
  ⟨0xa042c, [], [FIL_STEP_THRESH.US]⟩,
  ⟨0xa0430, [], [FIL_SLEW_MAX.PPM]⟩,
  ⟨0xa0434, [], [FIL_HOLD_LIMIT.S]⟩,
  ⟨0xa0438, [], [FIL_HOLD_TIME.S]⟩,
  ⟨0xa043c, [], [FIL_PPS_DELAY.NS]⟩,
  ⟨0xa0440, [], [FIL_PPS_BAD_COUNT.COUNT]⟩,
  ⟨0xa0444, [], [FIL_PTP_STATUS.PORT_STATE, FIL_PTP_STATUS.UTC_OFFSET]⟩,
  ⟨0xa0448, [], [FIL_PTP_MASTER_LO.ID]⟩,
  ⟨0xa044c, [], [FIL_PTP_MASTER_HI.ID]⟩,
  ⟨0xa0450, [], [FIL_PTP_MEANDELAY.NS]⟩]

/-- The register table of chapter 14, block 0xa. -/
def regRows14_A : List RegRow := regRows14_A_0

/-- Rows of the register table, chapter 15, block 0xb (part 0). -/
def regRows15_B_0 : List RegRow := [
  ⟨0xb0000, [], [MON_STATUS.RUNNING, MON_STATUS.CAL_OK, MON_STATUS.CALIBRATING, MON_STATUS.INJ_RUN, MON_STATUS.INJ_PENDING, MON_STATUS.ENTRY, MON_STATUS.OT_COMP]⟩,
  ⟨0xb0004, [], [MON_CMD.CALIBRATE, MON_CMD.INJ_GO, MON_CMD.SEQ_APPLY]⟩,
  ⟨0xb0008, [], [MON_SEQ_CTRL.REG_LEN, MON_SEQ_CTRL.INJ_LEN, MON_SEQ_CTRL.INJ_TRIG]⟩,
  ⟨0xb000c, [], [MON_SEQ_PERIOD.PERIOD]⟩,
  ⟨0xb0010, [], [MON_SEQ_STATE.REFUSE, MON_SEQ_STATE.PENDING]⟩,
  ⟨0xb0014, [], [MON_CYCLE.TIME]⟩,
  ⟨0xb0018, [], [MON_EVENTS.CAL_DONE, MON_EVENTS.CAL_FAIL, MON_EVENTS.INJ_DONE, MON_EVENTS.INJ_LOST, MON_EVENTS.SEQ_APPLIED, MON_EVENTS.SEQ_REFUSED, MON_EVENTS.ALARM, MON_EVENTS.INPUT_FAIL, MON_EVENTS.VCORE, MON_EVENTS.STARVED]⟩,
  ⟨0xb001c, [], [MON_INJ_LOST.COUNT]⟩,
  ⟨0xb0020, [], [MON_INJ_STATUS.SRC]⟩,
  ⟨0xb0024, [], [MON_INJ_TICK_LO.TICK]⟩,
  ⟨0xb0028, [], [MON_INJ_TICK_HI.TICK]⟩,
  ⟨0xb002c, [], [MON_OVERRUN_COUNT.COUNT]⟩,
  ⟨0xb0030, [], [MON_CLR.CLR_COUNTS]⟩,
  ⟨0xb0040, [(0x8, 16)], [MON_SEQi_W0.W0 0]⟩,
  ⟨0xb0044, [(0x8, 16)], [MON_SEQi_W1.SAMPT 0]⟩,
  ⟨0xb00c0, [(0x8, 4)], [MON_ISEQj_W0.W0 0]⟩,
  ⟨0xb00c4, [(0x8, 4)], [MON_ISEQj_W1.SAMPT 0]⟩,
  ⟨0xb0100, [(0x4, 16)], [MON_RSLT_ii.VALUE 0, MON_RSLT_ii.INPUT 0, MON_RSLT_ii.CYCLE 0, MON_RSLT_ii.OVR 0, MON_RSLT_ii.FAIL 0, MON_RSLT_ii.VALID 0]⟩,
  ⟨0xb0140, [(0x4, 4)], [MON_IRSLT_j.VALUE 0, MON_IRSLT_j.INPUT 0, MON_IRSLT_j.CYCLE 0, MON_IRSLT_j.OVR 0, MON_IRSLT_j.FAIL 0, MON_IRSLT_j.VALID 0]⟩,
  ⟨0xb0160, [(0x4, 5)], [MON_CAL_g.OFS 0, MON_CAL_g.GAIN 0]⟩,
  ⟨0xb0174, [], [MON_CAL_STATUS.DONE, MON_CAL_STATUS.FAIL, MON_CAL_STATUS.COUNT]⟩,
  ⟨0xb0180, [], [MON_DIE_K0.K0]⟩,
  ⟨0xb0184, [], [MON_DIE_K1.K1]⟩,
  ⟨0xb0200, [(0x4, 24)], [MON_VALn.VALUE 0, MON_VALn.STATE 0, MON_VALn.STALE 0, MON_VALn.ALM_HI 0, MON_VALn.ALM_LO 0]⟩,
  ⟨0xb0280, [(0x4, 24)], [MON_VALn_TICK.TICK 0]⟩,
  ⟨0xb0300, [(0x4, 24)], [MON_HCORn.HOFS 0, MON_HCORn.HGAIN 0]⟩,
  ⟨0xb0380, [(0x10, 24)], [MON_ALMn_CTRL.EN_HI 0, MON_ALMn_CTRL.EN_LO 0, MON_ALMn_CTRL.QUAL 0, MON_ALMn_CTRL.HYST 0]⟩,
  ⟨0xb0384, [(0x10, 24)], [MON_ALMn_HI.HI 0]⟩,
  ⟨0xb0388, [(0x10, 24)], [MON_ALMn_LO.LO 0]⟩,
  ⟨0xb0500, [(0x8, 16)], [MON_ACT_SEQi_W0.W0 0]⟩,
  ⟨0xb0504, [(0x8, 16)], [MON_ACT_SEQi_W1.SAMPT 0]⟩,
  ⟨0xb0580, [(0x8, 4)], [MON_ACT_ISEQj_W0.W0 0]⟩,
  ⟨0xb0584, [(0x8, 4)], [MON_ACT_ISEQj_W1.SAMPT 0]⟩,
  ⟨0xb05a0, [], [MON_ACT_CTRL.ALL]⟩,
  ⟨0xb05a4, [], [MON_ACT_PERIOD.PERIOD]⟩,
  ⟨0xb0600, [], [MON_FAIL_STATUS.INPUTS]⟩,
  ⟨0xb0604, [], [MON_ALM_HI_STATUS.INPUTS]⟩,
  ⟨0xb0608, [], [MON_ALM_LO_STATUS.INPUTS]⟩]

/-- The register table of chapter 15, block 0xb. -/
def regRows15_B : List RegRow := regRows15_B_0

/-- Rows of the register table, chapter 16, block 0xc (part 0). -/
def regRows16_C_0 : List RegRow := [
  ⟨0xc0000, [], [PRT_BB_CTRL.MODE, PRT_BB_CTRL.LIVE_DEPTH]⟩,
  ⟨0xc0004, [], [PRT_BB_CAP_FRAMES.COUNT]⟩,
  ⟨0xc0008, [], [PRT_BB_CMD.ARM, PRT_BB_CMD.STOP, PRT_BB_CMD.FLUSH]⟩,
  ⟨0xc000c, [], [PRT_BB_STATE.CAP, PRT_BB_STATE.ENTRIES]⟩,
  ⟨0xc0010, [], [PRT_BB_PAGES.PAGES]⟩,
  ⟨0xc0014, [], [PRT_BB_FREE.PAGES]⟩,
  ⟨0xc0018, [], [PRT_BB_DROP_COUNT.COUNT]⟩,
  ⟨0xc001c, [], [PRT_BB_LIVE_DROP.COUNT]⟩,
  ⟨0xc0020, [], [PRT_BB_POSTCAP_COUNT.COUNT]⟩,
  ⟨0xc0024, [], [PRT_BB_CAPTURED.COUNT]⟩,
  ⟨0xc0028, [], [PRT_BB_FLUSH_COUNT.COUNT]⟩,
  ⟨0xc002c, [], [PRT_EVENTS.OVERRUN, PRT_EVENTS.DRAIN_DONE, PRT_EVENTS.LINK_DOWN, PRT_EVENTS.LINK_UP, PRT_EVENTS.QP_ERROR, PRT_EVENTS.PAUSE_LONG, PRT_EVENTS.ARP_FAIL, PRT_EVENTS.PLUGGABLE]⟩,
  ⟨0xc0030, [], [PRT_CLR.CLR_COUNTS]⟩,
  ⟨0xc0100, [(0x100, 4)], [PRT_Pn_STATUS.PRESENT 0, PRT_Pn_STATUS.PHY 0, PRT_Pn_STATUS.LINK 0, PRT_Pn_STATUS.AN_FAIL 0, PRT_Pn_STATUS.PAUSED 0]⟩,
  ⟨0xc0104, [(0x100, 4)], [PRT_Pn_CTRL.FC_MODE 0, PRT_Pn_CTRL.VLAN_EN 0, PRT_Pn_CTRL.PCP 0, PRT_Pn_CTRL.VID 0]⟩,
  ⟨0xc0108, [(0x100, 4)], [PRT_Pn_IP.ADDR 0]⟩,
  ⟨0xc010c, [(0x100, 4)], [PRT_Pn_PREFIX.LEN 0]⟩,
  ⟨0xc0110, [(0x100, 4)], [PRT_Pn_GW.ADDR 0]⟩,
  ⟨0xc0114, [(0x100, 4)], [PRT_Pn_MAC_LO.MAC 0]⟩,
  ⟨0xc0118, [(0x100, 4)], [PRT_Pn_MAC_HI.MAC 0]⟩,
  ⟨0xc011c, [(0x100, 4)], [PRT_Pn_PAUSE_LIMIT.MS 0]⟩,
  ⟨0xc0120, [(0x100, 4)], [PRT_Pn_PAUSE_MS.COUNT 0]⟩,
  ⟨0xc0124, [(0x100, 4)], [PRT_Pn_RX_DISCARD.COUNT 0]⟩,
  ⟨0xc0128, [(0x100, 4)], [PRT_Pn_LINKDOWN_COUNT.COUNT 0]⟩,
  ⟨0xc012c, [(0x100, 4)], [PRT_Pn_FEC_CORR.COUNT 0]⟩,
  ⟨0xc0130, [(0x100, 4)], [PRT_Pn_FEC_UNCORR.COUNT 0]⟩,
  ⟨0xc0800, [(0x80, 16)], [PRT_CHn_CTRL.EN 0, PRT_CHn_CTRL.TRANSPORT 0, PRT_CHn_CTRL.DSCP 0]⟩,
  ⟨0xc0804, [(0x80, 16)], [PRT_CHn_STATUS.STATE 0, PRT_CHn_STATUS.REFUSE 0]⟩,
  ⟨0xc0808, [(0x80, 16)], [PRT_CHn_DST_IP.ADDR 0]⟩,
  ⟨0xc080c, [(0x80, 16)], [PRT_CHn_UDP.SRC 0, PRT_CHn_UDP.DST 0]⟩,
  ⟨0xc0810, [(0x80, 16)], [PRT_CHn_DST_MAC_LO.MAC 0]⟩,
  ⟨0xc0814, [(0x80, 16)], [PRT_CHn_DST_MAC_HI.MAC 0, PRT_CHn_DST_MAC_HI.STATIC 0]⟩,
  ⟨0xc0818, [(0x80, 16)], [PRT_CHn_SEQ.SEQ 0]⟩,
  ⟨0xc081c, [(0x80, 16)], [PRT_CHn_SENT.COUNT 0]⟩,
  ⟨0xc0820, [(0x80, 16)], [PRT_CHn_OFF_DISCARD.COUNT 0]⟩,
  ⟨0xc0830, [(0x80, 16)], [PRT_CHn_RDMA_CFG.PMTU 0, PRT_CHn_RDMA_CFG.TIMEOUT 0, PRT_CHn_RDMA_CFG.RETRY 0]⟩,
  ⟨0xc0834, [(0x80, 16)], [PRT_CHn_RDMA_QPN.REMOTE 0]⟩,
  ⟨0xc0838, [(0x80, 16)], [PRT_CHn_RDMA_PSN.PSN 0]⟩,
  ⟨0xc083c, [(0x80, 16)], [PRT_CHn_RDMA_RKEY.RKEY 0]⟩,
  ⟨0xc0840, [(0x80, 16)], [PRT_CHn_RDMA_VA_LO.VA 0]⟩]

/-- Rows of the register table, chapter 16, block 0xc (part 1). -/
def regRows16_C_1 : List RegRow := [
  ⟨0xc0844, [(0x80, 16)], [PRT_CHn_RDMA_VA_HI.VA 0]⟩,
  ⟨0xc0848, [(0x80, 16)], [PRT_CHn_RDMA_LEN.LEN 0]⟩,
  ⟨0xc084c, [(0x80, 16)], [PRT_CHn_RDMA_SLOT.SLOT_PAGES 0, PRT_CHn_RDMA_SLOT.SLOTS 0]⟩,
  ⟨0xc0850, [(0x80, 16)], [PRT_CHn_CONS.CONS 0]⟩,
  ⟨0xc0854, [(0x80, 16)], [PRT_CHn_PROD.PROD 0]⟩,
  ⟨0xc0858, [(0x80, 16)], [PRT_CHn_LOCAL_QPN.QPN 0]⟩,
  ⟨0xc085c, [(0x80, 16)], [PRT_CHn_QP_STATE.STATE 0]⟩,
  ⟨0xc0860, [(0x80, 16)], [PRT_CHn_RATE.MBPS 0]⟩,
  ⟨0xc0864, [(0x80, 16)], [PRT_CHn_CNP_COUNT.COUNT 0]⟩,
  ⟨0xc0868, [(0x80, 16)], [PRT_CHn_RETRANS.COUNT 0]⟩]

/-- The register table of chapter 16, block 0xc. -/
def regRows16_C : List RegRow := regRows16_C_0 ++ regRows16_C_1

end Sys2Proof.Machine
end

