-- ==== Sys2Proof/Machine/RegsD.lean ====
section
/-!
DEFINITION. The named register fields, written from the register tables of spec/ (chapters 17, 18, 19; R12 to R15).
A field of an indexed register takes its index. Reset 0 stands where the table has a dash (log entry 2).
-/
namespace Sys2Proof.Machine


/-! Registers of spec/17_host_control.md -/

def ENG_ID.PRODUCT : Fld := fld 0x0 0 16 50 .ro
def ENG_ID.HWREV : Fld := fld 0x0 16 8 0 .ro
def ENG_SERIAL_LO.SERIAL : Fld := fld 0x4 0 32 0 .ro
def ENG_SERIAL_HI.SERIAL : Fld := fld 0x8 0 32 0 .ro
def ENG_UPTIME.S : Fld := fld 0xc 0 32 0 .ro
def ENG_STATUS.MODE : Fld := fld 0x10 0 3 0 .ro
def ENG_STATUS.RUN : Fld := fld 0x10 3 1 0 .ro
def ENG_STATUS.CHANGING : Fld := fld 0x10 4 1 0 .ro
def ENG_STATUS.POWER : Fld := fld 0x10 5 3 0 .ro
def ENG_STATUS.GOVTIER : Fld := fld 0x10 8 2 0 .ro
def ENG_STATUS.CALSTATE : Fld := fld 0x10 12 3 0 .ro
def ENG_STATUS.QUAR : Fld := fld 0x10 16 3 0 .ro
def ENG_STATUS.OPBUSY : Fld := fld 0x10 20 1 0 .ro
def ENG_STATUS.FAULT : Fld := fld 0x10 24 6 0 .ro
def ENG_MODE_CMD.CMD : Fld := fld 0x14 0 4 0 .wo
def ENG_LAST_REFUSE.REASON : Fld := fld 0x18 0 16 0 .ro
def ENG_LAST_REFUSE.STATUS : Fld := fld 0x18 16 3 0 .ro
def ENG_LAST_REFUSE.OP : Fld := fld 0x18 24 8 0 .ro
def ENG_LAST_REFUSE_ADDR.ADDR : Fld := fld 0x1c 0 32 0 .ro
def ENG_FACILITY_IDi.ID (n : Nat) : Fld := fld (0x20 + 0x4 * n) 0 32 0 .ro
def ENG_SESSIONS.COUNT : Fld := fld 0x30 0 3 0 .ro
def ENG_SESSIONS.CUST : Fld := fld 0x30 4 1 0 .ro
def ENG_SESSION_TIMEOUT.S : Fld := fldR 0x34 0 10 30 .rw 5 600
def ENG_ACL_ADDR.ADDR : Fld := fld 0x38 0 32 0 .rw
def ENG_ACL_PREFIX.LEN : Fld := fldR 0x3c 0 6 0 .rw 0 32
def ENG_MGMT_CTRL.DHCP_EN : Fld := fld 0x40 0 1 0 .rw
def ENG_MGMT_IP.ADDR : Fld := fld 0x44 0 32 0 .rw
def ENG_MGMT_PREFIX.LEN : Fld := fldR 0x48 0 6 0 .rw 0 32
def ENG_MGMT_GW.ADDR : Fld := fld 0x4c 0 32 0 .rw
def ENG_MGMT_ACTIVE_IP.ADDR : Fld := fld 0x50 0 32 0 .ro
def ENG_MGMT_STATE.SRC : Fld := fld 0x54 0 2 0 .ro
def ENG_MGMT_STATE.LINK : Fld := fld 0x54 4 1 0 .ro
def ENG_MGMT_MAC_LO.MAC : Fld := fld 0x58 0 32 0 .ro
def ENG_MGMT_MAC_HI.MAC : Fld := fld 0x5c 0 16 0 .ro
def ENG_TMP_RX.COUNT : Fld := fld 0x60 0 32 0 .ro
def ENG_TMP_RETRY.COUNT : Fld := fld 0x64 0 32 0 .ro
def ENG_TMP_ERR.COUNT : Fld := fld 0x68 0 32 0 .ro
def ENG_TOKEN.PENDING : Fld := fld 0x6c 0 1 0 .ro
def ENG_TOKEN.SETTING : Fld := fld 0x6c 4 3 0 .ro
def ENG_TOKEN.COUNT : Fld := fld 0x6c 8 8 0 .ro
def ENG_CUST_KEYS.KEYS : Fld := fld 0x70 0 4 0 .ro
def ENG_CUST_KEYS.REVOKED : Fld := fld 0x70 8 4 0 .ro
def ENG_TMP_DISCARD.COUNT : Fld := fld 0x74 0 32 0 .ro
def OPS_SUMMARY.STATEs (k : Nat) : Fld := fld 0xd0000 (3 * k) 3 0 .ro
def OPS_EVENTS.END : Fld := fld 0xd0004 0 8 0 .w1c
def OPS_EVENTS.LATE : Fld := fld 0xd0004 8 8 0 .w1c
def OP_CMD.CMD (n : Nat) : Fld := fld (0xd0100 + 0x100 * n) 0 16 0 .rw
def OP_ARG0.ARG (n : Nat) : Fld := fld (0xd0104 + 0x100 * n) 0 32 0 .rw
def OP_ARG1.ARG (n : Nat) : Fld := fld (0xd0108 + 0x100 * n) 0 32 0 .rw
def OP_ARG2.ARG (n : Nat) : Fld := fld (0xd010c + 0x100 * n) 0 32 0 .rw
def OP_ARG3.ARG (n : Nat) : Fld := fld (0xd0110 + 0x100 * n) 0 32 0 .rw
def OP_STATUS.STATE (n : Nat) : Fld := fld (0xd0114 + 0x100 * n) 0 3 0 .ro
def OP_STATUS.ABORT_REQ (n : Nat) : Fld := fld (0xd0114 + 0x100 * n) 4 1 0 .ro
def OP_STATUS.PARTIAL (n : Nat) : Fld := fld (0xd0114 + 0x100 * n) 5 1 0 .ro
def OP_STATUS.ABORT_LATE (n : Nat) : Fld := fld (0xd0114 + 0x100 * n) 6 1 0 .ro
def OP_STATUS.PROGRESS (n : Nat) : Fld := fld (0xd0114 + 0x100 * n) 16 10 0 .ro
def OP_STATUS.GEN (n : Nat) : Fld := fld (0xd0114 + 0x100 * n) 28 4 0 .ro
def OP_CTRL.ABORT (n : Nat) : Fld := fld (0xd0118 + 0x100 * n) 0 1 0 .wo
def OP_SESSION.SESSION (n : Nat) : Fld := fld (0xd011c + 0x100 * n) 0 32 0 .ro
def OP_START_TICK_LO.TICK (n : Nat) : Fld := fld (0xd0120 + 0x100 * n) 0 32 0 .ro
def OP_START_TICK_HI.TICK (n : Nat) : Fld := fld (0xd0124 + 0x100 * n) 0 32 0 .ro
def OP_END_TICK_LO.TICK (n : Nat) : Fld := fld (0xd0128 + 0x100 * n) 0 32 0 .ro
def OP_END_TICK_HI.TICK (n : Nat) : Fld := fld (0xd012c + 0x100 * n) 0 32 0 .ro
def OP_RESULT_w.WORD (n i : Nat) : Fld := fld (0xd0140 + 0x100 * n + 0x4 * i) 0 32 0 .ro

/-! Registers of spec/18_store_tally_panel.md -/

def NVS_STATUS.STORE_OK : Fld := fld 0xe0000 0 1 0 .ro
def NVS_STATUS.RECOVERY : Fld := fld 0xe0000 1 1 0 .ro
def NVS_STATUS.FW_COPY : Fld := fld 0xe0000 2 1 0 .ro
def NVS_STATUS.FW_FALLBACK : Fld := fld 0xe0000 3 1 0 .ro
def NVS_STATUS.SHUT_OK : Fld := fld 0xe0000 4 1 0 .ro
def NVS_CMD.SHUTDOWN : Fld := fld 0xe0004 0 1 0 .wo
def NVS_CMD.RESTART : Fld := fld 0xe0004 1 1 0 .wo
def NVS_EVENTS.RETIRED : Fld := fld 0xe0008 0 1 0 .w1c
def NVS_EVENTS.UNCORR : Fld := fld 0xe0008 1 1 0 .w1c
def NVS_EVENTS.BURN_FAIL : Fld := fld 0xe0008 2 1 0 .w1c
def NVS_EVENTS.TALLY_REPAIR : Fld := fld 0xe0008 3 1 0 .w1c
def NVS_EVENTS.PNL_STALE : Fld := fld 0xe0008 4 1 0 .w1c
def NVS_EVENTS.COMPACT : Fld := fld 0xe0008 5 1 0 .w1c
def NVS_FWc_VER.VER (n : Nat) : Fld := fld (0xe0010 + 0x8 * n) 0 32 0 .ro
def NVS_FWc_INFO.ARB_EPOCH (n : Nat) : Fld := fld (0xe0014 + 0x8 * n) 0 8 0 .ro
def NVS_FWc_INFO.STATE (n : Nat) : Fld := fld (0xe0014 + 0x8 * n) 8 2 0 .ro
def NVS_FWc_INFO.PRIMARY (n : Nat) : Fld := fld (0xe0014 + 0x8 * n) 12 1 0 .ro
def NVS_BOOT_COUNT.COUNT : Fld := fld 0xe0020 0 32 0 .ro
def NVS_JSEQ_LO.JSEQ : Fld := fld 0xe0024 0 32 0 .ro
def NVS_JSEQ_HI.JSEQ : Fld := fld 0xe0028 0 32 0 .ro
def NVS_JRNL_FREE.BLOCKS : Fld := fld 0xe002c 0 9 0 .ro
def NVS_JRNL_BAD.COUNT : Fld := fld 0xe0030 0 32 0 .ro
def NVS_REERASE_COUNT.COUNT : Fld := fld 0xe0034 0 32 0 .ro
def NVS_DIRTY_COUNT.COUNT : Fld := fld 0xe0038 0 14 0 .ro
def NVS_SPARE_LEFT.BLOCKS : Fld := fld 0xe003c 0 14 0 .ro
def NVS_RETIRED_COUNT.COUNT : Fld := fld 0xe0040 0 14 0 .ro
def NVS_MAX_ERASES.COUNT : Fld := fld 0xe0044 0 17 0 .ro
def NVS_ECC_CORR.COUNT : Fld := fld 0xe0048 0 32 0 .ro
def NVS_ECC_UNCORR.COUNT : Fld := fld 0xe004c 0 32 0 .ro
def NVS_TALLY_s.USED (n : Nat) : Fld := fld (0xe0100 + 0x4 * n) 0 9 0 .ro
def NVS_TALLY_s.TOTAL (n : Nat) : Fld := fld (0xe0100 + 0x4 * n) 16 9 0 .ro
def NVS_TALLY_RAWi.CELLS (n : Nat) : Fld := fld (0xe0120 + 0x4 * n) 0 32 0 .ro
def NVS_TLOG_COUNT.COUNT : Fld := fld 0xe0160 0 16 0 .ro
def NVS_TLOG_SEL.INDEX : Fld := fld 0xe0164 0 15 0 .rw
def NVS_TLOG_WORDi.BYTES (n : Nat) : Fld := fld (0xe0180 + 0x4 * n) 0 32 0 .ro
def NVS_LOG_COUNT.COUNT : Fld := fld 0xe0200 0 32 0 .ro
def NVS_LOG_SEL.INDEX : Fld := fld 0xe0204 0 24 0 .rw
def NVS_LOG_LOST.COUNT : Fld := fld 0xe0208 0 32 0 .ro
def NVS_LOG_WORDi.BYTES (n : Nat) : Fld := fld (0xe0220 + 0x4 * n) 0 32 0 .ro
def NVS_PNL_STATE.STATE : Fld := fld 0xe0300 0 3 0 .ro
def NVS_PNL_STATE.KIND : Fld := fld 0xe0300 4 2 0 .ro
def NVS_PNL_SEQ.SEQ : Fld := fld 0xe0304 0 32 0 .ro
def NVS_PNL_CTRL.AUTO_EN : Fld := fld 0xe0308 0 1 1 .rw
def NVS_PNL_CTRL.MIN_S : Fld := fldR 0xe0308 16 12 30 .rw 10 3600
def NVS_PNL_COUNT.COUNT : Fld := fld 0xe030c 0 32 0 .ro
def NVS_PNL_TEXTj.CHARS (n : Nat) : Fld := fld (0xe0340 + 0x4 * n) 0 32 0 .rw
def NVS_LAMP.GREEN : Fld := fld 0xe0390 0 3 0 .ro
def NVS_LAMP.AMBER : Fld := fld 0xe0390 4 3 0 .ro

/-! Registers of spec/19_faults.md -/

def ALM_STATUS.ACTIVE : Fld := fld 0xf0000 0 7 0 .ro
def ALM_STATUS.ESCALATED : Fld := fld 0xf0000 8 1 0 .ro
def ALM_STATUS.OVERFLOW : Fld := fld 0xf0000 9 1 0 .ro
def ALM_ACK.CODE : Fld := fld 0xf0004 0 16 0 .wo
def ALM_ACK.INST : Fld := fld 0xf0004 16 8 0 .wo
def ALM_ACK.ALL : Fld := fld 0xf0004 31 1 0 .wo
def ALM_EVENTS.RAISED : Fld := fld 0xf0008 0 1 0 .w1c
def ALM_EVENTS.CLEARED : Fld := fld 0xf0008 1 1 0 .w1c
def ALM_EVENTS.ESCALATED : Fld := fld 0xf0008 2 1 0 .w1c
def ALM_EVENTS.OVERFLOW : Fld := fld 0xf0008 3 1 0 .w1c
def ALM_RAISE_COUNT.COUNT : Fld := fld 0xf000c 0 32 0 .ro
def ALM_OVERFLOW_COUNT.COUNT : Fld := fld 0xf0010 0 32 0 .ro
def ALM_ESC_COUNT.COUNT : Fld := fld 0xf0014 0 16 0 .ro
def ALM_ESC_CAUSE.CODE : Fld := fld 0xf0018 0 16 0 .ro
def ALM_ESC_CAUSE.INST : Fld := fld 0xf0018 16 8 0 .ro
def ALM_ESC_MS.MS : Fld := fld 0xf001c 0 32 0 .ro
def ALM_ENTRYk_ID.CODE (n : Nat) : Fld := fld (0xf0100 + 0x10 * n) 0 16 0 .ro
def ALM_ENTRYk_ID.INST (n : Nat) : Fld := fld (0xf0100 + 0x10 * n) 16 8 0 .ro
def ALM_ENTRYk_ID.CLEARS (n : Nat) : Fld := fld (0xf0100 + 0x10 * n) 24 1 0 .ro
def ALM_ENTRYk_ID.ESC (n : Nat) : Fld := fld (0xf0100 + 0x10 * n) 25 1 0 .ro
def ALM_ENTRYk_COUNT.COUNT (n : Nat) : Fld := fld (0xf0104 + 0x10 * n) 0 16 0 .ro
def ALM_ENTRYk_FIRST.MS (n : Nat) : Fld := fld (0xf0108 + 0x10 * n) 0 32 0 .ro
def ALM_ENTRYk_LAST.MS (n : Nat) : Fld := fld (0xf010c + 0x10 * n) 0 32 0 .ro

/-- Rows of the register table, chapter 17, block 0x0 (part 0). -/
def regRows17_0_0 : List RegRow := [
  ⟨0x0, [], [ENG_ID.PRODUCT, ENG_ID.HWREV]⟩,
  ⟨0x4, [], [ENG_SERIAL_LO.SERIAL]⟩,
  ⟨0x8, [], [ENG_SERIAL_HI.SERIAL]⟩,
  ⟨0xc, [], [ENG_UPTIME.S]⟩,
  ⟨0x10, [], [ENG_STATUS.MODE, ENG_STATUS.RUN, ENG_STATUS.CHANGING, ENG_STATUS.POWER, ENG_STATUS.GOVTIER, ENG_STATUS.CALSTATE, ENG_STATUS.QUAR, ENG_STATUS.OPBUSY, ENG_STATUS.FAULT]⟩,
  ⟨0x14, [], [ENG_MODE_CMD.CMD]⟩,
  ⟨0x18, [], [ENG_LAST_REFUSE.REASON, ENG_LAST_REFUSE.STATUS, ENG_LAST_REFUSE.OP]⟩,
  ⟨0x1c, [], [ENG_LAST_REFUSE_ADDR.ADDR]⟩,
  ⟨0x20, [(0x4, 4)], [ENG_FACILITY_IDi.ID 0]⟩,
  ⟨0x30, [], [ENG_SESSIONS.COUNT, ENG_SESSIONS.CUST]⟩,
  ⟨0x34, [], [ENG_SESSION_TIMEOUT.S]⟩,
  ⟨0x38, [], [ENG_ACL_ADDR.ADDR]⟩,
  ⟨0x3c, [], [ENG_ACL_PREFIX.LEN]⟩,
  ⟨0x40, [], [ENG_MGMT_CTRL.DHCP_EN]⟩,
  ⟨0x44, [], [ENG_MGMT_IP.ADDR]⟩,
  ⟨0x48, [], [ENG_MGMT_PREFIX.LEN]⟩,
  ⟨0x4c, [], [ENG_MGMT_GW.ADDR]⟩,
  ⟨0x50, [], [ENG_MGMT_ACTIVE_IP.ADDR]⟩,
  ⟨0x54, [], [ENG_MGMT_STATE.SRC, ENG_MGMT_STATE.LINK]⟩,
  ⟨0x58, [], [ENG_MGMT_MAC_LO.MAC]⟩,
  ⟨0x5c, [], [ENG_MGMT_MAC_HI.MAC]⟩,
  ⟨0x60, [], [ENG_TMP_RX.COUNT]⟩,
  ⟨0x64, [], [ENG_TMP_RETRY.COUNT]⟩,
  ⟨0x68, [], [ENG_TMP_ERR.COUNT]⟩,
  ⟨0x6c, [], [ENG_TOKEN.PENDING, ENG_TOKEN.SETTING, ENG_TOKEN.COUNT]⟩,
  ⟨0x70, [], [ENG_CUST_KEYS.KEYS, ENG_CUST_KEYS.REVOKED]⟩,
  ⟨0x74, [], [ENG_TMP_DISCARD.COUNT]⟩]

/-- The register table of chapter 17, block 0x0. -/
def regRows17_0 : List RegRow := regRows17_0_0

/-- Rows of the register table, chapter 17, block 0xd (part 0). -/
def regRows17_D_0 : List RegRow := [
  ⟨0xd0000, [], [OPS_SUMMARY.STATEs 0, OPS_SUMMARY.STATEs 1, OPS_SUMMARY.STATEs 2, OPS_SUMMARY.STATEs 3, OPS_SUMMARY.STATEs 4, OPS_SUMMARY.STATEs 5, OPS_SUMMARY.STATEs 6, OPS_SUMMARY.STATEs 7]⟩,
  ⟨0xd0004, [], [OPS_EVENTS.END, OPS_EVENTS.LATE]⟩,
  ⟨0xd0100, [(0x100, 8)], [OP_CMD.CMD 0]⟩,
  ⟨0xd0104, [(0x100, 8)], [OP_ARG0.ARG 0]⟩,
  ⟨0xd0108, [(0x100, 8)], [OP_ARG1.ARG 0]⟩,
  ⟨0xd010c, [(0x100, 8)], [OP_ARG2.ARG 0]⟩,
  ⟨0xd0110, [(0x100, 8)], [OP_ARG3.ARG 0]⟩,
  ⟨0xd0114, [(0x100, 8)], [OP_STATUS.STATE 0, OP_STATUS.ABORT_REQ 0, OP_STATUS.PARTIAL 0, OP_STATUS.ABORT_LATE 0, OP_STATUS.PROGRESS 0, OP_STATUS.GEN 0]⟩,
  ⟨0xd0118, [(0x100, 8)], [OP_CTRL.ABORT 0]⟩,
  ⟨0xd011c, [(0x100, 8)], [OP_SESSION.SESSION 0]⟩,
  ⟨0xd0120, [(0x100, 8)], [OP_START_TICK_LO.TICK 0]⟩,
  ⟨0xd0124, [(0x100, 8)], [OP_START_TICK_HI.TICK 0]⟩,
  ⟨0xd0128, [(0x100, 8)], [OP_END_TICK_LO.TICK 0]⟩,
  ⟨0xd012c, [(0x100, 8)], [OP_END_TICK_HI.TICK 0]⟩,
  ⟨0xd0140, [(0x100, 8), (0x4, 48)], [OP_RESULT_w.WORD 0 0]⟩]

/-- The register table of chapter 17, block 0xd. -/
def regRows17_D : List RegRow := regRows17_D_0

/-- Rows of the register table, chapter 18, block 0xe (part 0). -/
def regRows18_E_0 : List RegRow := [
  ⟨0xe0000, [], [NVS_STATUS.STORE_OK, NVS_STATUS.RECOVERY, NVS_STATUS.FW_COPY, NVS_STATUS.FW_FALLBACK, NVS_STATUS.SHUT_OK]⟩,
  ⟨0xe0004, [], [NVS_CMD.SHUTDOWN, NVS_CMD.RESTART]⟩,
  ⟨0xe0008, [], [NVS_EVENTS.RETIRED, NVS_EVENTS.UNCORR, NVS_EVENTS.BURN_FAIL, NVS_EVENTS.TALLY_REPAIR, NVS_EVENTS.PNL_STALE, NVS_EVENTS.COMPACT]⟩,
  ⟨0xe0010, [(0x8, 2)], [NVS_FWc_VER.VER 0]⟩,
  ⟨0xe0014, [(0x8, 2)], [NVS_FWc_INFO.ARB_EPOCH 0, NVS_FWc_INFO.STATE 0, NVS_FWc_INFO.PRIMARY 0]⟩,
  ⟨0xe0020, [], [NVS_BOOT_COUNT.COUNT]⟩,
  ⟨0xe0024, [], [NVS_JSEQ_LO.JSEQ]⟩,
  ⟨0xe0028, [], [NVS_JSEQ_HI.JSEQ]⟩,
  ⟨0xe002c, [], [NVS_JRNL_FREE.BLOCKS]⟩,
  ⟨0xe0030, [], [NVS_JRNL_BAD.COUNT]⟩,
  ⟨0xe0034, [], [NVS_REERASE_COUNT.COUNT]⟩,
  ⟨0xe0038, [], [NVS_DIRTY_COUNT.COUNT]⟩,
  ⟨0xe003c, [], [NVS_SPARE_LEFT.BLOCKS]⟩,
  ⟨0xe0040, [], [NVS_RETIRED_COUNT.COUNT]⟩,
  ⟨0xe0044, [], [NVS_MAX_ERASES.COUNT]⟩,
  ⟨0xe0048, [], [NVS_ECC_CORR.COUNT]⟩,
  ⟨0xe004c, [], [NVS_ECC_UNCORR.COUNT]⟩,
  ⟨0xe0104, [(0x4, 5)], [NVS_TALLY_s.USED 1, NVS_TALLY_s.TOTAL 1]⟩,
  ⟨0xe0120, [(0x4, 16)], [NVS_TALLY_RAWi.CELLS 0]⟩,
  ⟨0xe0160, [], [NVS_TLOG_COUNT.COUNT]⟩,
  ⟨0xe0164, [], [NVS_TLOG_SEL.INDEX]⟩,
  ⟨0xe0180, [(0x4, 16)], [NVS_TLOG_WORDi.BYTES 0]⟩,
  ⟨0xe0200, [], [NVS_LOG_COUNT.COUNT]⟩,
  ⟨0xe0204, [], [NVS_LOG_SEL.INDEX]⟩,
  ⟨0xe0208, [], [NVS_LOG_LOST.COUNT]⟩,
  ⟨0xe0220, [(0x4, 8)], [NVS_LOG_WORDi.BYTES 0]⟩,
  ⟨0xe0300, [], [NVS_PNL_STATE.STATE, NVS_PNL_STATE.KIND]⟩,
  ⟨0xe0304, [], [NVS_PNL_SEQ.SEQ]⟩,
  ⟨0xe0308, [], [NVS_PNL_CTRL.AUTO_EN, NVS_PNL_CTRL.MIN_S]⟩,
  ⟨0xe030c, [], [NVS_PNL_COUNT.COUNT]⟩,
  ⟨0xe0340, [(0x4, 20)], [NVS_PNL_TEXTj.CHARS 0]⟩,
  ⟨0xe0390, [], [NVS_LAMP.GREEN, NVS_LAMP.AMBER]⟩]

/-- The register table of chapter 18, block 0xe. -/
def regRows18_E : List RegRow := regRows18_E_0

/-- Rows of the register table, chapter 19, block 0xf (part 0). -/
def regRows19_F_0 : List RegRow := [
  ⟨0xf0000, [], [ALM_STATUS.ACTIVE, ALM_STATUS.ESCALATED, ALM_STATUS.OVERFLOW]⟩,
  ⟨0xf0004, [], [ALM_ACK.CODE, ALM_ACK.INST, ALM_ACK.ALL]⟩,
  ⟨0xf0008, [], [ALM_EVENTS.RAISED, ALM_EVENTS.CLEARED, ALM_EVENTS.ESCALATED, ALM_EVENTS.OVERFLOW]⟩,
  ⟨0xf000c, [], [ALM_RAISE_COUNT.COUNT]⟩,
  ⟨0xf0010, [], [ALM_OVERFLOW_COUNT.COUNT]⟩,
  ⟨0xf0014, [], [ALM_ESC_COUNT.COUNT]⟩,
  ⟨0xf0018, [], [ALM_ESC_CAUSE.CODE, ALM_ESC_CAUSE.INST]⟩,
  ⟨0xf001c, [], [ALM_ESC_MS.MS]⟩,
  ⟨0xf0100, [(0x10, 64)], [ALM_ENTRYk_ID.CODE 0, ALM_ENTRYk_ID.INST 0, ALM_ENTRYk_ID.CLEARS 0, ALM_ENTRYk_ID.ESC 0]⟩,
  ⟨0xf0104, [(0x10, 64)], [ALM_ENTRYk_COUNT.COUNT 0]⟩,
  ⟨0xf0108, [(0x10, 64)], [ALM_ENTRYk_FIRST.MS 0]⟩,
  ⟨0xf010c, [(0x10, 64)], [ALM_ENTRYk_LAST.MS 0]⟩]

/-- The register table of chapter 19, block 0xf. -/
def regRows19_F : List RegRow := regRows19_F_0

end Sys2Proof.Machine
end

