-- ==== Sys2Proof/Machine/RegMap.lean ====
section
/-!
DEFINITION. The register map: the rows of each block (R11), found by address.
-/
namespace Sys2Proof.Machine

/-- The register rows of a block, by block index (R11). -/
def blockRows : Nat → List RegRow
  | 0 => regRows04_0 ++ regRows17_0
  | 1 => regRows02_1
  | 2 => regRows03_2
  | 3 => regRows05_3
  | 4 => regRows04_4 ++ regRows06_4
  | 5 => regRows07_5
  | 6 => regRows08_6
  | 7 => regRows09_7
  | 8 => regRows10_8 ++ regRows11_8
  | 9 => regRows13_9
  | 10 => regRows14_A
  | 11 => regRows15_B
  | 12 => regRows16_C
  | 13 => regRows17_D
  | 14 => regRows18_E
  | 15 => regRows19_F
  | _ => []

/-- The named fields of the register at an address; none where no register table names it (R468). -/
def fieldsAt (addr : Nat) : Option (List Fld) :=
  if addr % 4 = 0 ∧ addr < 0x100000 then
    ((blockRows (addr / 0x10000)).find? (·.holds addr)).map (·.fieldsFor addr)
  else none

end Sys2Proof.Machine
end

