-- ==== Sys2Proof/Machine/State.lean ====
section
/-!
DEFINITION. The state of the module: the register file, and behind it the state of each block as plain data.
-/
namespace Sys2Proof.Machine

/-- The coefficients of one pixel (R217). -/
structure Coef where
  o0 : Int := 0
  o1 : Int := 0
  o2 : Int := 0
  g0 : Nat := 0
  g1 : Int := 0
  deriving DecidableEq, Repr

/-- The reference lines of a tile (R309): XAVG and SPAN they were measured under, and D and W in 1/256 code by
`band × 4,096 + column`; a column not listed has its identity value (R312). -/
structure RefLines where
  xavg : Nat := 1
  span : Nat := 0
  d : List (Nat × Nat) := []
  w : List (Nat × Nat) := []
  deriving DecidableEq, Repr

/-- The coefficient set of one tile in a generation (R241). `file` is the factory table of the base set, `px` the
pixels whose values are newer than it, `bad` the bad-pixel map as a list of pixel indices (R232). LB, KR and RESP_L
are binary32 words. -/
structure TileSet where
  tref : Nat := 0
  cref : Nat := 0
  tb : Nat := 0
  kt : Nat := 0
  lb : Nat := 0
  kr : Nat := 0
  respL : Nat := 0
  cdrift : Nat := 0
  file : Mem := []
  px : List (Nat × Coef) := []
  bad : List Nat := []
  refs : Option RefLines := none
  deriving DecidableEq, Repr

/-- What one tile's pixels came to at station 5 and after (R228, R239, R240). -/
structure TileCounts where
  tile : Nat := 0
  satLow : Nat := 0
  satHigh : Nat := 0
  gainClamp : Nat := 0
  replaced : Nat := 0
  orphan : Nat := 0
  deriving DecidableEq, Repr

/-- A pixel formed by CONVERT: its code, or the bits of its binary32 value, and the orphan mark (R234). -/
structure OutPix where
  tile : Nat
  row : Nat
  col : Nat
  v : Nat
  orphan : Bool := false
  deriving DecidableEq, Repr

/-- The pixels and statistics blocks of a delivered frame, kept for the frames that repeat it (R254). -/
structure LiveFrame where
  format : Nat := 0
  pixels : List OutPix := []
  blocks : List (List Nat) := []
  deriving DecidableEq, Repr

/-- A bank entry of a position (R248): serial, whether REPLACE covers the drift terms, the replaced values, and
whether its CRC reads correct. -/
structure BankEnt where
  serial : Nat := 0
  drift : Bool := false
  set : TileSet := {}
  ok : Bool := true
  deriving DecidableEq, Repr


/-- The modes of R28; `none` until stage 10 of start-up has ended (R107). -/
inductive Mode where
  | none | stare | sweep | characterise | load | service | quarantine
  deriving DecidableEq, Repr

/-- ENG_STATUS.MODE (R479). -/
def Mode.code : Mode → Nat
  | .none => 0 | .stare => 1 | .sweep => 2 | .characterise => 3 | .load => 4 | .service => 5 | .quarantine => 6

/-- Why a frame or line yields no entry (R38, R47, R55, R289, R440). -/
inductive Drop where
  | kept | tier3 | overflow | reverse
  deriving DecidableEq, Repr

/-- A module fault that stops the model. No rule of spec/ stops the module: a fault of the module is an entry
of the active table (R520) and the machine goes on. The type is closed and empty of use; the one constructor
is never raised (safe). -/
inductive Fault where
  /-- Raised by nothing; it stands so that the type has a name to write (safe). -/
  | unreached
  deriving DecidableEq, Repr

/-- Why the model gives no step. -/
inductive Refusal where
  /-- The command has no meaning in the model yet; raised by an arm of Dispatch.lean alone (safe). -/
  | notModelled (mnemonic : String)
  deriving DecidableEq, Repr

/-- What leaves the module, newest first in `State.out`. -/
inductive Output where
  /-- A TMP reply to an address and port (R466). -/
  | tmpReply (ip port : Nat) (bytes : List Nat)
  /-- A packet payload on a data port: port, kind of packet, bytes (R432 to R460). -/
  | packet (port : Nat) (kind : String) (bytes : List Nat)
  /-- A pulse of a trigger output: output, instant of its start, length in phases (R389). -/
  | pulse (output start length : Nat)
  /-- The level of a pin driven through boundary scan (R547). -/
  | pin (cell : Nat) (level : Bool)
  /-- The paddle motor driven closed or open, or its heater (R252 to R259). -/
  | paddle (what : String)
  /-- A management-port packet that is not TMP (R464, R465). -/
  | mgmt (kind : String) (ip : Nat)
  /-- Bits shifted out of a data register of the test port (R95 to R97, R546). -/
  | scan (reg : String) (value : Nat)
  deriving DecidableEq, Repr

/-- A file of 1 KiB frames (R68): an image or a firmware file, with its length in frames. -/
structure ImgFile where
  file : Mem := []
  frames : Nat := 0
  deriving DecidableEq, Repr

/-- The mode and the start-up sequence (R28 to R32, R106). -/
structure SysS where
  mode : Mode := .none
  run : Bool := false
  changing : Bool := false
  runAt : Option Nat := none
  stopAt : Option Nat := none
  back : Mode := .none
  next : Option Mode := none
  stages : List Nat := []
  up : Bool := false
  escalated : Bool := false
  recovery : Bool := false
  frameNo : Nat := 0
  deriving DecidableEq, Repr

/-- The timing island's reference and the slack governor, behind the GOV registers (R36 to R65); `cestV` the code at the end of
the newest speed-monitor window (R62); `refAt` the instant at which the source change `refTo` was decided (R43); `vMoving`
while a voltage step settles (R37); `tierMade` a tier change made for the boundary that is due. -/
structure GovS where
  gates : Nat := 0
  refTo : Option Nat := none
  refAt : Nat := 0
  holdSince : Option Nat := none
  vTo : Option Nat := none
  vMoving : Bool := false
  tierMade : Bool := false
  tierNext : Option Nat := none
  raiseRun : Nat := 0
  lowerRun : Nat := 0
  voltRun : Nat := 0
  lateHeld : Bool := false
  episode : Bool := false
  notLate : Nat := 0
  hot : Bool := false
  cool : Nat := 0
  boundaries : Nat := 0
  cestV : Nat := 8
  keepNext : Bool := true
  lockDue : Bool := false
  predDue : Bool := false
  deriving DecidableEq, Repr

/-- A load that reads an image: what for, its source (0 to 3 slot, 4 staging, 5 test port), its operation slot,
the frames accepted, the file being read with the length its source gives in bytes, how far it is, and the compatibility decided. -/
structure LoadS where
  purpose : Nat := 0
  src : Nat := 0
  slot : Nat := 0
  n : Nat := 0
  file : Mem := []
  len : Option Nat := none
  phase : Nat := 0
  started : Nat := 0
  compat : Nat := 0
  deriving DecidableEq, Repr

/-- The fabric images and the load paths (R66 to R105). -/
structure ImgS where
  active : Option ImgFile := none
  loads : List LoadS := []
  tries : List Nat := []
  unlocked : Bool := false
  unlockOp : Option Nat := none
  staging : Mem := []
  tpFile : Mem := []
  instr : Nat := 2
  extest : Bool := false
  cells : Nat := 0
  vrefT : Bool := true
  deriving DecidableEq, Repr

/-- One tile position (R108): state code, tile type, serial and identity bytes read, bound serial, base set in
DRAM. -/
structure TilePos where
  state : Nat := 0
  present : Bool := false
  type : Nat := 0
  serial : Nat := 0
  bound : Nat := 0
  baseOk : Bool := false
  ident : List Nat := []
  deriving DecidableEq, Repr

/-- Discovery, compatibility and settling (R106 to R128): `checkAt` the instant of the next settling check, `temps` the values of the
tile and paddle sensors of the last 11 s (instant, sensor, 1/64 K). -/
structure BringS where
  tiles : List TilePos := List.replicate 8 {}
  carrier : CarrierRead := {}
  fw : FwDesc := {}
  settleFrom : Option Nat := none
  checkAt : Nat := 0
  biasMask : Nat := 0
  temps : List (Nat × Nat × Nat) := []
  deriving DecidableEq, Repr

/-- A journal record (R493): type, payload bytes, sequence, start-up count, milliseconds, whether its CRC reads correct,
and whether a compaction wrote it (R496, R504). -/
structure JRec where
  type : Nat
  payload : List Nat
  jseq : Nat
  boot : Nat
  ms : Nat
  ok : Bool := true
  comp : Bool := false
  deriving DecidableEq, Repr

/-- A tally log record (R507). -/
structure TRec where
  kind : Nat
  setting : Nat
  cell : Nat
  count : Nat
  boot : Nat
  ms : Nat
  session : Nat
  keyId : Nat
  request : List Nat
  deriving DecidableEq, Repr

/-- An event log entry (R519). -/
structure LogEnt where
  code : Nat
  kind : Nat
  inst : Nat
  boot : Nat
  ms : Nat
  sec : Nat
  ns : Nat
  status : Nat
  deriving DecidableEq, Repr

/-- A factory table file or a bank's entry for a tile position: serial, tile type, and the file (R245, R247). -/
structure TableS where
  serial : Nat := 0
  file : Mem := []
  len : Nat := 0
  deriving DecidableEq, Repr

/-- One image slot in NAND: the committed copy (none: EMPTY) and the two copies (R85). -/
structure SlotS where
  copy : Option Nat := none
  a : ImgFile := {}
  b : ImgFile := {}
  deriving DecidableEq, Repr

/-- One warden firmware copy in NAND: state 0 empty, 1 valid, 2 rejected, and its file and contents (R501). -/
structure FwCopy where
  state : Nat := 0
  desc : FwDesc := {}
  file : ImgFile := {}
  deriving DecidableEq, Repr

/-- A coefficient bank in NAND: sequence, state (CAL_BANK_STATE), and per tile position the characterised
entry, if any (R247, R249). -/
structure BankS where
  seq : Nat := 0
  state : Nat := 0
  tiles : List (Nat × BankEnt) := []
  deriving DecidableEq, Repr

/-- What outlasts power: the NAND store, the tally cells and the panel (R490 to R519). `unbank`: positions bound since the newest bank
write, whose bank entries count no more (R247). -/
structure NvS where
  cells : Nat := 0
  tlog0 : List TRec := []
  tlog1 : List TRec := []
  journal : List JRec := []
  jseq : Nat := 0
  jfree : Nat := 256
  events : List LogEnt := []
  slots : List SlotS := List.replicate 4 {}
  fw : List FwCopy := List.replicate 2 {}
  tables : List TableS := List.replicate 16 {}
  tableAt : List Nat := List.replicate 8 0
  banks : List BankS := List.replicate 2 {}
  erases : List (Nat × Nat) := []
  map : List (Nat × Nat) := []
  retired : List Nat := []
  dirty : List Nat := []
  spareUsed : Nat := 0
  panelShown : List Nat := []
  panelSeq : Nat := 0
  panelCount : Nat := 0
  heldMatch : Option (Int × Int) := none
  unbank : List Nat := []
  deriving DecidableEq, Repr

/-- What a NAND program in progress writes: a journal record, or a page of an operation's data. -/
inductive Prog where
  | journal (r : JRec) (slot : Option Nat)
  | page (slot : Nat)
  deriving DecidableEq, Repr

/-- A counted change (R506): setting, cell, count, session, key, request, the operation slot, if an operation asked for
it, and whether its INTENT is written. -/
structure BurnS where
  setting : Nat
  cell : Nat
  count : Nat
  session : Nat
  keyId : Nat
  request : List Nat
  slot : Option Nat
  intent : Bool := false
  deriving DecidableEq, Repr

/-- A NAND erase that waits or runs (R497): the physical block, its logical block if an operation's content is to go
there, REGION, and the operation slot it works for. -/
structure EraseJ where
  phys : Nat
  logical : Option Nat := none
  region : Nat := 0
  slot : Option Nat := none
  deriving DecidableEq, Repr

/-- A panel refresh that waits or runs (R513): SEQ, KIND 0 partial, 1 full, 2 clearing, and what asked for it: 0 automatic,
1 an operation, 2 SHUTDOWN, 3 RESTART, 4 the start-up clearing. -/
structure DriveJ where
  seq : Nat := 0
  kind : Nat
  purpose : Nat
  slot : Option Nat := none
  deriving DecidableEq, Repr

/-- The store's and panel's work in progress, lost with power (R490 to R519). `text` is the host text last copied,
`restart` a RESTART accepted. -/
structure NvsS where
  progs : List Prog := []
  erasing : List EraseJ := []
  eraseWait : List EraseJ := []
  burn : Option BurnS := none
  burnWait : List BurnS := []
  drive : Option DriveJ := none
  driveWait : List DriveJ := []
  shown : List Nat := []
  stale : Bool := false
  afterClear : Bool := false
  lastKind : Nat := 0
  text : List Nat := List.replicate 20 0
  lastAuto : Option Nat := none
  logWait : List LogEnt := []
  restart : Bool := false
  deriving DecidableEq, Repr

/-- An entry of the active table (R520 to R523). -/
structure AlmEnt where
  code : Nat
  inst : Nat
  count : Nat
  first : Nat
  last : Nat
  esc : Bool := false
  deriving DecidableEq, Repr

/-- The fault block (R520 to R530): the active table, newest first; causes that hold though the table does not
hold them; the history that escalation counts. -/
structure AlmS where
  active : List AlmEnt := []
  unheld : List (Nat × Nat) := []
  dllTimes : List Nat := []
  dllSince : Nat := 0
  heatSince : Option Nat := none
  coreSince : Option Nat := none
  escDll : Bool := false
  escHeat : Bool := false
  escCore : Bool := false
  deriving DecidableEq, Repr

/-- A pending custodian token (R477, R478). -/
structure Token where
  setting : Nat
  keyId : Nat
  count : Nat
  request : List Nat
  deriving DecidableEq, Repr

/-- A TMP session (R472 to R478): role 0 operator, 1 pending custodian, 2 custodian; `last` the instant of its newest request,
`seq` and `held` LAST and its reply (R472); the instant and SEQ of its OPEN. -/
structure Sess where
  no : Nat
  ip : Nat
  port : Nat
  role : Nat
  nonce : List Nat
  last : Nat
  seq : Nat
  held : List Nat := []
  opened : Nat
  openSeq : Nat
  token : Option Token := none
  deriving DecidableEq, Repr

/-- A TMP WRITE whose burn has not ended (R471): the request, the registers written, and the requests of its session that came
after it, each with its OP. -/
structure TmpWait where
  q : TmpReq
  done : Nat
  queue : List (Nat × TmpReq) := []
  deriving DecidableEq, Repr

/-- The management port and TMP (R464 to R478): the sessions, the session numbers used since power-up, the lease (address, seconds,
instant), the instant the link came up, that of the newest message of the DHCP client, the echo replies of the last second, the
address settings of this start-up. -/
structure TmpS where
  sessions : List Sess := []
  used : List Nat := []
  waits : List TmpWait := []
  lease : Option (Nat × Nat × Nat) := none
  linkAt : Option Nat := none
  asked : Option Nat := none
  echoes : List Nat := []
  bootCfg : List (Nat × Nat) := []
  deriving DecidableEq, Repr

/-- An operation slot behind its OP registers (R481 to R487): the decided outcome not yet final, the commit step
begun, work to do (blocks to erase, pages to program of a total from a first block), what the operation keeps for itself, its bound
in phases where PROGRESS is elapsed time (R483), and whether an abort was accepted and lost (R485). -/
structure OpX where
  outcome : Option Nat := none
  commit : Bool := false
  order : Nat := 0
  sess : Nat := 0
  todo : List Nat := []
  pages : Nat := 0
  first : Nat := 0
  total : Nat := 0
  aux : List Nat := []
  key : Nat := 0
  bound : Nat := 0
  late : Bool := false
  begun : Bool := false
  deriving DecidableEq, Repr

/-- The operation slots (R481). -/
structure OpsS where
  slots : List OpX := List.replicate 8 {}
  count : Nat := 0
  deriving DecidableEq, Repr

/-- The power unit and the ladder (R130 to R152). -/
structure PwrS where
  ac : Bool := false
  dc : Bool := false
  acAt : Nat := 0
  dcAt : Nat := 0
  acUsed : Bool := false
  unit : Bool := true
  lostAt : Option Nat := none
  stepTo : Option Nat := none
  runEnd : Option Nat := none
  deferred : Bool := false
  dramLost : Bool := false
  ascentAt : Option (Nat × Nat) := none
  heldOff : Bool := false
  fell : Bool := false
  /-- The instant outside, which goes on while REFTICK stands in Black (R140, R145). -/
  real : Nat := 0
  /-- When the warning rose (R135). -/
  pfwAt : Nat := 0
  /-- A full start-up on the way back from Slate or Black (R139, R149): when White was requested, and from which state. -/
  rebuild : Option (Nat × Nat) := none
  /-- Faults whose cause arose in Slate or Black, raised when the warden resumes (R525). -/
  asleep : List (Nat × Nat) := []
  deriving DecidableEq, Repr

/-- A set of exposure settings. -/
structure Settings where
  prog : Nat
  int : Nat
  period : Nat
  gains : Nat
  bias : List (Nat × Nat)
  minper : Nat
  nomper : Nat
  deriving DecidableEq, Repr

/-- An interleave set of R187, as integers in its formats. -/
structure IlvSet where
  ofs : Int := 0
  g : Int := 0
  k : Int := 0
  deriving DecidableEq, Repr

/-- From a row on, who takes a lane's samples (32 is VCS), with which interleave set and spare match (R189,
R191). The match is 0 where VCn takes its own lane. -/
structure LaneSeg where
  row : Nat := 0
  fe : Nat := 0
  set : IlvSet := {}
  mofs : Int := 0
  mg : Int := 0
  deriving DecidableEq, Repr

/-- A pixel of a frame with a value: its raw code (R190), and later what a station makes of it. -/
structure Pix where
  tile : Nat
  row : Nat
  col : Nat
  v : Int
  deriving DecidableEq, Repr

/-- What a boundary fixes of the output of its frame or line beside the settings, the generation and the tier (R159, R220): the
pedestal, the gap setting and value, and the placement of each position as its register words X, Y, FLIP_X and FLIP_Y. -/
structure OutSet where
  ped : Nat := 8192
  gapFill : Nat := 0
  gapValue : Nat := 0
  geom : List (List Nat) := []
  deriving DecidableEq, Repr

/-- A frame, or a raw line of a sweep, from its boundary to its completion (R17, R21, R48). Instants in phases.
`flags` are the header flags of R449 gathered so far; `lanes` who carries each lane; `raw` its raw codes;
`temps` t and its clamp for each tile, `ft` the tile temperatures in 1/128 K, `set` the coefficient sets in force (R220);
`vset` the interleave set of VCS (R191), `avg` the paddle sensors where a closure averages the frame (R253). `heldAfter`: the
timing island entered holdover between the line's last sample and the next boundary (R44). -/
structure FrameRec where
  no : Nat := 0
  line : Bool := false
  boundary : Nat := 0
  readStart : Option Nat := none
  lastSample : Option Nat := none
  drop : Drop := .kept
  tier : Nat := 0
  predicted : Bool := false
  cest : Nat × Nat := (0, 1)
  flags : Nat := 0
  format : Nat := 0
  epoch : Nat := 0
  gen : Nat := 0
  prog : Nat := 0
  int : Nat := 0
  period : Nat := 0
  gains : List Nat := []
  secs : Nat := 0
  ns : Nat := 0
  prevGap : Nat := 0
  temps : List (Nat × Int × Bool) := []
  ft : List (Nat × Nat) := []
  set : List (Nat × TileSet) := []
  avg : Option (Nat × Nat) := none
  admitted : Bool := false
  live : Bool := true
  index : Int := 0
  run : Nat := 0
  reset : Bool := false
  held : Bool := false
  heldAfter : Bool := false
  out : OutSet := {}
  vset : IlvSet := {}
  lanes : List (List LaneSeg) := []
  raw : List Pix := []
  deriving DecidableEq, Repr

/-- The pattern generator and the exposure epochs (R161 to R179), behind the FPL registers. `bias` the biases of the set in
force, 0 the nominal value (R169); `idleAt` the instant at which the idle program's expose track began its present pass (R167);
`frozen` the levels at which the phases stopped (R47); `readGains` the gains of the newest read track (R179). -/
structure FplS where
  frames : List FrameRec := []
  pending : Option Settings := none
  commitAt : Nat := 0
  lastB : Option Nat := none
  lastSet : Option Settings := none
  idle : Bool := false
  idleAt : Nat := 0
  frozen : Option Nat := none
  bias : List (Nat × Nat) := List.replicate 8 (0, 0)
  readGains : Nat := 0
  sensor : List Nat := List.replicate 8 0
  madeDrop : Bool := false
  deriving DecidableEq, Repr

/-- The sums of one estimation window (R192): sample count and the sums that the least-squares system needs. -/
structure IlvSums where
  n : Nat := 0
  m : Int := 0
  d : Int := 0
  e : Int := 0
  mm : Int := 0
  dd : Int := 0
  md : Int := 0
  em : Int := 0
  ed : Int := 0
  ee : Int := 0
  deriving DecidableEq, Repr

/-- An interleave solve in flight (R193, R375): its front-end, the window's sums, when the window closed, the tier it
took, and whether it has been counted late. -/
structure IlvSolve where
  fe : Nat
  sums : IlvSums
  since : Nat
  tier : Nat
  late : Bool := false
  deriving DecidableEq, Repr

/-- The sums of a match fit or comparison (R204). -/
structure FitSums where
  n : Nat := 0
  u : Int := 0
  v : Int := 0
  uu : Int := 0
  vv : Int := 0
  uv : Int := 0
  deriving DecidableEq, Repr

/-- The front-ends, the estimation and the rotating spare (R180 to R213), behind the VFE registers. `trims` lists
the front-ends whose trims are no longer the factory ones: for each gain code and converter an (offset, gain)
pair, offsets in 1/16 code at ×1, gains in 2^-20. `slotAt` the instant of the next slot (R198); `busy` a shutter cycle from its closing
command to the first live frame, `cycleEnd` the instant of that frame's boundary (R212); `since` the instant at which VCS was
connected; of the shadow in progress `fit` and `lines` what the read tracks that have ended gave it, `shadowFrom` the instant from
which a line boundary begins a line of it, `shadowB` the least boundary of a frame that counts; `served` the last front-end of the
rotation served since `rotStart`. -/
structure VfeS where
  next : List (Nat × IlvSet) := []
  window : List (Nat × IlvSums) := []
  solving : List IlvSolve := []
  trims : List (Nat × List (Int × Int)) := []
  prev : Option (List (Int × Int) × IlvSet) := none
  failed : Bool := false
  fails : List Nat := []
  started : Bool := false
  waiting : Bool := false
  postponed : Bool := false
  mofs : Int := 0
  mg : Int := 0
  rotStart : Option Nat := none
  served : Bool := false
  rematch : Bool := false
  slotAt : Nat := 0
  busy : Bool := false
  cycleEnd : Nat := 0
  since : Nat := 0
  fit : FitSums := {}
  lines : Nat := 0
  shadowFrom : Nat := 0
  shadowB : Nat := 0
  deriving DecidableEq, Repr

/-- Station 5 and the statistics (R214 to R240), behind the COR registers: pixels made bad by an uncorrectable
coefficient (generation, tile, row, column; R235), the newest frame delivered without SHUTTER_HOLD, the delivered format of the
previous frame, and the generation whose orphans COR_EVENTS has shown. -/
structure CorS where
  ecc : List (Nat × Nat × Nat × Nat) := []
  live : Option LiveFrame := none
  format : Option Nat := none
  orphanGen : Option Nat := none
  deriving DecidableEq, Repr

/-- A calibration generation (R241): number, source of R243, and the set of each position. -/
structure GenSet where
  no : Nat := 0
  source : Nat := 0
  tiles : List (Nat × TileSet) := []
  deriving DecidableEq, Repr

/-- The frames that a closure, a reference strip or a characterisation point averages: per tile and pixel the count,
sum and sum of squares of the raw codes; per frame t of each tile (tile, t), the tile temperatures (tile, 1/128 K)
and the paddle sensors. -/
structure AvgS where
  want : Nat := 0
  taken : Nat := 0
  done : Nat := 0
  gain : List (Nat × Nat) := []
  px : List (Nat × Nat × Nat × Nat × Nat) := []
  ts : List (List (Nat × Int)) := []
  temps : List (List (Nat × Nat)) := []
  paddle : List (Nat × Nat) := []
  unsettled : Bool := false
  deriving DecidableEq, Repr

/-- A drift history entry (R264): seconds, gain code, FT in 1/64 K, t of the event (for each band of a line tile), TB, and per
pixel a binary32 word: the mean raw code, or q for a two-point entry. -/
structure HistEnt where
  time : Nat := 0
  gain : Nat := 0
  ft : Nat := 0
  t : List Int := []
  tb : Nat := 0
  px : List (Nat × Nat) := []
  deriving DecidableEq, Repr

/-- A characterisation point (R271): TBB, and per tile FT, gain code and the mean raw codes as exact fractions. -/
structure CharPt where
  tbb : Nat := 0
  tiles : List (Nat × Nat × Nat) := []
  px : List (Nat × Nat × Int × Nat) := []
  deriving DecidableEq, Repr

/-- A characterisation in progress (R270 to R276): tile mask, DRIFT, operation slot, its points, the entries that
its fit made, and TBB, the instant and the timeout of the point being taken. -/
structure CharS where
  mask : Nat := 0
  drift : Bool := false
  slot : Nat := 0
  points : List CharPt := []
  made : List (Nat × TileSet) := []
  tbb : Nat := 0
  goAt : Nat := 0
  timeout : Nat := 0
  deriving DecidableEq, Repr

/-- Calibration in service (R241 to R277), behind the CAL registers. `kind` of the cycle in progress: 0 forced,
1 periodic, 2 host; `part` 0 one-point, 1 the ambient closure, 2 heating, 3 the hot closure of a two-point cycle; `stepAt` the
instant of the cycle's newest step: a command or its confirmation, the start of heating, or the end of the integration of the
newest averaged frame (R253, R255, R259); `refitTier` the tier at the start of the refit (R365). -/
structure CalS where
  force : GenSet := {}
  newest : GenSet := {}
  base : List (Nat × TileSet) := []
  fresh : List Nat := []
  due : Option Nat := none
  dueTwo : Bool := false
  kind : Nat := 0
  part : Nat := 0
  closeFails : Nat := 0
  blocked : Bool := false
  retryAt : Option Nat := none
  openAt : Option Nat := none
  stepAt : Nat := 0
  periodic : Nat := 0
  update : Bool := false
  heating : Bool := false
  hot : Bool := false
  heatTarget : Nat := 0
  avg : AvgS := {}
  ambient : List (Nat × Nat × Int × Nat) := []
  ambientTb : Nat := 0
  ambientT : List (Nat × Int) := []
  ambientGain : List (Nat × Nat) := []
  ambientSet : List (Nat × TileSet) := []
  badRun : List (Nat × Nat × Nat) := []
  hist : List (Nat × List HistEnt) := []
  hist2 : List (Nat × List HistEnt) := []
  refits : List Nat := []
  refit : Option (Nat × Nat × Nat) := none
  refitTier : Nat := 0
  char : Option CharS := none
  bankJob : Option (Nat × Nat) := none
  deriving DecidableEq, Repr

/-- An output line at station 6 that waits for its completion: object line index, the record of its band-0 raw line, the last
sample of its band-3 raw line, its pixels, and what they came to at station 5. -/
structure OutLine where
  j : Nat
  recd : FrameRec
  last : Nat
  px : List OutPix := []
  counts : List TileCounts := []
  deriving DecidableEq, Repr

/-- What a scan has counted for its record (R323). -/
structure ScanS where
  no : Nat := 0
  origin : Int := 0
  cpl : Nat := 0
  emitted : Nat := 0
  first : Option Nat := none
  last : Option Nat := none
  skipped : Nat := 0
  reversals : Nat := 0
  trouble : Bool := false
  stripOk : Bool := false
  darkOk : Nat := 0
  brightOk : Nat := 0
  darkLines : Nat := 0
  brightLines : Nat := 0
  tdk : Nat := 0
  tbr : Nat := 0
  gen : Nat := 0
  /-- EDGE: the object column counts of the last emitted line and its index; leading edges by segment with CLIPPED;
  the recorded side edges; TRAIL. -/
  prev : Option (Nat × List Nat) := none
  lead : List (Nat × Nat × Bool) := []
  sides : List (Nat × Option Nat × Option Nat) := []
  trail : Option Nat := none
  deriving DecidableEq, Repr

/-- Sweep acquisition, reference strips and edges (R278 to R324), behind the SWP registers. -/
structure SwpS where
  ext : Int := 0
  recent : List (Nat × Bool) := []
  run : Bool := false
  runNo : Nat := 0
  top : Option Nat := none
  bottom : Option Nat := none
  /-- The last forward index requested in the scan (R286). -/
  lastFwd : Option Nat := none
  /-- Instants of the last accepted change of A, B and I (R279), and of the last loss of signal (R282). -/
  aAt : Option Nat := none
  bAt : Option Nat := none
  iAt : Option Nat := none
  lossAt : Option Nat := none
  /-- The origin source that ARM fixed, and the origin of START_SRC 0 (R291). -/
  armSrc : Nat := 0
  armO : Int := 0
  reqs : List (Nat × Nat × Bool) := []
  lastTaken : Option Nat := none
  startAt : Option (Int × Nat) := none
  hostEnd : Option Nat := none
  endDue : Option Nat := none
  rows : List FrameRec := []
  outq : List OutLine := []
  high : Option Nat := none
  dropped : List Nat := []
  seen : List Nat := []
  dark : AvgS := {}
  bright : AvgS := {}
  /-- The generation that the strip update in computation starts from (R307, R308). -/
  startGen : GenSet := {}
  computeDue : Bool := false
  computed : Bool := false
  keptDark : AvgS := {}
  keptBright : AvgS := {}
  keptD : List (Nat × List Nat) := []
  keptW : List (Nat × List Nat) := []
  means : List (Nat × Nat × Nat) := []
  drivenAt : Option Nat := none
  /-- READY was reached, or its 300 s have been judged, since the heaters were first driven (R305). -/
  heatJudged : Bool := false
  offDk : Bool := false
  offBr : Bool := false
  /-- The instant of the overcurrent that turned the dark and the bright strip's heater off (R544). -/
  dkOffAt : Nat := 0
  brOffAt : Nat := 0
  scan : ScanS := {}
  fitDue : Option (Nat × Option ScanS) := none
  recDue : Option (List Nat) := none
  bin : Option (Nat × List OutLine) := none
  deriving DecidableEq, Repr

/-- A host batch accepted and not ended (R363 to R367): its slot, descriptor offset, acceptance, deadline edge, the tier it
took when it started, ORDER, NNZ_A and NNZ_L of its schedule at acceptance, the systems ended, and how many of them
ended OK, ended by a failure, were cut, and which cuts came. -/
structure SolBatch where
  slot : Nat := 0
  off : Nat := 0
  dl : Option Nat := none
  tier : Option Nat := none
  shape : Nat × Nat × Nat := (0, 0, 0)
  ended : List Nat := []
  ok : Nat := 0
  bad : Nat := 0
  cutN : Nat := 0
  hit : Bool := false
  deriving DecidableEq, Repr

/-- The solver window (R347) and the host batches in order of acceptance (R363), behind the SOL registers. -/
structure SolS where
  win : Mem := []
  batches : List SolBatch := []
  deriving DecidableEq, Repr

/-- A master that announces in the domain (R400): its newest Announce, when it came. -/
structure PtpMaster where
  msg : PtpMsg
  at_ : Nat
  deriving DecidableEq, Repr

/-- A trigger output's settings in force (R389): source, inversion, delay, width. -/
structure ToutSet where
  src : Nat := 0
  inv : Nat := 0
  delay : Nat := 0
  width : Nat := 160
  deriving DecidableEq, Repr

/-- The filters, the time counter T, the servo and the trigger pins (R376 to R402), behind the FIL registers. T is `tBase`
(units of 2^-32 ns) at REFTICK `tAt`, and gains INC at every REFTICK after it. `hist` is the history of TEMPAVG, newest
first, with the flags of its inputs; `resets` the least boundary instants of resets that wait (R382, R384); `fsync` an
FSYNC edge whose boundary waits (R385, R386); `stepMade` a step of T made for the boundary that is due (R394). -/
structure FilS where
  tBase : Int := 0
  tAt : Nat := 0
  rate : Int := 0
  hist : List (List OutPix × Nat) := []
  lastTier : Nat := 0
  resets : List Nat := []
  fsync : Option Nat := none
  good : Nat := 0
  stepDue : Option Int := none
  stepMade : Bool := false
  setDue : Bool := false
  holdSince : Option Nat := none
  ptpOfs : Option Int := none
  masters : List PtpMaster := []
  master : Option Nat := none
  lastSync : Option (Nat × Int) := none
  sync : Option (Nat × Int × Int) := none
  pair : Option (Int × Int × Int) := none
  delaySeq : Nat := 0
  delayReq : Option (Nat × Int) := none
  ppsUsed : Option Nat := none
  ppsBad : Nat := 0
  ppsAny : Bool := false
  tout : List ToutSet := List.replicate 2 {}
  tins : List (Nat × Nat) := List.replicate 2 (0, 0)
  deriving DecidableEq, Repr

/-- A sequence of the monitor converter (R406, R417): words W0 and W1 of its regular and injected entries, INJ_TRIG,
PERIOD. -/
structure MonSeq where
  reg : List (Nat × Nat) := []
  inj : List (Nat × Nat) := []
  trig : Nat := 0
  period : Nat := 0
  deriving DecidableEq, Repr

/-- The monitor converter (R403 to R428), behind the MON registers. Ticks are REFTICK counts. `fail` the failed inputs
and `good` the consecutive good samples of each input; `failAt` the tick of its last failed sample (R427); `rot` the
rotation of each regular entry; `cycling` a regular cycle in progress, with the tick `entryAt` at which its entry's first
conversion began; `due` the tick of the next cycle, `ended` that from which one may start
and `lastEnd` that of the end of the last; `calAt` the start of the newest self-calibration; `inj` the source of the injected
sequence that runs, the entry it is at and the start of that entry; `hi` and `lo` the alarm runs; `vBad` and `vGood` the
runs of R426; `dieHot` whether the preceding DIE value lay above 110 °C, `dieTop` whether the newest reached 120 °C, `dieCool` the run of values at or below 105 °C. -/
structure MonS where
  fail : List Nat := []
  good : List Nat := List.replicate 24 0
  failAt : List (Nat × Nat) := []
  act : MonSeq := {}
  pendSeq : Option MonSeq := none
  rot : List Nat := List.replicate 16 0
  cycles : Nat := 0
  cycling : Bool := false
  entryAt : Nat := 0
  due : Nat := 0
  ended : Nat := 0
  lastEnd : Nat := 0
  calAt : Nat := 0
  inj : Option (Nat × Nat × Nat) := none
  heldTrig : Option Nat := none
  hi : List Nat := List.replicate 24 0
  lo : List Nat := List.replicate 24 0
  vBad : Nat := 0
  vGood : Nat := 0
  vAt : Nat := 0
  dieHot : Option Bool := none
  dieTop : Bool := false
  dieCool : Nat := 0
  deriving DecidableEq, Repr

/-- A region of an entry (R437, R450). -/
structure Region where
  chan : Nat
  band : Nat := 0
  tiles : Nat
  x0 : Nat
  y0 : Nat := 0
  w : Nat
  h : Nat
  off : Nat := 0
  deriving DecidableEq, Repr

/-- An entry of the burst buffer (R439, R440): frame number, KIND, pages reserved, whether it belongs to a capture,
whether it is complete; once complete its frame header, regions with the values of their pixels, statistics blocks by
tile, bytes per pixel, or the scan record; and the channels whose share is not finished. -/
structure Entry where
  no : Nat
  kind : Nat := 0
  pages : Nat := 1
  captured : Bool := false
  complete : Bool := false
  head : List Nat := []
  regions : List Region := []
  pix : List (List Nat) := []
  stats : List (Nat × List Nat) := []
  bpp : Nat := 0
  record : List Nat := []
  shares : List Nat := []
  deriving DecidableEq, Repr

/-- A data port (R429 to R434, R461): the pause in force, the instant it began, the time paused before it and the time cleared away; the channel
last served; when the line is free; the runs of R431; the ARP table (address, MAC, instant); instants of echo replies. -/
structure PortS where
  pauseTo : Option Nat := none
  pauseFrom : Option Nat := none
  pauseAcc : Nat := 0
  pauseOff : Nat := 0
  last : Nat := 3
  busyTo : Nat := 0
  fecBad : Nat := 0
  fecGood : Nat := 0
  arp : List (Nat × Nat × Nat) := []
  echoes : List Nat := []
  deriving DecidableEq, Repr

/-- A channel behind its PRT_CH registers: the entry it sends and its next record; RESEND; when its last record went
(R452); ARP requests unanswered, the last one, the failure (R433); of a queue pair the PSN of the entry's first packet, the
next packet, the packets sent and acknowledged, the attempts without progress, the start of the ACK timer (R459), and Rc, Rt
in Mb/s, α in 2^-16, k, the last reduction, the starts of both timers, the pacing (R460). -/
structure ChanS where
  cur : Option Nat := none
  idx : Nat := 0
  resend : Bool := false
  lastSent : Nat := 0
  arpTries : Nat := 0
  arpAt : Option Nat := none
  arpFailed : Bool := false
  psn0 : Nat := 0
  pkt : Nat := 0
  sent : Nat := 0
  acked : Nat := 0
  attempts : Nat := 0
  timerAt : Option Nat := none
  rc : Nat × Nat := (100000, 1)
  rt : Nat × Nat := (100000, 1)
  alpha : Nat := 65536
  k : Nat := 0
  cutAt : Option Nat := none
  alphaAt : Nat := 0
  rateAt : Nat := 0
  paceTo : Nat := 0
  deriving DecidableEq, Repr

/-- The burst buffer and the data ports (R429 to R463), behind the PRT registers: the entries held, oldest first; the frame
number of the newest one admitted; the numbers not admitted since (R441); an overrun since the last admission; the instant
of the ARM and a STOP that waits for its boundary (R443). -/
structure PrtS where
  entries : List Entry := []
  newest : Nat := 0
  gap : Nat := 0
  overrun : Bool := false
  armAt : Nat := 0
  stopDue : Bool := false
  ports : List PortS := List.replicate 4 {}
  chans : List ChanS := List.replicate 16 {}
  deriving DecidableEq, Repr

/-- The state of the module. `now` is the timing island's count in phases (16 to a REFTICK, R19, R48) since
reset release; `free` counts the free values taken; `pending` is the model's queue of waiting commands. -/
structure State where
  now : Nat := 0
  regs : RegFile := []
  sys : SysS := {}
  gov : GovS := {}
  img : ImgS := {}
  bring : BringS := {}
  pwr : PwrS := {}
  fpl : FplS := {}
  vfe : VfeS := {}
  cor : CorS := {}
  cal : CalS := {}
  swp : SwpS := {}
  sol : SolS := {}
  fil : FilS := {}
  mon : MonS := {}
  prt : PrtS := {}
  tmp : TmpS := {}
  ops : OpsS := {}
  nv : NvS := {}
  nvs : NvsS := {}
  alm : AlmS := {}
  out : List Output := []
  free : Nat := 0
  pending : List Instr := []
  deriving DecidableEq, Repr

/-- The module right after reset release: every register at the reset value of its table (R15), the store, the
histories and the queue empty. -/
def State.reset : State := {}

end Sys2Proof.Machine
end

