-- ==== Sys2Proof/Machine/Ops.lean ====
section
/-!
DEFINITION. The shared operations: reading and writing a field, time, the summary words of R479, raising and
clearing a fault (R520 to R525), the journal (R493) and the event log (R519).
-/
namespace Sys2Proof.Machine

/-! ### Register fields -/


/-- Bits of `m` cleared in `v`. -/
def clearBits (v m : Nat) : Nat := v &&& (v ^^^ m)

/-- The value of a field. -/
def State.get (s : State) (f : Fld) : Nat := s.regs.get f

/-- A field set (to its low bits). -/
def State.set (s : State) (f : Fld) (v : Nat) : State := { s with regs := s.regs.set f v }

/-- A field as a two's complement number. -/
def State.geti (s : State) (f : Fld) : Int := signed f.width (s.get f)

/-- A field set to a two's complement number. -/
def State.seti (s : State) (f : Fld) (v : Int) : State := s.set f (unsigned f.width v)

/-- A one-bit field is 1. -/
def State.on (s : State) (f : Fld) : Bool := s.get f == 1

/-- A one-bit field set from a truth value. -/
def State.setb (s : State) (f : Fld) (b : Bool) : State := s.set f (b2n b)

/-- A count raised by `n`, wrapping at its width. -/
def State.add (s : State) (f : Fld) (n : Nat) : State := s.set f (s.get f + n)

/-- A count raised by one, wrapping at its width. -/
def State.inc (s : State) (f : Fld) : State := s.add f 1

/-- A count raised by one, saturating at its width. -/
def State.incSat (s : State) (f : Fld) : State := s.set f (min (s.get f + 1) (2 ^ f.width - 1))

/-- Several fields set to one value. -/
def State.setAll (s : State) (fs : List Fld) (v : Nat) : State := fs.foldl (fun s f => s.set f v) s

/-- A 64-bit quantity in a low and a high register. -/
def State.set64 (s : State) (lo hi : Fld) (v : Nat) : State := (s.set lo v).set hi (v / 2 ^ 32)

/-- The 64-bit quantity of a low and a high register. -/
def State.get64 (s : State) (lo hi : Fld) : Nat := s.get lo + 2 ^ 32 * s.get hi

/-! ### Time (R19, R48) -/

/-- The instant of a command reached; time never runs back. In Black the timing island is off, and REFTICK stands (R140, R145). -/
def State.at (s : State) (t : Nat) : State :=
  { s with now := if s.get PWR_STATUS.STATE = 5 then s.now else max s.now t, pwr.real := max s.pwr.real t }

/-- The instant outside, as the power unit knows it: in Black it goes on while REFTICK stands. -/
def State.wall (s : State) : Nat := max s.now s.pwr.real

/-- The warden is off: Slate and Black (R140). -/
def State.asleep (s : State) : Bool := decide (4 ≤ s.get PWR_STATUS.STATE)

/-- The REFTICK count (R48). -/
def State.tick (s : State) : Nat := s.now / 16

/-- Milliseconds since reset release. -/
def State.ms (s : State) : Nat := s.now / 160000

/-- Seconds since reset release. -/
def State.secs (s : State) : Nat := s.now / 160000000

/-- Phases in a microsecond, a millisecond and a second. -/
def us : Nat := 160
def msec : Nat := 160000
def sec : Nat := 160000000

/-- INC of R390, in units of 2^-32 ns: 100 ns and the rate correction in 0.001 ppm. -/
def timeInc (rate : Int) : Int := 100 * 2 ^ 32 + rate * (100 * 2 ^ 32) / 10 ^ 9

/-- T (R390) at an instant, in units of 2^-32 ns. -/
def State.timeAt (s : State) (t : Nat) : Int :=
  s.fil.tBase + ((t / 16 : Nat) - (s.fil.tAt : Int)) * timeInc s.fil.rate + (t % 16 : Nat) * (25 * 2 ^ 30)

/-- Whole nanoseconds of T at an instant. -/
def State.nsAt (s : State) (t : Nat) : Int := s.timeAt t / 2 ^ 32

/-- T at an instant as 48-bit seconds and nanoseconds (R390, R391). -/
def State.stamp (s : State) (t : Nat) : Nat × Nat :=
  let ns := s.nsAt t
  ((ns / 10 ^ 9 % 2 ^ 48).toNat, (ns % 10 ^ 9).toNat)

/-- Something leaves the module. -/
def State.emit (s : State) (o : Output) : State := { s with out := o :: s.out }

/-! ### Status (R479, R530) -/

/-- A slot is QUEUED or RUNNING. -/
def State.opBusy (s : State) : Bool :=
  (List.range 8).any fun k => s.get (OP_STATUS.STATE k) == 1 || s.get (OP_STATUS.STATE k) == 2

/-- A slot is live: QUEUED or RUNNING. -/
def State.slotLive (s : State) (k : Nat) : Bool :=
  s.get (OP_STATUS.STATE k) == 1 || s.get (OP_STATUS.STATE k) == 2

/-- The cause of QUARANTINE that ENG_STATUS.QUAR reports, in the order of R530. -/
def State.quar (s : State) : Nat :=
  if s.sys.mode ≠ .quarantine then 0
  else if s.img.active.isNone || s.sys.recovery then 3
  else if s.get ENG_COMPAT.OUTCOME = 2 then 2
  else if s.sys.escalated then 4
  else if s.get ENG_COMPAT.OUTCOME = 1 then 1 else 0

/-- A shutter cycle or a strip pass is in progress (CALSTATE bit 14). -/
def State.calBusy (s : State) : Bool := s.get CAL_STATUS.CYCLE ≠ 0 || s.get SWP_REF_STATUS.PASS ≠ 0

/-- ENG_STATUS (R479). -/
def State.engStatus (s : State) : Nat :=
  s.sys.mode.code + 8 * b2n s.sys.run + 16 * b2n s.sys.changing + 32 * s.get PWR_STATUS.STATE
    + 2 ^ 8 * s.get GOV_STATE.TIER
    + 2 ^ 12 * (b2n (s.get CAL_STATUS.UNCAL_MASK ≠ 0) + 2 * b2n (s.get CAL_STATUS.FACT_DRIFT_MASK ≠ 0)
        + 4 * b2n s.calBusy)
    + 2 ^ 16 * s.quar + 2 ^ 20 * b2n s.opBusy + 2 ^ 24 * min 63 s.alm.active.length

/-- READY: STARE or SWEEP outside RUN (R28). -/
def State.ready (s : State) : Bool := (s.sys.mode == .stare || s.sys.mode == .sweep) && !s.sys.run

/-- STARE or SWEEP, READY or RUN. -/
def State.imaging (s : State) : Bool := s.sys.mode == .stare || s.sys.mode == .sweep

/-- The power-fail warning is active (R134). -/
def State.pfw (s : State) : Bool := s.on PWR_STATUS.PFW

/-! ### The journal (R493 to R496) -/

/-- The newest of a journal's records, those that R504 leaves out apart, is SHUTDOWN. -/
def shutOk (j : List JRec) : Bool :=
  match j.find? (fun r => r.ok && r.type ≠ 0x40 && r.type ≠ 0x41 && (!r.comp || r.type == 0x42) &&
      !(r.type == 0x50 && leVal (r.payload.take 4) == 0x30018)) with
  | some r => r.type == 0x42
  | none => false

/-- The program of a journal record begun: the record gets the next JSEQ and waits for its program to complete;
`slot` names the operation whose commit it carries. -/
def State.journal (s : State) (type : Nat) (payload : List Nat) (slot : Option Nat := none) : State :=
  let r : JRec := ⟨type, payload, s.nv.jseq + 1, s.get NVS_BOOT_COUNT.COUNT, s.ms, true, false⟩
  { s with nv.jseq := s.nv.jseq + 1, nvs.progs := s.nvs.progs ++ [.journal r slot] }

/-- A CONFIG record of a register stored on write (R494). -/
def State.config (s : State) (addr v : Nat) : State := s.journal 0x50 (leBytes 4 addr ++ leBytes 4 v)

/-! ### Faults (R520 to R525) -/

/-- The faults of R526 that clear by Ack alone. -/
def ackFaults : List Nat :=
  [0x0013, 0x0112, 0x0203, 0x0204, 0x0302, 0x0304, 0x0305, 0x0406, 0x0407, 0x0408, 0x0502, 0x0504, 0x0603,
   0x0701, 0x0703, 0x0704, 0x0705, 0x0706, 0x0707, 0x0708, 0x0801, 0x0810, 0x0811, 0x0812, 0x0901, 0x0902,
   0x0A01, 0x0E01, 0x0E03, 0x0E05, 0x0E06, 0x0E07, 0x0E08, 0x0E09, 0x0E0A, 0x0E0B, 0x0E0D, 0x0E0E]

/-- The host may acknowledge a fault (R521): Ack, or Ack or condition. -/
def ackable (code : Nat) : Bool := ackFaults.contains code || code == 0x0201

/-- INST of a fault without an instance (R520). -/
def noInst : Nat := 0xFF

/-- An identity is in the active table. -/
def State.isActive (s : State) (code inst : Nat) : Bool :=
  s.alm.active.any fun e => e.code == code && e.inst == inst

/-- Entries that hold faults other than 0x0F01 and 0x0F02 (R523). -/
def State.held (s : State) : Nat :=
  (s.alm.active.filter fun e => e.code ≠ 0x0F01 && e.code ≠ 0x0F02).length

/-- The entries that DRAM holds while the warning keeps the ring from being erased (R519). -/
def logRoom : Nat := 1024

/-- The next entry of the event log needs a block of the ring erased: the ring of 512 blocks, each of 8,192
entries (R490), has wrapped and the entry opens a block. -/
def logNeedsErase (n : Nat) : Bool := n % 8192 == 0 && decide (512 * 8192 ≤ n)

/-- An event log entry (R519). -/
def State.logEvent (s : State) (code kind inst : Nat) : State :=
  let st := s.stamp s.now
  let e : LogEnt := ⟨code, kind, inst, s.get NVS_BOOT_COUNT.COUNT, s.ms, st.1, st.2, s.engStatus⟩
  if s.pfw && (logNeedsErase s.nv.events.length || s.nvs.logWait ≠ []) then
    if s.nvs.logWait.length < logRoom then { s with nvs.logWait := e :: s.nvs.logWait }
    else s.inc NVS_LOG_LOST.COUNT
  else { s with nv.events := e :: s.nv.events }

/-- A new entry at the head of the active table. -/
def State.hold (s : State) (code inst : Nat) : State :=
  { s with alm.active := ⟨code, inst, 1, s.ms, s.ms, false⟩ :: s.alm.active }

/-- A raise of an identity that is not active: the event log, the count, and a place in the table if there is
one; otherwise 0x0F02 (R521, R523). -/
def State.raiseNew (s : State) (code inst : Nat) : State :=
  let s := ((s.logEvent code 1 inst).inc ALM_RAISE_COUNT.COUNT).set ALM_EVENTS.RAISED 1
  if code = 0x0F01 ∨ code = 0x0F02 ∨ s.held < 62 then s.hold code inst
  else
    let s := (s.inc ALM_OVERFLOW_COUNT.COUNT).set ALM_EVENTS.OVERFLOW 1
    let s := if ackable code then s else { s with alm.unheld := (code, inst) :: s.alm.unheld.erase (code, inst) }
    if s.isActive 0x0F02 noInst then s
    else (((s.logEvent 0x0F02 1 noInst).inc ALM_RAISE_COUNT.COUNT).hold 0x0F02 noInst)

/-- A raise of a fault identity (R521): a repeat counts in its entry; a new one is raised. -/
def State.fault (s : State) (code : Nat) (inst : Nat := noInst) : State :=
  if s.isActive code inst then
    { s.set ALM_EVENTS.RAISED 1 with
      alm.active := s.alm.active.map fun e =>
        if e.code = code ∧ e.inst = inst then { e with count := min (e.count + 1) 0xFFFF, last := s.ms } else e }
  else s.raiseNew code inst

/-- The unheld identities in ascending code and instance (R523). -/
def almInsert (p : Nat × Nat) : List (Nat × Nat) → List (Nat × Nat)
  | [] => [p]
  | q :: l => if p.1 < q.1 ∨ (p.1 = q.1 ∧ p.2 ≤ q.2) then p :: q :: l else q :: almInsert p l

/-- Faults raised afresh while a place is free (R523). -/
def State.restoreUnheld (s : State) : List (Nat × Nat) → State
  | [] => s
  | p :: l =>
    if s.held < 62 then
      State.restoreUnheld
        (((s.logEvent p.1 1 p.2).inc ALM_RAISE_COUNT.COUNT |>.set ALM_EVENTS.RAISED 1 |>.hold p.1 p.2
          |> fun s => { s with alm.unheld := s.alm.unheld.erase p })) l
    else s

/-- An entry leaves the table, and the event log has it. -/
def State.drop1 (s : State) (code inst : Nat) : State :=
  let s := { s with alm.active := s.alm.active.filter fun e => !(e.code == code && e.inst == inst) }
  (s.logEvent code 2 inst).set ALM_EVENTS.CLEARED 1

/-- The places that a clear has freed are filled, and 0x0F02 clears when a place is left (R523). -/
def State.refill (s : State) : State :=
  if s.isActive 0x0F02 noInst then
    let s := s.restoreUnheld (s.alm.unheld.foldr almInsert [])
    if s.held < 62 then s.drop1 0x0F02 noInst else s
  else s

/-- A fault's clearing condition holds, or it is acknowledged (R521). -/
def State.unfault (s : State) (code : Nat) (inst : Nat := noInst) : State :=
  let s := { s with alm.unheld := s.alm.unheld.erase (code, inst) }
  if s.isActive code inst then (s.drop1 code inst).refill else s

/-- A fault whose cause may arise in Slate or Black: it waits there for the warden (R525). -/
def State.faultAwake (s : State) (code : Nat) (inst : Nat := noInst) : State :=
  if s.asleep then { s with pwr.asleep := s.pwr.asleep.erase (code, inst) ++ [(code, inst)] } else s.fault code inst

/-- Such a fault's clearing condition. -/
def State.unfaultAwake (s : State) (code : Nat) (inst : Nat := noInst) : State :=
  { s with pwr.asleep := s.pwr.asleep.erase (code, inst) }.unfault code inst

/-- A fault whose condition is `b`: raised where it holds and is not active, cleared where it does not. -/
def State.level (s : State) (b : Bool) (code : Nat) (inst : Nat := noInst) : State :=
  if b then (if s.isActive code inst || s.alm.unheld.contains (code, inst) then s else s.fault code inst)
  else s.unfault code inst

/-! ### Settling (R128), the warning's waiting log entries (R519) -/

/-- Event log entries that waited for the warning to clear are written (R519). -/
def State.flushLog (s : State) : State :=
  { s with nv.events := s.nvs.logWait ++ s.nv.events, nvs.logWait := [] }

/-! ### Free values -/

/-- The next index of a free value, for `Config`. -/
def State.nextFree (s : State) : State := { s with free := s.free + 1 }

/-! ### The answer of a write -/

/-- What a register write comes to: accepted, or refused with the STATUS and REASON of R469 and R470. -/
inductive WRes where
  | ok
  | refuse (status reason : Nat)
  deriving DecidableEq, Repr

/-- A refused access is the newest refusal (R470). -/
def State.noteRefuse (s : State) (op addr status reason : Nat) : State :=
  (((s.set ENG_LAST_REFUSE.REASON reason).set ENG_LAST_REFUSE.STATUS status).set ENG_LAST_REFUSE.OP op).set
    ENG_LAST_REFUSE_ADDR.ADDR addr

/-- A write of a register that a commit resets, refused during LOAD (R103, R105). -/
def State.loadGuard (s : State) (f : State → State × WRes) : State × WRes :=
  if s.sys.mode = .load then (s, .refuse 1 0x03) else f s

/-- A write by a command of its own: its refusal is recorded as that of a TMP WRITE (R467, R470). -/
def State.wrote (addr : Nat) : State × WRes → State
  | (s, .ok) => s
  | (s, .refuse st r) => s.noteRefuse 5 addr st r

/-- The registers that the recovery loader writes (R502): IMG_STAGE_LEN, IMG_STAGE_CTRL, OPS_EVENTS, NVS_CMD, and of a slot OP_CMD,
OP_ARG0 to OP_ARG3 and OP_CTRL. -/
def loaderAddr (addr : Nat) : Bool :=
  [0x20030, 0x20034, 0xD0004, 0xE0004].contains addr ||
    (decide (0xD0100 ≤ addr) && decide (addr < 0xD0900) && [0x00, 0x04, 0x08, 0x0C, 0x10, 0x18].contains (addr % 0x100))

/-- A write of the host reaches the register: in Slate and Black the wake logic takes PWR_TARGET alone (R151), and the recovery
loader takes its own registers (R502). -/
def State.takes (s : State) (addr : Nat) : Bool := (!s.asleep || addr == 0x30000) && (!s.sys.recovery || loaderAddr addr)

/-- A write of a register by the host: refused by the wake logic with the sleeping error (R151), by the recovery loader with REASON
MODE (R502), or taken. -/
def State.hostWrite (addr : Nat) (f : State → State × WRes) (s : State) : State :=
  if s.takes addr then State.wrote addr (f s)
  else if s.asleep && addr != 0x30000 then s.noteRefuse 5 addr 3 0
  else s.noteRefuse 5 addr 1 0x03

/-- A write that nothing else refuses. -/
def State.hostDo (addr : Nat) (f : State → State) (s : State) : State := s.hostWrite addr fun s => (f s, .ok)

end Sys2Proof.Machine
end

