-- ==== Sys2Proof/Machine/Image.lean ====
section
/-!
DEFINITION. The image container (R68 to R75, R81): the CRC, the body, the header, the manifest and its sections,
read from the bytes of a file.
-/
namespace Sys2Proof.Machine

/-! ### The CRC of R69 -/

/-- One bit of the reflected CRC-32. -/
def crcBit (c : Nat) : Nat := if c % 2 = 1 then (c / 2) ^^^ 0xEDB88320 else c / 2

/-- One byte of the reflected CRC-32. -/
def crcByte (c b : Nat) : Nat :=
  crcBit (crcBit (crcBit (crcBit (crcBit (crcBit (crcBit (crcBit (c ^^^ b))))))))

/-- The CRC-32 of IEEE 802.3 over bytes (R69). -/
def crc32 (bs : List Nat) : Nat := bs.foldl crcByte 0xFFFFFFFF ^^^ 0xFFFFFFFF

/-! ### The container -/

/-- Bytes of a frame of a file, by offset. -/
def frameBytes (f : Mem) (i off n : Nat) : List Nat := f.bytes (1024 * i + off) n

/-- FRAME_NO of frame `i` equals its position (check 1 of R83). -/
def frameNoOk (f : Mem) (i : Nat) : Bool := f.le (1024 * i) 4 == i

/-- FRAME_CRC of frame `i` (check 2 of R83, R68). -/
def frameCrcOk (f : Mem) (i : Nat) : Bool := f.le (1024 * i + 0x3FC) 4 == crc32 (frameBytes f i 0 0x3FC)

/-- File offset of a body byte (R70). -/
def bodyOff (b : Nat) : Nat := 1024 * (b / 1016) + 4 + b % 1016

/-- A byte of the body. -/
def bodyByte (f : Mem) (b : Nat) : Nat := f.byte (bodyOff b)

/-- Bytes of the body. -/
def bodyBytes (f : Mem) (b n : Nat) : List Nat := (List.range n).map fun i => bodyByte f (b + i)

/-- A little-endian value of the body. -/
def bodyLe (f : Mem) (b n : Nat) : Nat := leVal (bodyBytes f b n)

/-! ### Header fields (R71) and declarations (R72) -/

def hdrFrames (f : Mem) : Nat := bodyLe f 0x08 4
def hdrBodyLen (f : Mem) : Nat := bodyLe f 0x0C 4
def hdrImageId (f : Mem) : Nat := bodyLe f 0x10 8
def hdrImageVer (f : Mem) : Nat := bodyLe f 0x18 4
def hdrArb (f : Mem) : Nat := bodyByte f 0x1C
def hdrTileType (f : Mem) : Nat := bodyByte f 0x1D
def hdrTileMask (f : Mem) : Nat := bodyByte f 0x1E
def hdrSections (f : Mem) : Nat := bodyLe f 0x20 2
def hdrFacility (f : Mem) : List Nat := bodyBytes f 0x30 16
def hdrName (f : Mem) : List Nat := bodyBytes f 0x40 32

/-- EPOCH and OLDEST of interface `i` (0 REG, 1 REC, 2 SCHED, 3 CAR) that the image declares (R72). -/
def declOf (f : Mem) (i : Nat) : Nat × Nat := (bodyLe f (0x10A + 8 * i) 2, bodyLe f (0x10C + 8 * i) 2)

/-- All the bytes are 0. -/
def allZero (bs : List Nat) : Bool := bs.all (· == 0)

/-- Check 3 of R83: MAGIC, FORMAT, HEADER_LEN, MANIFEST_OFF, the reserved bytes and BUILD_TIME[63:48]. -/
def headerOk (f : Mem) : Bool :=
  bodyLe f 0 4 == 0x4D494654 && bodyLe f 4 2 == 1 && bodyLe f 6 2 == 0x100 && bodyLe f 0x24 4 == 0x140 &&
  bodyByte f 0x1F == 0 && bodyLe f 0x22 2 == 0 && bodyLe f 0x2E 2 == 0 && allZero (bodyBytes f 0x60 160)

/-- The part of check 4 of R83 after frame 0: FRAMES, BODY_LEN, and the stored or staged length in bytes where
the source gives one (R70, R71). -/
def lengthOk (f : Mem) (len : Option Nat) : Bool :=
  let n := hdrFrames f
  2 ≤ n && n ≤ 65536 && hdrBodyLen f ≤ 1016 * (n - 1) && 1016 * (n - 2) < hdrBodyLen f &&
  match len with
  | some l => l == 1024 * n
  | none => true

/-- The part of check 4 at the last body frame: zero bytes after BODY_LEN. -/
def tailZero (f : Mem) : Bool :=
  allZero (bodyBytes f (hdrBodyLen f) (1016 * (hdrFrames f - 1) - hdrBodyLen f))

/-- The part of check 5 after frame 0. -/
def countOk (f : Mem) : Bool :=
  1 ≤ hdrSections f && hdrSections f ≤ 64 && 320 + 32 * hdrSections f ≤ hdrBodyLen f

/-! ### The manifest (R73 to R75) -/

/-- A manifest entry. -/
structure Section where
  type : Nat
  inst : Nat
  off : Nat
  len : Nat
  crc : Nat
  flags : Nat
  param : Nat
  deriving DecidableEq, Repr

/-- Entry `i` of the manifest (R73). -/
def manifestEntry (f : Mem) (i : Nat) : Section :=
  let b := 320 + 32 * i
  ⟨bodyLe f b 2, bodyLe f (b + 2) 2, bodyLe f (b + 4) 4, bodyLe f (b + 8) 4, bodyLe f (b + 12) 4,
   bodyLe f (b + 16) 4, bodyLe f (b + 20) 8⟩

/-- The manifest. -/
def manifest (f : Mem) : List Section := (List.range (hdrSections f)).map (manifestEntry f)

/-- The section types the module knows (R75). -/
def knownType (t : Nat) : Bool := 1 ≤ t && t ≤ 8

/-- Instances allowed for a known type (R75). -/
def instOk (t i : Nat) : Bool := if t = 3 then i ≤ 15 else if t = 5 then i ≤ 31 else i == 0

/-- The layout of the epoch declaration block (R72). -/
def declOk (f : Mem) : Bool :=
  bodyLe f 0x100 4 == 0x44504554 && bodyLe f 0x104 2 == 4 && bodyLe f 0x106 2 == 0 &&
  ((List.range 4).all fun i => bodyLe f (0x108 + 8 * i) 2 == i + 1 && bodyLe f (0x10E + 8 * i) 2 == 0) &&
  allZero (bodyBytes f 0x128 24)

/-- The layout rules of one manifest entry (R73, R74): inside BODY_LEN after the manifest, no reserved bit. -/
def entryOk (f : Mem) (i : Nat) : Bool :=
  let e := manifestEntry f i
  e.off % 8 == 0 && 1 ≤ e.len && 320 + 32 * hdrSections f ≤ e.off && e.off + e.len ≤ hdrBodyLen f &&
  e.flags / 2 == 0 && bodyLe f (320 + 32 * i + 28) 4 == 0 && (!knownType e.type || (instOk e.type e.inst && e.param == 0))

/-- Two entries neither overlap nor share TYPE and INSTANCE (R74). -/
def apart (a b : Section) : Bool :=
  (a.off + a.len ≤ b.off || b.off + b.len ≤ a.off) && !(a.type == b.type && a.inst == b.inst)

/-- Entry `i` obeys the layout rules: its own, and apart from every entry before it (R73, R74). -/
def entryFits (f : Mem) (i : Nat) : Bool :=
  entryOk f i && (List.range i).all fun j => apart (manifestEntry f j) (manifestEntry f i)

/-- The manifest entry that requires an unknown type, if any (R74). -/
def unknownRequired (f : Mem) : Option Nat :=
  (List.range (hdrSections f)).find? fun i =>
    let e := manifestEntry f i
    !knownType e.type && e.flags % 2 == 1

/-- The required sections of R75 stand in the manifest. -/
def requiredPresent (m : List Section) : Bool :=
  [1, 2, 3, 4, 6, 7].all fun t => m.any fun e => e.type == t && e.inst == 0

/-- The manifest's part of check 5 of R83: 0 or the reason 4 or 6, and the entry. -/
def manifestCheck (f : Mem) : Nat × Nat :=
  if !declOk f then (4, 0x3F)
  else match (List.range (hdrSections f)).find? fun i => !entryFits f i with
    | some i => (4, i)
    | none =>
      match unknownRequired f with
      | some i => (6, i)
      | none => if requiredPresent (manifest f) then (0, 0x3F) else (4, 0x3F)

/-- The frame that holds a body byte (R70). -/
def frameOf (b : Nat) : Nat := b / 1016

/-- SEC_CRC of an entry (check 6 of R83). -/
def sectionCrcOk (f : Mem) (e : Section) : Bool := crc32 (bodyBytes f e.off e.len) == e.crc

/-- The first entry completed by frame `i` whose SEC_CRC fails (check 6 of R83). -/
def sectionCheck (f : Mem) (i : Nat) : Option Nat :=
  (List.range (hdrSections f)).find? fun k =>
    let e := manifestEntry f k
    frameOf (e.off + e.len - 1) == i && !sectionCrcOk f e

/-- The frame in which the manifest is complete. -/
def manifestFrame (f : Mem) : Nat := frameOf (319 + 32 * hdrSections f)

/-- Checks 1 to 6 of R83 that fall due when frame `i` arrives: reason (0 none) and manifest entry (0x3F none). -/
def frameChecks (f : Mem) (len : Option Nat) (i : Nat) : Nat × Nat :=
  if !frameNoOk f i then (2, 0x3F)
  else if !frameCrcOk f i then (1, 0x3F)
  else
    let first : Nat := if i = 0 then (if !headerOk f then 3 else if !lengthOk f len then 14 else 0) else 0
    if first ≠ 0 then (first, 0x3F)
    else if i + 1 = hdrFrames f then (0, 0x3F)
    else if i + 2 = hdrFrames f ∧ !tailZero f then (14, 0x3F)
    else if i = 0 ∧ !countOk f then (4, 0x3F)
    else
      let m := if i = manifestFrame f then manifestCheck f else (0, 0x3F)
      if m.1 ≠ 0 then m
      else match sectionCheck f i with
        | some k => (5, k)
        | none => (0, 0x3F)

/-- Check 7's first part: the layout of the signature block (R81). -/
def sigLayoutOk (f : Mem) (n : Nat) : Bool :=
  let b := 1024 * (n - 1) + 4
  f.le b 4 == 0x47495354 && f.le (b + 6) 2 == 1 && f.le (b + 8) 4 == 1024 * (n - 1) && f.le (b + 12) 4 == 0 &&
  allZero (f.bytes (b + 0x50) (1016 - 0x50))

/-- KEY_ID of the signature block (R81). -/
def sigKey (f : Mem) (n : Nat) : Nat := f.le (1024 * (n - 1) + 8) 2

/-- SIGNATURE of the signature block (R81). -/
def sigBytes (f : Mem) (n : Nat) : List Nat := f.bytes (1024 * (n - 1) + 4 + 0x10) 64

/-- The signed message: the frames before the signature frame, whole (R81). -/
def signedBytes (f : Mem) (n : Nat) : List Nat := f.bytes 0 (1024 * (n - 1))

/-! ### Sections of an image -/

/-- The manifest entry of a type and instance. -/
def findSection (f : Mem) (type inst : Nat) : Option Section :=
  (manifest f).find? fun e => e.type == type && e.inst == inst

/-- A little-endian value inside a section, by offset; 0 where the section is absent. -/
def secLe (f : Mem) (type inst off n : Nat) : Nat :=
  match findSection f type inst with
  | some e => bodyLe f (e.off + off) n
  | none => 0

/-- Bytes of a section, from an offset. -/
def secBytes (f : Mem) (type inst off n : Nat) : List Nat :=
  match findSection f type inst with
  | some e => bodyBytes f (e.off + off) n
  | none => []

/-- The length of a section; 0 where it is absent. -/
def secLen (f : Mem) (type inst : Nat) : Nat := (findSection f type inst).elim 0 (·.len)

/-- A section is present. -/
def hasSection (f : Mem) (type inst : Nat) : Bool := (findSection f type inst).isSome

/-- The governor ladder declares tier `t` (R56, R79). -/
def tierExists (f : Mem) (t : Nat) : Bool := bit (secLe f 6 0 0 1) t == 1

/-! ### FABRIC_STAGES (R76, R77) -/

/-- A stage descriptor. -/
structure Stage where
  station : Nat
  order : Nat
  kind : Nat
  inW : Nat
  outW : Nat
  mask : Nat
  off : Nat
  len : Nat
  deriving DecidableEq, Repr

/-- Stage descriptor `i` (R76). -/
def stageAt (f : Mem) (i : Nat) : Stage :=
  let b := 16 + 32 * i
  ⟨secLe f 1 0 b 1, secLe f 1 0 (b + 1) 1, secLe f 1 0 (b + 2) 2, secLe f 1 0 (b + 4) 1, secLe f 1 0 (b + 5) 1,
   secLe f 1 0 (b + 6) 1, secLe f 1 0 (b + 8) 4, secLe f 1 0 (b + 12) 4⟩

/-- The stage descriptors. -/
def stages (f : Mem) : List Stage := (List.range (secLe f 1 0 0 2)).map (stageAt f)

/-- The stage of a kind. -/
def stageOf (f : Mem) (kind : Nat) : Option Stage := (stages f).find? (·.kind == kind)

/-- A stage of a kind exists and serves a tile. -/
def stageFor (f : Mem) (kind tile : Nat) : Bool := (stages f).any fun g => g.kind == kind && bit g.mask tile == 1

/-- A little-endian value of a stage's parameter block; 0 where the stage is absent. -/
def stageParam (f : Mem) (kind off n : Nat) : Nat :=
  match stageOf f kind with
  | some g => secLe f 1 0 (g.off + off) n
  | none => 0

/-- The file of the active image, empty where there is none (R67). -/
def State.image (s : State) : Mem := (s.img.active.getD {}).file

/-- Tiles of the active image (header TILE_MASK). -/
def State.tileMask (s : State) : Nat := if s.img.active.isSome then hdrTileMask s.image else 0

/-- The active image is a line image (TILE_TYPE 0x02). -/
def State.lineImage (s : State) : Bool := s.img.active.isSome && hdrTileType s.image == 2

/-- The positions of a mask, in ascending order. -/
def tilesOf (mask : Nat) : List Nat := (List.range 8).filter fun n => bit mask n == 1

end Sys2Proof.Machine
end

