-- ==== Sys2Proof/Machine/Gov.lean ====
section
/-!
DEFINITION. The slack governor, the core rail and the speed monitors (R35 to R38, R49 to R65), below the mode
sequences.
-/
namespace Sys2Proof.Machine

/-! ### The handshake cycle (R36) -/

/-- RO_SCALE (Q1.15) times 12,800 ns over N_min, in picoseconds as a fraction (R36). -/
def State.ringCycle (s : State) : Nat × Nat :=
  (s.get GOV_RO_SCALE.SCALE * 12800000, 2 ^ 15 * s.get GOV_RO_COUNT.N_MIN)

/-- c_est in picoseconds as a fraction (R36); what GOV_CYCLE_EST shows where no ring counted. -/
def State.cest (s : State) : Nat × Nat :=
  if s.get GOV_RO_COUNT.N_MIN = 0 then (s.get GOV_CYCLE_EST.CYCLE, 1) else s.ringCycle

/-- c_est brought from the code of its window to the present one by VSENS, in Q0.16 (R61, R62). -/
def State.cestHere (s : State) : Nat × Nat :=
  let c := s.cest
  let k := s.get GOV_RO_VSENS.VSENS
  (c.1 * (2 ^ 16 + k * s.gov.cestV - k * s.get GOV_STATE.VCODE), c.2 * 2 ^ 16)

/-- The smallest ring count with its ring, the lowest ring on a tie. -/
def minRing : Nat → List Nat → Nat × Nat
  | _, [] => (0, 0)
  | i, [n] => (n, i)
  | i, n :: l => let r := minRing (i + 1) l; if n ≤ r.1 then (n, i) else r

/-! ### The core rail (R37) -/

/-- The warning keeps the core rail from a step up toward its goal (R136). -/
def State.vHeld (s : State) (g : Nat) : Bool := s.pfw && decide (s.get GOV_STATE.VCODE < g)

/-- The code the core rail is at or moves to. -/
def State.vGoal (s : State) : Nat :=
  match s.gov.vTo with
  | some g => if s.vHeld g then s.get GOV_STATE.VCODE else g
  | none => s.get GOV_STATE.VCODE

/-- VCODE at a new code; AT_VMAX where it reaches 16. -/
def State.vSet (s : State) (v : Nat) : State :=
  let s := { s.set GOV_STATE.VCODE v with mon.vAt := s.now }
  if v = 16 then s.set GOV_EVENTS.AT_VMAX 1 else s

/-- The next step of the core rail toward its goal; a step up waits while the warning is active (R136). -/
def State.vStep (s : State) : State :=
  match s.gov.vTo with
  | none => { s with gov.vMoving := false }
  | some g =>
    let v := s.get GOV_STATE.VCODE
    if v = g then { s with gov.vTo := none, gov.vMoving := false }
    else if s.vHeld g then { s with gov.vMoving := false }
    else { s.vSet (if v < g then v + 1 else v - 1) with gov.vMoving := true }

/-- The governor asks for a code; the rail moves one step at a time (R37). -/
def State.vTarget (s : State) (g : Nat) : State :=
  let s := { s with gov.vTo := some g }
  if s.gov.vMoving then s else s.vStep

/-! ### Deadlines and predictions (R49, R57, R61) -/

/-- Tail work W of a tier. -/
def State.work (s : State) (tier : Nat) : Nat :=
  match tier with
  | 0 => s.get GOV_WORK_0.W | 1 => s.get GOV_WORK_1.W | 2 => s.get GOV_WORK_2.W | _ => s.get GOV_WORK_3.W

/-- The rounded-up quotient of integers. -/
def ceilDivI (a : Int) (b : Nat) : Int := -((-a) / (b : Int))

/-- Predicted slack at a tier for a cycle of `c.1 / c.2` picoseconds: DL − ceil(W c + F) (R61, R62). -/
def State.predSlack (s : State) (tier : Nat) (c : Nat × Nat) : Int :=
  (s.get GOV_DEADLINE.DL : Int) - (ceilDiv (s.work tier * c.1) (c.2 * 100000) + s.get GOV_FIXED.F : Nat)

/-- Slack predicted at tier − 1 from a measured completion of `c` REFTICKs at a tier (R57); none where the
ladder gives the tier no work to scale. -/
def State.slackBelow (s : State) (tier : Nat) (c : Int) : Option Int :=
  if s.work tier = 0 then none
  else
    let f : Int := s.get GOV_FIXED.F
    some ((s.get GOV_DEADLINE.DL : Int)
      - ceilDivI ((c - f) * s.work (tier - 1) + f * s.work tier) (s.work tier))

/-- The predicted cycle at a code, for the run's choice: c_est (1 − VSENS (v − VSTART)), VSENS in Q0.16 (R61). -/
def State.cycleAt (s : State) (v : Nat) : Nat × Nat :=
  let c := s.cest
  (c.1 * (2 ^ 16 - s.get GOV_RO_VSENS.VSENS * (v - s.get GOV_VLIMIT.VSTART)), c.2 * 2 ^ 16)

/-- The lowest code from VSTART to 16 whose predicted slack at a tier reaches LOW. -/
def State.codeFor (s : State) (tier : Nat) : Option Nat :=
  ((List.range 17).filter (s.get GOV_VLIMIT.VSTART ≤ ·)).find? fun v =>
    decide (s.predSlack tier (s.cycleAt v) ≥ (s.get GOV_SLACK_LOW.LOW : Int))

/-- The tier and code chosen when a run command is accepted (R61); TIER_MAX alone while the die's temperature holds it (R65). -/
def State.runChoice (s : State) : Nat × Nat :=
  let lo := if s.gov.hot then s.get GOV_CTRL.TIER_MAX else s.get GOV_CTRL.TIER_MIN
  let tiers := (List.range 4).filter fun t => lo ≤ t && t ≤ s.get GOV_CTRL.TIER_MAX
  match tiers.findSome? fun t => (s.codeFor t).map (t, ·) with
  | some p => p
  | none => (s.get GOV_CTRL.TIER_MAX, 16)

/-! ### Runs and tier changes (R57 to R60) -/

/-- The run counts restart (R58). -/
def State.clearRuns (s : State) : State :=
  { ((s.set GOV_STATE.RUNLEN 0).set GOV_STATE.RUNKIND 0) with
    gov.raiseRun := 0, gov.lowerRun := 0, gov.voltRun := 0 }

/-- A tier change takes effect: its event, the lockout of 16 boundaries, the run counts, and at Tier 3 the first
frame kept (R55, R58). -/
def State.tierSet (s : State) (t : Nat) : State :=
  let old := s.get GOV_STATE.TIER
  let s := (s.set GOV_STATE.TIER t).set GOV_STATE.LOCKOUT 16
  let s := if old < t then s.set GOV_EVENTS.TIER_UP 1 else if t < old then s.set GOV_EVENTS.TIER_DOWN 1 else s
  let s := s.clearRuns
  { s with gov.keepNext := true, gov.lockDue := false, gov.tierNext := none }

/-- The scheduled tier change takes effect at a boundary (R57, R59). -/
def State.tierApply (s : State) : State :=
  match s.gov.tierNext with
  | none => s
  | some t =>
    if t = s.get GOV_STATE.TIER then { s with gov.tierNext := none } else s.tierSet t

/-- A tier change scheduled for the next boundary under the rules of R57; at most one tier action a boundary. -/
def State.tierAsk (s : State) (t : Nat) : State :=
  if s.gov.tierNext.isSome then s else { s with gov.tierNext := some t }

/-- A move scheduled whatever the lockout (R38, R59, R65). -/
def State.tierForce (s : State) (t : Nat) : State := { s with gov.tierNext := some t }

/-- The conditions under which thin frames count toward a higher tier (R57). -/
def State.noVoltageLeft (s : State) : Bool := s.get GOV_STATE.VCODE == 16 || s.pfw

/-- One decision of R57, in table order: the frame's tier, its slack, and the slack predicted a tier below. A run of frames counts
whatever TIER_MIN was meanwhile, for every tier change restarts it; the tier is judged when the run is complete. The rules rest
while TIER_MAX is held for the die's temperature (R65). -/
def State.govDecide (s : State) (tier : Nat) (slack : Int) (below : Option Int) : State :=
  let low : Int := s.get GOV_SLACK_LOW.LOW
  let high : Int := s.get GOV_SLACK_HIGH.HIGH
  let thin := decide (slack < low)
  let ample := decide (high ≤ slack)
  let stuck := s.noVoltageLeft
  let here := tier == s.get GOV_STATE.TIER
  if s.gov.hot then s else
  -- Raise voltage
  let s := if thin && s.vGoal < 16 && !s.pfw then s.vTarget (s.vGoal + 1) else s
  if !here then s
  else
    let kind := if thin then 1 else if ample then 2 else 0
    let len := if kind = 0 then 0 else if s.get GOV_STATE.RUNKIND = kind then min 16 (s.get GOV_STATE.RUNLEN + 1) else 1
    let s := (s.set GOV_STATE.RUNKIND kind).set GOV_STATE.RUNLEN len
    let t := s.get GOV_STATE.TIER
    let free := s.get GOV_STATE.LOCKOUT == 0
    let late := decide (slack < 0) && stuck
    let raiseRun := if thin && stuck then min 16 (s.gov.raiseRun + 1) else 0
    let lowerRun := match below with
      | some b => if high ≤ b then min 16 (s.gov.lowerRun + 1) else 0
      | none => 0
    let voltRun := if ample then min 16 (s.gov.voltRun + 1) else 0
    let s := { s with gov.raiseRun := raiseRun, gov.lowerRun := lowerRun, gov.voltRun := voltRun,
                      gov.lateHeld := s.gov.lateHeld || late }
    -- Raise tier
    let s := if free && (raiseRun == 16 || s.gov.lateHeld) && t < s.get GOV_CTRL.TIER_MAX && stuck then
        s.tierAsk (t + 1) else s
    let s := if free then { s with gov.lateHeld := false } else s
    -- Lower tier
    let s := if free && lowerRun == 16 && s.get GOV_CTRL.TIER_MIN < t then s.tierAsk (t - 1) else s
    -- Lower voltage
    if voltRun == 16 && s.get GOV_VLIMIT.VFLOOR < s.vGoal && t == s.get GOV_CTRL.TIER_MIN then
      { ((s.vTarget (s.vGoal - 1)).set GOV_STATE.RUNLEN 0).set GOV_STATE.RUNKIND 0 with gov.voltRun := 0 }
    else s

/-- A measured slack recorded: the newest frame's, the smallest, the late count and faults of R50 and R64. -/
def State.recordSlack (s : State) (no : Nat) (tier : Nat) (slack : Int) : State :=
  let s := (s.seti GOV_LAST_SLACK.SLACK slack).set GOV_LAST_FRAME.FRAME no
  let s := if slack < s.geti GOV_MIN_SLACK.SLACK then s.seti GOV_MIN_SLACK.SLACK slack else s
  if slack < 0 then
    let s := (s.inc GOV_LATE_COUNT.COUNT).set GOV_EVENTS.LATE 1
    let ceiling := tier == s.get GOV_CTRL.TIER_MAX && s.noVoltageLeft
    let s := { s with gov.notLate := 0 }
    if s.gov.episode || ceiling then { s with gov.episode := true }.fault 0x0111 else s.fault 0x0110
  else
    let s := { s with gov.notLate := min 16 (s.gov.notLate + 1) }
    if s.gov.notLate = 16 then ({ s with gov.episode := false }.unfault 0x0110).unfault 0x0111 else s

/-- The choice for a run accepted: the code is set before its first boundary, the tier waits for that boundary, and the
prediction begins (R60 to R62). -/
def State.govRunBegin (s : State) : State :=
  let c := s.runChoice
  let s := { s.set GOV_STATE.PREDICTING 1 with
             gov.boundaries := 0, gov.lateHeld := false, gov.predDue := false, gov.tierNext := some c.1 }
  s.vTarget c.2

/-- The governor's tier, runs and lockout discarded; VCODE back to VSTART ("Leaving White", R61, R106 stage 9). -/
def State.govClear (s : State) : State :=
  let s := (((s.set GOV_STATE.TIER 0).set GOV_STATE.LOCKOUT 0).set GOV_STATE.PREDICTING 0).clearRuns
  { s with gov.tierNext := none, gov.lateHeld := false, gov.lockDue := false,
           gov.predDue := false, gov.boundaries := 0, gov.keepNext := true, gov.episode := false,
           gov.notLate := 0 }.vTarget (s.get GOV_VLIMIT.VSTART)

/-- The tier byte of R51. -/
def tierByte (tier : Nat) (predicted late : Bool) : Nat := tier % 4 + 64 * b2n predicted + 128 * b2n late

/-! ### Counts by tier -/

/-- GOV_TIER_FRAMES of a tier. -/
def tierFrames : Nat → Fld
  | 0 => GOV_TIER_FRAMES_0.COUNT | 1 => GOV_TIER_FRAMES_1.COUNT
  | 2 => GOV_TIER_FRAMES_2.COUNT | _ => GOV_TIER_FRAMES_3.COUNT

/-! ### The commands of the governor alone -/

/-- VOLTAGE_STEP_SETTLED (R37): a step of the core rail has settled; the next one of the way begins. -/
def voltageStepSettled (s : State) : State := if s.gov.vMoving then s.vStep else s

/-- The warning has cleared: a way up that waited goes on (R136). -/
def State.vResume (s : State) : State := if s.gov.vTo.isSome && !s.gov.vMoving then s.vStep else s

/-- RO_WINDOW_END (R36): N_min, its ring and c_est of the window that ended; in CHARACTERISE the code follows
c_est (R63). -/
def roWindowEnd (counts : List Nat) (s : State) : State :=
  let r := minRing 0 (counts.map (· % 2 ^ 16))
  let s := (s.set GOV_RO_COUNT.N_MIN r.1).set GOV_RO_COUNT.INDEX r.2
  let c := s.ringCycle
  let s : State := { s with gov.cestV := s.get GOV_STATE.VCODE }
  let s := s.set GOV_CYCLE_EST.CYCLE
    (if c.2 = 0 then Config.cycleOpen s.free else c.1 / c.2 + b2n (c.1 % c.2 ≠ 0 && Config.roundUp 1 c.1 c.2))
  let s := if c.2 = 0 then s.nextFree else s
  if s.sys.mode = .characterise ∧ c.2 ≠ 0 then
    if c.1 > 1300 * c.2 ∧ s.vGoal < 16 then s.vTarget (s.vGoal + 1)
    else if c.1 < 1100 * c.2 ∧ s.get GOV_VLIMIT.VFLOOR < s.vGoal then s.vTarget (s.vGoal - 1)
    else s
  else s

/-- GOV_LOCKOUT_END (R58): the lockout of 16 boundaries has expired. A late frame measured during it, or a run of
16 that still stands, then counts (R57; "A late frame during the hysteresis lockout"). -/
def govLockoutEnd (s : State) : State :=
  if s.gov.lockDue then
    let s := { s with gov.lockDue := false }
    let s := s.set GOV_STATE.LOCKOUT 0
    let t := s.get GOV_STATE.TIER
    if s.gov.hot then s
    else if (s.gov.lateHeld || s.gov.raiseRun == 16) && s.noVoltageLeft && t < s.get GOV_CTRL.TIER_MAX then
      { s.tierAsk (t + 1) with gov.lateHeld := false }
    else if s.gov.lowerRun == 16 && s.get GOV_CTRL.TIER_MIN < t then { s.tierAsk (t - 1) with gov.lateHeld := false }
    else { s with gov.lateHeld := false }
  else s

/-- GOV_PREDICTION_END (R62): from the 17th boundary on, measured slack decides; the run counts restart. -/
def govPredictionEnd (s : State) : State :=
  if s.gov.predDue then { (s.set GOV_STATE.PREDICTING 0).clearRuns with gov.predDue := false } else s

/-- A tier change that waits for a tier outside a new range is given up. -/
def State.tierDrop (s : State) (lo hi : Nat) : State :=
  match s.gov.tierNext with
  | some g => if lo ≤ g ∧ g ≤ hi then s else { s with gov.tierNext := none }
  | none => s

/-- The move that a new range brings (R59): the present tier, or the choice of a run accepted, into the range; TIER_MAX where the
die's temperature holds it (R65). -/
def State.tierRange (s : State) (lo hi : Nat) : State :=
  let t := if s.sys.runAt.isSome then s.gov.tierNext.getD (s.get GOV_STATE.TIER) else s.get GOV_STATE.TIER
  if s.gov.hot then s.tierForce hi
  else if t < lo then s.tierForce lo
  else if hi < t then s.tierForce hi
  else if s.sys.runAt.isSome then s
  else s.tierDrop lo hi

/-- GOV_CTRL_WRITE (R56, R59): TIER_MIN and TIER_MAX inside the declared ladder and in order; a present tier
outside the new range moves at the next boundary. -/
def govCtrlWrite (v : Nat) (s : State) : State × WRes :=
  s.loadGuard fun s =>
  let lo := GOV_CTRL.TIER_MIN.ofWord v
  let hi := GOV_CTRL.TIER_MAX.ofWord v
  if tierExists s.image lo = true ∧ tierExists s.image hi = true ∧ lo ≤ hi then
    let s := (s.set GOV_CTRL.TIER_MIN lo).set GOV_CTRL.TIER_MAX hi
    (s.tierRange lo hi, .ok)
  else (s, .refuse 1 0x0D)

/-- GOV_THRESHOLD_WRITE (R56): LOW or HIGH, with 0 < LOW < HIGH ≤ DL. -/
def govThresholdWrite (high : Bool) (v : Nat) (s : State) : State × WRes :=
  s.loadGuard fun s =>
  let v := v % 2 ^ 24
  let lo := if high then s.get GOV_SLACK_LOW.LOW else v
  let hi := if high then v else s.get GOV_SLACK_HIGH.HIGH
  if 0 < lo ∧ lo < hi ∧ hi ≤ s.get GOV_DEADLINE.DL then
    (s.set (if high then GOV_SLACK_HIGH.HIGH else GOV_SLACK_LOW.LOW) v, .ok)
  else (s, .refuse 1 0x0D)

/-- A write of GOV_VLIMIT (R37): VFLOOR 0 to 8, VSTART from VFLOOR to 16. -/
def govVlimitWrite (v : Nat) (s : State) : State × WRes :=
  s.loadGuard fun s =>
  let fl := GOV_VLIMIT.VFLOOR.ofWord v
  let st := GOV_VLIMIT.VSTART.ofWord v
  if fl ≤ 8 ∧ fl ≤ st ∧ st ≤ 16 then ((s.set GOV_VLIMIT.VFLOOR fl).set GOV_VLIMIT.VSTART st, .ok)
  else (s, .refuse 1 0x0D)

/-- GOV_CLR.CLR_COUNTS (R12): the counters at 0x0024 to 0x003C. -/
def govClrCounts (s : State) : State :=
  s.setAll [GOV_LATE_COUNT.COUNT, GOV_DECIM_COUNT.COUNT, GOV_OVF_COUNT.COUNT, GOV_TIER_FRAMES_0.COUNT,
    GOV_TIER_FRAMES_1.COUNT, GOV_TIER_FRAMES_2.COUNT, GOV_TIER_FRAMES_3.COUNT] 0

/-- GOV_CLR.CLR_MIN (R12). -/
def govClrMin (s : State) : State := s.set GOV_MIN_SLACK.SLACK 0x7FFFFFFF

def execVoltageStepSettled (t : Nat) (s : State) : Host.Outcome State Fault Refusal := .next (voltageStepSettled (s.at t))
def execRoWindowEnd (t : Nat) (counts : List Nat) (s : State) : Host.Outcome State Fault Refusal :=
  .next (roWindowEnd counts (s.at t))
def execGovLockoutEnd (t : Nat) (s : State) : Host.Outcome State Fault Refusal := .next (govLockoutEnd (s.at t))
def execGovPredictionEnd (t : Nat) (s : State) : Host.Outcome State Fault Refusal := .next (govPredictionEnd (s.at t))
def execGovCtrlWrite (t v : Nat) (s : State) : Host.Outcome State Fault Refusal :=
  .next (State.hostWrite 0x10000 (govCtrlWrite v) (s.at t))
def execGovThresholdWrite (t : Nat) (high : Bool) (v : Nat) (s : State) : Host.Outcome State Fault Refusal :=
  .next (State.hostWrite (if high then 0x10010 else 0x1000C) (govThresholdWrite high v) (s.at t))
def execGovClrCounts (t : Nat) (s : State) : Host.Outcome State Fault Refusal := .next (State.hostDo 0x10040 govClrCounts (s.at t))
def execGovClrMin (t : Nat) (s : State) : Host.Outcome State Fault Refusal := .next (State.hostDo 0x10040 govClrMin (s.at t))

end Sys2Proof.Machine
end

