-- ==== Sys2Proof/Machine/Patgen.lean ====
section
/-!
DEFINITION. The pattern generator's programs (R161 to R166): the section layout, the tracks with every loop
unrolled, their lengths, and the rules of R164.
-/
namespace Sys2Proof.Machine

/-- A program header (R161). -/
structure Prog1 where
  role : Nat
  tileType : Nat
  steps : Nat
  readFirst : Nat
  spp : Nat
  pixclk : Nat
  expose : Nat
  rest : Nat
  intMin : Nat
  intMax : Nat
  guard : Nat
  readOff : Nat
  deriving DecidableEq, Repr

/-- The header of PATGEN instance `n`. -/
def progOf (f : Mem) (n : Nat) : Prog1 :=
  ⟨secLe f 3 n 4 1, secLe f 3 n 5 1, secLe f 3 n 6 2, secLe f 3 n 8 2, secLe f 3 n 10 1, secLe f 3 n 11 1,
   secLe f 3 n 12 2, secLe f 3 n 14 2, secLe f 3 n 16 4, secLe f 3 n 20 4, secLe f 3 n 24 4, secLe f 3 n 28 2⟩

/-- A step (R162). -/
structure PStep where
  levels : Nat
  dur : Nat
  op : Nat
  smp : Bool
  row : Bool
  m0 : Bool
  m1 : Bool
  rsv : Nat
  deriving DecidableEq, Repr

/-- A step of 64 bits. -/
def stepOfWord (w : Nat) : PStep :=
  ⟨bits w 0 16, bits w 16 20, bits w 36 4, bit w 40 == 1, bit w 41 == 1, bit w 42 == 1, bit w 43 == 1, bits w 44 20⟩

/-- Step `i` of instance `n`. -/
def stepAt (f : Mem) (n i : Nat) : PStep := stepOfWord (secLe f 3 n (32 + 8 * i) 8)

/-- The steps of a track: expose (false) or read (true). -/
def trackOf (f : Mem) (n : Nat) (read : Bool) : List PStep :=
  let p := progOf f n
  if read then (List.range (p.steps - p.readFirst)).map fun i => stepAt f n (p.readFirst + i)
  else (List.range (min p.readFirst p.steps)).map fun i => stepAt f n i

/-- A stretch of a track with its loops unrolled: phases, rows begun, samples before the first row begun and in
the row left open, and whether every row between has the samples wanted. -/
structure Stretch where
  dur : Nat := 0
  rows : Nat := 0
  pre : Nat := 0
  post : Nat := 0
  ok : Bool := true
  deriving DecidableEq, Repr

/-- One stretch after another; `want` samples make a row. -/
def Stretch.then (want : Nat) (a b : Stretch) : Stretch :=
  if b.rows = 0 then
    ⟨a.dur + b.dur, a.rows, if a.rows = 0 then a.pre + b.pre else a.pre, a.post + b.pre, a.ok && b.ok⟩
  else if a.rows = 0 then ⟨a.dur + b.dur, b.rows, a.pre + b.pre, b.post, a.ok && b.ok⟩
  else ⟨a.dur + b.dur, a.rows + b.rows, a.pre, b.post, a.ok && b.ok && a.post + b.pre == want⟩

/-- A stretch repeated. -/
def Stretch.times (want n : Nat) (a : Stretch) : Stretch :=
  if a.rows = 0 then ⟨a.dur * n, 0, a.pre * n, a.post * n, a.ok⟩
  else ⟨a.dur * n, a.rows * n, a.pre, a.post, a.ok && (n ≤ 1 || a.post + a.pre == want)⟩

/-- The stretch of one DRIVE step: one sample for every two phases where SMP runs (R163, R185). -/
def driveStretch (st : PStep) : Stretch :=
  let n := if st.smp then st.dur / 2 else 0
  if st.row then ⟨st.dur, 1, 0, n, true⟩ else ⟨st.dur, 0, n, n, true⟩

/-- A track walked to its END: the open loops with their counts and stretches. None where a loop does not match,
nests deeper than 4, or no END ends the track (R163, R164). -/
def walkTrack (want : Nat) : List PStep → List (Nat × Stretch) → Stretch → Option Stretch
  | [], _, _ => none
  | st :: l, open_, acc =>
    if st.op = 0 then walkTrack want l open_ (acc.then want (driveStretch st))
    else if st.op = 1 then
      if open_.length < 4 ∧ 1 ≤ st.dur then walkTrack want l ((st.dur, acc) :: open_) {} else none
    else if st.op = 2 then
      match open_ with
      | (n, before) :: rest => walkTrack want l rest (before.then want (acc.times want n))
      | [] => none
    else if st.op = 3 then (if open_.isEmpty ∧ l.isEmpty then some acc else none)
    else none

/-! ### The levels that a track drives (R163) -/

/-- A track as a tree: a DRIVE step, or a LOOP with its count and body. -/
inductive Node where
  | drive (st : PStep)
  | loop (n : Nat) (body : List Node)
  deriving Repr

/-- A track read to its END as a tree; the open loops with their counts and what came before them. -/
def parseTrack : List PStep → List (Nat × List Node) → List Node → List Node
  | [], _, acc => acc
  | st :: l, open_, acc =>
    if st.op = 0 then parseTrack l open_ (acc ++ [.drive st])
    else if st.op = 1 then parseTrack l ((st.dur, acc) :: open_) []
    else if st.op = 2 then
      match open_ with
      | (n, before) :: rest => parseTrack l rest (before ++ [.loop n acc])
      | [] => acc
    else acc

mutual
/-- Phases that a node lasts. -/
def Node.dur : Node → Nat
  | .drive st => st.dur
  | .loop n body => n * nodesDur body

/-- Phases that nodes last one after another. -/
def nodesDur : List Node → Nat
  | [] => 0
  | x :: l => x.dur + nodesDur l
end

mutual
/-- The DRIVE step in force `d` phases after the start of a node, and the phases since that step began. -/
def Node.stepIn : Node → Nat → Option (PStep × Nat)
  | .drive st, d => if d < st.dur then some (st, d) else none
  | .loop n body, d => if d < n * nodesDur body then stepInList body (d % nodesDur body) else none

/-- The DRIVE step in force `d` phases after the start of the first of several nodes. -/
def stepInList : List Node → Nat → Option (PStep × Nat)
  | [], _ => none
  | x :: l, d => if d < x.dur then x.stepIn d else stepInList l (d - x.dur)
end

mutual
/-- Rows that begin in a node: its DRIVE steps with ROW (R162). -/
def Node.rows : Node → Nat
  | .drive st => b2n st.row
  | .loop n body => n * nodesRows body

/-- Rows that begin in nodes. -/
def nodesRows : List Node → Nat
  | [] => 0
  | x :: l => x.rows + nodesRows l
end

mutual
/-- Phases from the start of a node to the start of its row `k`. -/
def Node.rowIn : Node → Nat → Nat
  | .drive _, _ => 0
  | .loop _ body, k => k / nodesRows body * nodesDur body + rowInList body (k % nodesRows body)

/-- Phases from the start of the first of several nodes to the start of row `k`; to their end where they begin no such row. -/
def rowInList : List Node → Nat → Nat
  | [], _ => 0
  | x :: l, k => if k < x.rows then x.rowIn k else x.dur + rowInList l (k - x.rows)
end

/-- The read track of an instance as a tree. -/
def readTree (f : Mem) (n : Nat) : List Node := parseTrack (trackOf f n true) [] []

/-- The levels that a DRIVE step drives `k` phases after its start: in a sampling step the pixel clock runs in place of its
LEVELS bit, high for the first SPP phases of each pixel (R163). -/
def stepLevels (p : Prog1) (st : PStep) (k : Nat) : Nat :=
  if st.smp && p.pixclk ≤ 15 then
    clearBits st.levels (2 ^ p.pixclk) + 2 ^ p.pixclk * b2n (decide (k % (2 * p.spp) < p.spp))
  else st.levels

/-- The levels that a track of an instance drives `d` phases after its start; none once it has ended. -/
def trackLevels (f : Mem) (n : Nat) (read : Bool) (d : Nat) : Option Nat :=
  (stepInList (parseTrack (trackOf f n read) [] []) d).map fun q => stepLevels (progOf f n) q.1 q.2

/-- Samples of one row of a program: COLS / 4 × SPP of an area tile, 4,096 × SPP of a line tile (R164). -/
def rowSamples (p : Prog1) : Nat := (if p.role = 1 then 4096 else 320) * p.spp

/-- The walk of a track of an instance. -/
def walkOf (f : Mem) (n : Nat) (read : Bool) : Option Stretch :=
  walkTrack (rowSamples (progOf f n)) (trackOf f n read) [] {}

/-- Expose-track length E of an instance, phases (R164). -/
def eLen (f : Mem) (n : Nat) : Nat := ((walkOf f n false).getD {}).dur

/-- Read-track length L of an instance, phases (R164). -/
def rLen (f : Mem) (n : Nat) : Nat := ((walkOf f n true).getD {}).dur

/-- Phases that a tile type uses (R155). -/
def phasesUsed (type : Nat) : Nat := if type = 2 then 0xFF else 0xFFF

/-- The fields of one step are within R162 and R163, and it drives only its own track's used phases. -/
def stepOk (p : Prog1) (mask : Nat) (read : Bool) (st : PStep) : Bool :=
  st.rsv == 0 && st.op ≤ 3 && st.levels &&& mask == st.levels && st.levels &&& phasesUsed p.tileType == st.levels &&
  (if st.op = 0 then 1 ≤ st.dur && (!st.smp || (p.spp ≠ 0 && st.dur % (2 * p.spp) == 0))
   else if st.op = 1 then 1 ≤ st.dur else st.dur == 0) &&
  (read || (!st.smp && !st.row))

/-- The read track's rows (R164). -/
def rowsOk (p : Prog1) (tr : List PStep) (w : Stretch) : Bool :=
  if p.role = 0 then
    (tr.find? (·.op == 0)).elim false (·.row) && w.rows == 1024 && w.pre == 0 && w.ok && w.post == rowSamples p
  else w.rows ≤ 1 && w.ok && w.pre == (if w.rows = 0 then rowSamples p else 0) && w.post == rowSamples p

/-- The rules of R161 and R164 for one instance, in an image of a tile type. -/
def progOk (f : Mem) (type n : Nat) : Bool :=
  let p := progOf f n
  let e := trackOf f n false
  let r := trackOf f n true
  secLe f 3 n 0 4 == 0x50475054 && p.role ≤ 2 && p.tileType == type && 1 ≤ p.steps && p.steps ≤ 1024 &&
  secLen f 3 n == 32 + 8 * p.steps && secLe f 3 n 30 2 == 0 &&
  (p.pixclk ≤ 15 || p.pixclk == 0xFF) && p.intMin ≤ p.intMax &&
  p.rest &&& phasesUsed type == p.rest &&
  (p.role == 2 || p.pixclk == 0xFF || bit (phasesUsed type) p.pixclk == 1) &&
  e.all (stepOk p p.expose false) && r.all (stepOk p (0xFFFF - p.expose) true) &&
  (walkOf f n false).isSome &&
  (if p.role = 2 then p.readFirst == p.steps && p.spp == 0
   else p.readFirst < p.steps && 1 ≤ p.spp && p.spp ≤ 16 && (p.role == 0) == (type == 1) &&
     match walkOf f n true with
     | some w => rowsOk p r w
     | none => false)

/-- The PATGEN instances of an image. -/
def progsOf (f : Mem) : List Nat := (List.range 16).filter fun n => hasSection f 3 n

/-- The steps of the instances up to one, and of all together. -/
def stepsTo (f : Mem) (n : Nat) : Nat := (((progsOf f).filter (· ≤ n)).map fun k => (progOf f k).steps).sum
def stepsUsed (f : Mem) : Nat := stepsTo f 15

/-- The IDLE instance of an image, if any. -/
def idleProg (f : Mem) : Option Nat := (progsOf f).find? fun n => (progOf f n).role == 2

/-- R164 for one instance, the limits of the whole image judged over the instances up to it. -/
def patgenOk (f : Mem) (n : Nat) : Bool :=
  progOk f (hdrTileType f) n && stepsTo f n ≤ 8192 &&
  ((progOf f n).role ≠ 2 || idleProg f == some n)

/-! ### Exposure settings (R166, R169) -/

/-- INT lies within the program's range (R166). -/
def intOk (p : Prog1) (v : Settings) : Bool := p.intMin ≤ v.int && v.int ≤ p.intMax

/-- The other inequalities of R166, with `T` in phases. -/
def timingOk (f : Mem) (v : Settings) (T : Nat) : Bool :=
  let p := progOf f v.prog
  eLen f v.prog ≤ T && rLen f v.prog ≤ T && v.int + p.readOff + p.guard ≤ T

/-- The least boundary after one at `b` under settings `o` when settings `v` begin (R173), rounded up to a
REFTICK; in phases. -/
def stretchTo (f : Mem) (o v : Settings) (b : Nat) : Nat :=
  let po := progOf f o.prog
  let pn := progOf f v.prog
  let sched := b + 16 * o.period
  let i2 := b + o.int + po.readOff + po.guard
  let i3 := b + o.int + po.readOff + rLen f o.prog - (v.int + pn.readOff)
  16 * ceilDiv (max sched (max i2 i3)) 16

end Sys2Proof.Machine
end

