-- ==== Sys2Proof/Machine/Fpl.lean ====
section
/-!
DEFINITION. Exposure settings and epochs, tile bias and mosaic geometry (R154 to R178), below the mode sequences.
-/
namespace Sys2Proof.Machine

/-! ### Tile identity (R156) -/

/-- A little-endian value of an identity memory. -/
def identLe (b : List Nat) (off n : Nat) : Nat := leVal ((List.range n).map fun i => nth 0 b (off + i))

/-- The identity memory reads and its JMAGIC and ID_CRC hold (R156). -/
def identOk (t : TileRead) : Bool :=
  t.readable && t.bytes.length == 256 && identLe t.bytes 0 4 == 0x4449534A && crc32 (t.bytes.take 0xFC) == identLe t.bytes 0xFC 4

/-- A tile position. -/
def State.pos (s : State) (n : Nat) : TilePos := nth {} s.bring.tiles n

/-- A tile position changed. -/
def State.setPos (s : State) (n : Nat) (f : TilePos → TilePos) : State :=
  { s with bring.tiles := modNth f s.bring.tiles n }

/-- Limits and nominal values of the biases: VDET_MIN, VDET_MAX, VDET_NOM, VSKIM_MIN, VSKIM_MAX, VSKIM_NOM. -/
def State.biasWord (s : State) (n k : Nat) : Nat := identLe (s.pos n).ident (0x30 + 2 * k) 2

/-- The supplies that the identity memory fixes: VAMP and VREF, in mV (R154). -/
def State.tileSupply (s : State) (n : Nat) : Nat × Nat := (s.biasWord n 6, s.biasWord n 7)

/-- A tile position has its bias (R154, R167): VDET, VSKIM, VAMP and VREF in mV; 0 at a position without bias. -/
def State.tileBias (s : State) (n : Nat) : List Nat :=
  if bit s.bring.biasMask n = 1 then
    [s.get (FPL_ACT_BIASn.VDET n), s.get (FPL_ACT_BIASn.VSKIM n), (s.tileSupply n).1, (s.tileSupply n).2]
  else [0, 0, 0, 0]

/-! ### Settings (R169) -/

/-- The shadow set. -/
def State.shadowSet (s : State) : Settings :=
  ⟨s.get FPL_SH_PROG.PROG, s.get FPL_SH_INT.INT, s.get FPL_SH_PERIOD.PERIOD,
   ((List.range 8).map fun k => s.get (FPL_SH_GAIN.GAINn k) * 4 ^ k).sum,
   (List.range 8).map fun n => (s.get (FPL_SH_BIASn.VDET n), s.get (FPL_SH_BIASn.VSKIM n)),
   s.get SWP_SH_MINPER.MINPER, s.get SWP_SH_NOMPER.NOMPER⟩

/-- The active set. -/
def State.activeSet (s : State) : Settings :=
  ⟨s.get FPL_ACT_PROG.PROG, s.get FPL_ACT_INT.INT, s.get FPL_ACT_PERIOD.PERIOD,
   ((List.range 8).map fun k => s.get (FPL_ACT_GAIN.GAINn k) * 4 ^ k).sum,
   (List.range 8).map fun n => (s.get (FPL_ACT_BIASn.VDET n), s.get (FPL_ACT_BIASn.VSKIM n)),
   s.get SWP_ACT_MINPER.MINPER, s.get SWP_ACT_NOMPER.NOMPER⟩

/-- The gain code of a tile in a packed gain word. -/
def gainOf (gains n : Nat) : Nat := bits gains (2 * n) 2

/-- The biases a set applies, with the nominal value for 0 (R169). -/
def State.appliedBias (s : State) (v : Settings) (n : Nat) : Nat × Nat :=
  let b := nth (0, 0) v.bias n
  (if b.1 = 0 then s.biasWord n 2 else b.1, if b.2 = 0 then s.biasWord n 5 else b.2)

/-- The default deadline of a set and, where the ladder sets a shorter one, the ladder's (R49, R79). -/
def State.deadlineOf (s : State) (v : Settings) : Nat :=
  let dflt := if s.lineImage then v.nomper else v.period
  let dl := secLe s.image 6 0 0x20 4
  if dl = 0 then dflt else min dl dflt

/-- The reason for which R177 refuses a set; 0 for none. `sched` is the least interval T of R166 in phases. -/
def State.setRefuse (s : State) (v : Settings) (high : Nat) (inRun : Bool) : Nat :=
  let f := s.image
  let line := s.lineImage
  let p := progOf f v.prog
  let T := 16 * (if line then v.minper else v.period)
  if !hasSection f 3 v.prog || p.role ≠ (if line then 1 else 0) then 3
  else if !intOk p v then 4
  else if !timingOk f v T || (line && v.nomper < v.minper) then 5
  else if (tilesOf s.tileMask).any fun n =>
      let b := nth (0, 0) v.bias n
      (b.1 ≠ 0 && (b.1 < s.biasWord n 0 || s.biasWord n 1 < b.1)) ||
      (b.2 ≠ 0 && (b.2 < s.biasWord n 3 || s.biasWord n 4 < b.2)) then 6
  else if inRun && (tilesOf s.tileMask).any fun n =>
      s.appliedBias v n ≠ (s.get (FPL_ACT_BIASn.VDET n), s.get (FPL_ACT_BIASn.VSKIM n)) then 7
  else if s.deadlineOf v < high then 8
  else 0

/-- The reason for which a write of `v` to FPL_EPOCH is refused (R177); 0 for none. -/
def State.epochRefuse (s : State) (v : Nat) : Nat :=
  let c := s.get FPL_EPOCH_STATE.COMMITTED
  if v ≠ c ∧ v ≠ (c + 1) % 2 ^ 16 then 1
  else if !s.imaging || s.get PWR_STATUS.STATE ≠ 0 || s.on PWR_STATUS.MOVING then 2
  else s.setRefuse s.shadowSet (s.get GOV_SLACK_HIGH.HIGH) s.sys.run

/-- A set committed as pending under the next epoch (R170, R172). -/
def State.commitSet (s : State) (v : Settings) : State :=
  let s := if s.fpl.pending.isSome then
      (s.inc FPL_SUPERSEDE_COUNT.COUNT).set FPL_EVENTS.SUPERSEDED 1 else s
  let s := s.set FPL_EPOCH_STATE.COMMITTED (s.get FPL_EPOCH_STATE.COMMITTED + 1)
  let s := (s.set FPL_EPOCH_STATE.PENDING 1).set64 FPL_COMMIT_TICK_LO.TICK FPL_COMMIT_TICK_HI.TICK s.tick
  { s with fpl.pending := some v, fpl.commitAt := s.tick }

/-- A write of FPL_EPOCH (R170, R177). -/
def epochCommit (v : Nat) (s : State) : State × WRes :=
  let v := v % 2 ^ 16
  if v = s.get FPL_EPOCH_STATE.COMMITTED then (s, .ok)
  else
    let r := s.epochRefuse v
    if r = 0 then (s.commitSet s.shadowSet, .ok)
    else ((s.set FPL_EPOCH_STATE.LAST_REFUSE r).set FPL_EVENTS.REFUSED 1, .refuse 1 (if r ≠ 2 then 0 else if s.imaging then 0x06 else 0x03))

/-- The pending set may act at a boundary whose scheduled instant is REFTICK `b` (R171). -/
def State.pendingDue (s : State) (b : Nat) : Bool := s.fpl.pending.isSome && s.fpl.commitAt + 500 ≤ b

/-- Settling restarts for tiles whose bias changed (R176, R128). -/
def State.settleStart (s : State) (mask : Nat) : State :=
  if mask = 0 then s
  else { s.set PWR_STATUS.SETTLING 1 with
         bring.settleFrom := some s.now, bring.checkAt := s.now + 20 * sec, bring.biasMask := s.bring.biasMask ||| mask }

/-- A sensor's values of the 10 s before an instant lie within 0.05 K of each other (1/64 K). -/
def State.sensorSteady (s : State) (at_ n : Nat) : Bool :=
  let vs := (s.bring.temps.filter fun e => e.2.1 == n && decide (at_ ≤ e.1 + 10 * sec) && decide (e.1 ≤ at_)).map (·.2.2)
  match vs with
  | [] => false
  | v :: l => decide (l.foldl max v - l.foldl min v ≤ 3)

/-- The sensors of the tiles of a mask, the failed ones left out, are steady. -/
def State.tilesSteady (s : State) (at_ mask : Nat) : Bool :=
  (tilesOf mask).all fun m => [2 * m, 2 * m + 1].all fun n => s.mon.fail.contains n || s.sensorSteady at_ n

/-- BIAS_APPLY (R176): the biases of a set reach the tiles of the active image; tiles whose bias changed are
answered as a mask. -/
def State.biasApply (s : State) (v : Settings) : State × Nat :=
  (tilesOf s.tileMask).foldl (fun (p : State × Nat) n =>
    let b := p.1.appliedBias v n
    let old := (p.1.get (FPL_ACT_BIASn.VDET n), p.1.get (FPL_ACT_BIASn.VSKIM n))
    ((p.1.set (FPL_ACT_BIASn.VDET n) b.1).set (FPL_ACT_BIASn.VSKIM n) b.2,
     if b = old then p.2 else p.2 + 2 ^ n)) (s, 0)

/-- A change from settings `o` to `v` disturbs offsets (R169, R175): program, integration time, a gain, a bias. -/
def disturbs (o v : Settings) : Bool := o.prog ≠ v.prog || o.int ≠ v.int || o.gains ≠ v.gains || o.bias ≠ v.bias

/-- The pending set becomes active (R171, R174): the FPL_ACT registers, the biases once the tiles are biased (R176; before stage 9
of start-up they wait for it), the deadline of R49, the epoch applied. R177 keeps a bias change out of a run; a set committed
between a run command and its first boundary brings its biases with it. -/
def State.setApply (s : State) : State :=
  match s.fpl.pending with
  | none => s
  | some v =>
    let s := (s.set FPL_ACT_PROG.PROG v.prog).set FPL_ACT_INT.INT v.int |>.set FPL_ACT_PERIOD.PERIOD v.period
    let s := (List.range 8).foldl (fun s k => s.set (FPL_ACT_GAIN.GAINn k) (gainOf v.gains k)) s
    let s := (s.set SWP_ACT_MINPER.MINPER v.minper).set SWP_ACT_NOMPER.NOMPER v.nomper
    let s : State := { s with fpl.bias := v.bias }
    let s := if !s.sys.up then s else
      let r := s.biasApply v
      if s.bring.settleFrom.isSome || s.bring.biasMask ≠ 0 then r.1.settleStart r.2 else r.1
    let s := s.set GOV_DEADLINE.DL (s.deadlineOf v)
    let s := (s.set FPL_EPOCH_STATE.PENDING 0).set FPL_EPOCH_APPLIED.EPOCH (s.get FPL_EPOCH_STATE.COMMITTED)
    { s with fpl.pending := none }

/-! ### Geometry (R159, R160) -/

/-- Columns and rows of a tile of the carrier's type. -/
def State.tileSize (s : State) : Nat × Nat := if s.lineImage then (4096, 4) else (1280, 1024)

/-- Two spans of equal length `len`, in 1/1,000 pitch, overlap. -/
def spansMeet (a b : Int) (len : Nat) : Bool := decide (a < b + 1000 * len) && decide (b < a + 1000 * len)

/-- The carrier holds line tiles: its type where start-up has found one, else that of the image (R110). -/
def State.lineCarrier (s : State) : Bool :=
  if s.get FPL_CARRIER.TYPE = 0 then s.lineImage else s.get FPL_CARRIER.TYPE == 2

/-- The geometry refuses a run (R160): an area origin off the pitch grid, or an overlap of two tiles of the image. -/
def State.geometryBad (s : State) : Bool :=
  let ts := tilesOf s.tileMask
  let size := s.tileSize
  let x := fun n => s.geti (FPL_GEOMn_X.X n)
  let y := fun n => s.geti (FPL_GEOMn_Y.Y n)
  (ts.any fun n => !s.lineImage && (x n % 1000 ≠ 0 || y n % 1000 ≠ 0)) ||
  (ts.any fun m => ts.any fun n => decide (m < n) && spansMeet (x m) (x n) size.1 &&
    (s.lineImage || spansMeet (y m) (y n) size.2))

/-- A value that R159 gives no line tile: an origin Y or a FLIP_Y other than 0. -/
def lineGeomBad (addr v : Nat) : Bool :=
  (addr % 16 == 4 && v % 2 ^ 32 != 0) || (addr % 16 == 8 && (FPL_GEOMn_ORIENT.FLIP_Y 0).ofWord v != 0)

/-- A write of a geometry register (R159): only outside RUN; on a line carrier Y and FLIP_Y are 0 (R14). An area origin off the
pitch grid is judged by the run command (R160). -/
def fplGeomWrite (addr v : Nat) (s : State) : State × WRes :=
  s.loadGuard fun s =>
  if s.sys.run then (s, .refuse 1 0x0C)
  else if s.lineCarrier && lineGeomBad addr v then (s, .refuse 1 0x0D)
  else match fieldsAt addr with
    | some fs =>
      if 0x40300 ≤ addr ∧ addr < 0x40380 then (fs.foldl (fun s f => s.set f (f.ofWord v)) s, .ok) else (s, .refuse 1 0)
    | none => (s, .refuse 1 0)

/-! ### The idle program (R167) -/

/-- The idle program starts at the end of the last read track of a run, where an image has one and the delay-locked line is
locked (R47, R167). -/
def State.idleStart (s : State) : State :=
  let has := s.img.active.isSome && (idleProg s.image).isSome && s.on GOV_REF_STATUS.DLL_LOCK
  { (s.setb FPL_PG_STATUS.IDLE_RUN has).setb FPL_PG_STATUS.EXP_RUN has with
    fpl.idle := has, fpl.idleAt := s.now }

/-- The idle program is cut off at the first boundary of a run (R167). -/
def State.idleStop (s : State) : State :=
  { (s.set FPL_PG_STATUS.IDLE_RUN 0).set FPL_PG_STATUS.EXP_RUN 0 with fpl.idle := false }

/-! ### The phases (R154, R163, R167) -/

/-- The program whose REST_LEVELS a track that does not run leaves: that of the newest boundary, or instance 0 where no boundary
has been since the image came. -/
def State.restProg (s : State) : Nat := (s.fpl.lastSet.map (·.prog)).getD 0

/-- The program and the levels of the expose track at instant `t`: the idle program's pass, or the frame of the newest boundary. -/
def State.exposeLevels (s : State) (t : Nat) : Nat × Nat :=
  let f := s.image
  match s.fpl.idle, idleProg f with
  | true, some n => (n, (trackLevels f n false ((t - s.fpl.idleAt) % max 1 (eLen f n))).getD (progOf f n).rest)
  | _, _ =>
    match s.fpl.lastB, s.fpl.lastSet with
    | some b, some v => (v.prog, if b ≤ t then (trackLevels f v.prog false (t - b)).getD (progOf f v.prog).rest else (progOf f v.prog).rest)
    | _, _ => (s.restProg, (progOf f s.restProg).rest)

/-- The program and the levels of the read track at instant `t`: that of the frame that is read out. -/
def State.readLevels (s : State) (t : Nat) : Nat × Nat :=
  let f := s.image
  let p := match s.fpl.frames.find? fun r => r.readStart.isSome && r.lastSample.isNone with
    | some r => (r.prog, trackLevels f r.prog true (t - r.readStart.getD t))
    | none => ((s.exposeLevels t).1, none)
  (p.1, p.2.getD (progOf f p.1).rest)

/-- The levels of P0 to P15 at an instant, bit n for Pn, the same at every position: the phases of the expose track's EXPOSE_MASK as
that track drives them, all others as the read track does (R154, R163); every phase low with no active image (R167) and while no tile
is biased (20, "The carrier positions"); the levels at which the phases stopped while the delay-locked line is out of lock (R47). -/
def State.phaseLevels (s : State) (t : Nat) : Nat :=
  if s.img.active.isNone || s.bring.biasMask == 0 then 0
  else match s.fpl.frozen with
    | some v => v
    | none =>
      let e := s.exposeLevels t
      let mask := (progOf s.image e.1).expose
      (e.2 &&& mask) + clearBits (s.readLevels t).2 mask

/-- Phase edges stop at the next REFTICK (R47): the levels of that instant stay. -/
def State.phasesStop (s : State) : State := { s with fpl.frozen := some (s.phaseLevels (16 * (s.tick + 1))) }

def execEpochCommit (t v : Nat) (s : State) : Host.Outcome State Fault Refusal :=
  .next (State.hostWrite 0x40000 (epochCommit v) (s.at t))
def execFplGeomWrite (t addr v : Nat) (s : State) : Host.Outcome State Fault Refusal :=
  .next (State.hostWrite addr (fplGeomWrite addr v) (s.at t))

end Sys2Proof.Machine
end

