-- ==== Sys2Proof/Machine/Vfe.lean ====
section
/-!
DEFINITION. The front-ends: stations 3 and 4 (R180 to R191), the sums of the mismatch estimation (R192, R196), and
the rotating spare (R198 to R213).
-/
namespace Sys2Proof.Machine

/-! ### Lanes (R78, R180) -/

/-- The source of lane `n` under ROUTING, if any. -/
def laneSource (f : Mem) (n : Nat) : Option Nat :=
  if hasSection f 2 0 then (let b := secLe f 2 0 n 1; if b = 0xFF then none else some b) else none

/-- The lane that a source drives. -/
def laneOf (f : Mem) (src : Nat) : Option Nat := (List.range 32).find? fun n => laneSource f n == some src

/-- The output of a tile that carries a pixel (R155), and the pixel's place among the output's pixels. -/
def outputOf (line : Bool) (row col : Nat) : Nat × Nat :=
  if line then (row, col) else (col / 320, row * 320 + col % 320)

/-- The interleave set applied to a front-end (R187). -/
def State.ilv (s : State) (n : Nat) : IlvSet :=
  ⟨s.geti (VFE_ILVn_OFS.OFS n), s.geti (VFE_ILVn_GAIN.G n), s.geti (VFE_ILVn_SKEW.K n)⟩

/-- An interleave set applied. -/
def State.setIlv (s : State) (n : Nat) (v : IlvSet) : State :=
  ((s.seti (VFE_ILVn_OFS.OFS n) v.ofs).seti (VFE_ILVn_GAIN.G n) v.g).seti (VFE_ILVn_SKEW.K n) v.k

/-- The lane that VCS carries, if any: from takeover to handback, or held (R200, R208). -/
def State.spareLane (s : State) : Option Nat :=
  let ph := s.get VFE_SPARE_STATE.PHASE
  if ph = 6 then some (s.get VFE_SPARE_STATE.HELD_CHAN)
  else if (ph = 2 ∨ ph = 3 ∨ ph = 4) ∧ s.get VFE_SPARE_STATE.CHAN < 32 then some (s.get VFE_SPARE_STATE.CHAN)
  else none

/-- Who carries lane `n` from a row on. -/
def State.laneSeg (s : State) (n row : Nat) : LaneSeg :=
  if s.spareLane = some n then ⟨row, 32, s.ilv 32, s.vfe.mofs, s.vfe.mg⟩ else ⟨row, n, s.ilv n, 0, 0⟩

/-- The carriers of every lane at a boundary. -/
def State.laneSegs (s : State) : List (List LaneSeg) := (List.range 32).map fun n => [s.laneSeg n 0]

/-- The segment of a lane that holds a row: the last that begins at or before it. -/
def segAt (l : List LaneSeg) (row : Nat) : LaneSeg := ((l.filter (·.row ≤ row)).getLast?).getD {}

/-- The read track of a record is in progress. -/
def FrameRec.reading (r : FrameRec) : Bool := r.readStart.isSome && r.lastSample.isNone

/-- The record whose read track is in progress. -/
def State.readRec (s : State) : Option FrameRec := s.fpl.frames.find? (·.reading)

/-- The instant at which row `k` of a read track begins (R162, R163); a line is one row. -/
def rowAt (f : Mem) (r : FrameRec) (k : Nat) : Nat := r.readStart.getD 0 + if r.line then 0 else rowInList (readTree f r.prog) k

/-- Rows of a read track. -/
def rowCount (f : Mem) (r : FrameRec) : Nat := if r.line then 1 else nodesRows (readTree f r.prog)

/-- Rows of a read track that begin before an instant. -/
def rowsBefore (f : Mem) (r : FrameRec) (at_ : Nat) : Nat := ((List.range (rowCount f r)).filter fun k => decide (rowAt f r k < at_)).length

/-- The next row of the read track in progress that has yet to begin. -/
def State.nextRow (s : State) : Nat := (s.readRec.map fun r => rowsBefore s.image r (s.now + 1)).getD 0

/-- The carrier of lane `n` changes (R191): in the read track in progress from a row on, a line's not at all; wholly in those that
have yet to begin. -/
def State.recarry (s : State) (n row : Nat) : State :=
  { s with fpl.frames := s.fpl.frames.map fun r =>
      if r.readStart.isNone then { r with lanes := modNth (fun _ => [s.laneSeg n 0]) r.lanes n }
      else if r.lastSample.isNone && !r.line then { r with lanes := modNth (· ++ [s.laneSeg n row]) r.lanes n }
      else r }

/-! ### HALFTRIM (R188 to R190) -/

/-- One B sample corrected (R188); `nb` its A neighbours where the sampling step has both. -/
def halfB (v : IlvSet) (x : Nat) (nb : Option (Nat × Nat)) : Int :=
  let b1 : Int := 16 * x - v.ofs
  let b2 := b1 + rhe (b1 * v.g) (2 ^ 20)
  let d : Int := match nb with
    | some (p, n) => 16 * ((n : Int) - p)
    | none => 0
  b2 - rhe (v.k * d) (2 ^ 20)

/-- Both neighbours, where there are both. -/
def both : Option Nat → Option Nat → Option (Nat × Nat)
  | some a, some b => some (a, b)
  | _, _ => none

/-- The samples of one sampling step (`true` from B) corrected in units of 1/16 code (R188). -/
def halfTrim (v : IlvSet) : Option Nat → List (Bool × Nat) → List Int
  | _, [] => []
  | prev, (isB, x) :: l =>
    (if isB then halfB v x (both prev (l.head?.map (·.2))) else 16 * x) :: halfTrim v (some x) l

/-- The spare match applied to a corrected sample (R189). -/
def matchSample (mofs mg : Int) (x : Int) : Int := (x - mofs) + rhe ((x - mofs) * mg) (2 ^ 20)

/-- A pixel's raw code before its range (R190). -/
def pixelCode (spp : Nat) (xs : List Int) : Int := rhe xs.sum (16 * spp)

/-- A raw code in range (R190). -/
def clampCode (v : Int) : Int := clampI 0 65535 v

/-- The two sample lists of a pixel in sampling order; `startB` where the pixel begins with B (R185). -/
def merge : (startB : Bool) → List Nat → List Nat → List (Bool × Nat)
  | false, a :: as, bs => (false, a) :: (match bs with
      | b :: bs => (true, b) :: merge false as bs
      | [] => as.map (false, ·))
  | false, [], bs => bs.map (true, ·)
  | true, as, b :: bs => (true, b) :: (match as with
      | a :: as => (false, a) :: merge true as bs
      | [] => bs.map (true, ·))
  | true, as, [] => as.map (false, ·)

/-- The samples of a pixel cut from the front of a step's list. -/
def cut (spp : Nat) : Nat → List Int → List (List Int)
  | 0, _ => []
  | n + 1, l => l.take spp :: cut spp n (l.drop spp)

/-! ### Sampling steps of a read track (R163, R185) -/

/-- Samples of each sampling step of a track in order, its loops unrolled. -/
def smpSteps : List PStep → List (Nat × List Nat) → List Nat → List Nat
  | [], _, acc => acc
  | st :: l, open_, acc =>
    if st.op = 0 then smpSteps l open_ (if st.smp then acc ++ [st.dur / 2] else acc)
    else if st.op = 1 then smpSteps l ((st.dur, acc) :: open_) []
    else if st.op = 2 then
      match open_ with
      | (n, before) :: rest => smpSteps l rest (before ++ (List.replicate n acc).flatten)
      | [] => smpSteps l [] acc
    else acc

/-- The first pixel of each sampling step, from pixel `p` on. -/
def stepStarts (spp p : Nat) : List Nat → List Nat
  | [] => []
  | n :: l => p :: stepStarts spp (p + n / spp) l

/-- The first pixel of the sampling step that holds pixel `i`. -/
def stepStart (starts : List Nat) (i : Nat) : Nat := ((starts.filter (· ≤ i)).getLast?).getD 0

/-- A stretch of consecutive pixels of one lane inside one sampling step: lane, row, the first pixel's place in
the step, and the pixels. -/
structure Run where
  lane : Nat
  step : Nat
  next : Nat
  startB : Bool
  pixels : List PixelVideo
  deriving Repr

/-- Pixels of a read track gathered into runs, newest first; `line` where the image is a line image. -/
def gather (f : Mem) (line : Bool) (spp : Nat) (starts : List Nat) : List PixelVideo → List Run → List Run
  | [], rs => rs
  | p :: l, rs =>
    let o := outputOf line p.row p.col
    match laneOf f (4 * p.tile + o.1) with
    | none => gather f line spp starts l rs
    | some n =>
      let st := stepStart starts o.2
      match rs with
      | r :: rest =>
        if r.lane = n ∧ r.step = st ∧ r.next = o.2 then
          gather f line spp starts l ({ r with next := o.2 + 1, pixels := r.pixels ++ [p] } :: rest)
        else gather f line spp starts l (⟨n, st, o.2 + 1, (o.2 - st) * spp % 2 == 1, [p]⟩ :: rs)
      | [] => gather f line spp starts l [⟨n, st, o.2 + 1, (o.2 - st) * spp % 2 == 1, [p]⟩]

/-- The samples of a run in sampling order. -/
def runSamples (spp : Nat) : Bool → List PixelVideo → List (Bool × Nat)
  | _, [] => []
  | sb, p :: l => merge sb p.a p.b ++ runSamples spp (sb != (spp % 2 == 1)) l

/-- The pixels of a run as the second front-end took them. -/
def Run.second (r : Run) : Run := { r with pixels := r.pixels.map fun p => { p with a := p.a2, b := p.b2 } }

/-- The pixel codes of a run, before their range (R188 to R190). -/
def runCodes (spp : Nat) (g : LaneSeg) (r : Run) : List (PixelVideo × Int) :=
  let xs := halfTrim g.set none (runSamples spp r.startB r.pixels)
  let xs := if g.fe = 32 then xs.map (matchSample g.mofs g.mg) else xs
  r.pixels.zip ((cut spp r.pixels.length xs).map (pixelCode spp))

/-! ### The sums of the estimation (R192) -/

/-- A code that no clipping made. -/
def inRange (x : Nat) : Bool := x ≠ 0 && x < 65535

/-- One qualifying B sample added. -/
def IlvSums.add (w : IlvSums) (p x n : Nat) : IlvSums :=
  let m : Int := 8 * (p + n)
  let d : Int := 16 * ((n : Int) - p)
  let e : Int := 16 * x - m
  ⟨w.n + 1, w.m + m, w.d + d, w.e + e, w.mm + m * m, w.dd + d * d, w.md + m * d, w.em + e * m, w.ed + e * d, w.ee + e * e⟩

/-- The qualifying B samples of one stretch added. -/
def IlvSums.run (w : IlvSums) : Option Nat → List (Bool × Nat) → IlvSums
  | _, [] => w
  | prev, (isB, x) :: l =>
    let w := match isB, both prev (l.head?.map (·.2)) with
      | true, some (p, n) => if inRange p && inRange x && inRange n then w.add p x n else w
      | _, _ => w
    IlvSums.run w (some x) l

/-- The window of a front-end. -/
def State.window (s : State) (fe : Nat) : IlvSums := ((s.vfe.window.find? (·.1 == fe)).map (·.2)).getD {}

/-- An entry of a keyed list replaced. -/
def putKey {α : Type} (k : Nat) (v : α) (l : List (Nat × α)) : List (Nat × α) := (k, v) :: l.filter (·.1 ≠ k)

/-- The sums of the front-ends that `p` names are discarded (R196), and so are the solves in flight (R375). -/
def State.dropWhere (s : State) (p : Nat → Bool) : State :=
  let n := (s.vfe.solving.filter fun v => p v.fe).length
  { s.add SOL_MOD_BATCHES.COUNT n with
    vfe.window := s.vfe.window.filter fun w => !p w.1
    vfe.solving := s.vfe.solving.filter fun v => !p v.fe }

/-- A front-end's sums are discarded (R196). -/
def State.dropWindow (s : State) (fe : Nat) : State := s.dropWhere (· == fe)

/-- The sums of every front-end discarded, at the end of RUN (R196). -/
def State.dropWindows (s : State) : State := s.dropWhere fun _ => true

/-- The lane whose samples VCS or VCn takes beside their carrier: that of a shadow or a return shadow, or a held lane to be matched
anew (R200, R211). -/
def State.shadowChan (s : State) : Option Nat :=
  let ph := s.get VFE_SPARE_STATE.PHASE
  if ph = 1 ∨ ph = 4 then some (s.get VFE_SPARE_STATE.CHAN)
  else if ph = 6 ∧ s.vfe.rematch then some (s.get VFE_SPARE_STATE.HELD_CHAN) else none

/-- A shadow begins its 256 lines, at the first line boundary not before an instant (R200). -/
def State.shadowBegin (s : State) (from_ : Nat) : State :=
  { s with vfe.fit := {}, vfe.lines := 0, vfe.shadowFrom := from_, vfe.shadowB := 0 }

/-- The gain code that a lane has under packed gains. -/
def State.laneGain (s : State) (gains n : Nat) : Nat :=
  match laneSource s.image n with
  | some src => gainOf gains (src / 4)
  | none => 0

/-- A gain change of its lane restarts a shadow from the boundary at `b` ("A gain change during a shadow"). -/
def State.shadowGain (s : State) (old new b : Nat) : State :=
  match s.shadowChan with
  | some n => if s.laneGain old n ≠ s.laneGain new n then { s.shadowBegin s.vfe.shadowFrom with vfe.shadowB := b } else s
  | none => s

/-- A change of tile gains, which reaches the front-ends with a frame's read track (R169, R179), discards the sums of the
front-ends that take those tiles (R196). -/
def State.gainWindows (s : State) (old new : Nat) : State :=
  s.dropWhere fun fe =>
    match if fe = 32 then (s.spareLane.or s.shadowChan) else some fe with
    | some n => s.laneGain old n != s.laneGain new n
    | none => false

/-- The spread that lets c1 and c2 be fitted (R193): the standard deviation of a quantity with sum `a` and sum of
squares `aa` over `n` samples is at least `lim`. -/
def spreadAtLeast (n : Nat) (a aa : Int) (lim : Int) : Bool := decide (lim * lim * (n : Int) * n ≤ n * aa - a * a)

/-! ### Station 3 and 4 of one read track -/

/-- The row of its lane that a run lies in. -/
def Run.row (r : Run) (line : Bool) : Nat := if line then 0 else (r.pixels.head?.map (·.row)).getD 0

/-- Samples of one front-end in one row that began at `at_`: the clipped ones counted (R183); those of a delivered frame enter its
window, of VCS those since it was connected (R192, R196). -/
def State.takeSamples (s : State) (fe at_ : Nat) (delivered : Bool) (xs : List (Bool × Nat)) : State :=
  let s := s.add (VFE_CLIPn.COUNT fe) (xs.filter fun x => !inRange x.2).length
  if delivered && s.on VFE_ILV_CTRL.EST_EN && (fe != 32 || decide (s.vfe.since ≤ at_)) then
    { s with vfe.window := putKey fe ((s.window fe).run none xs) s.vfe.window }
  else s

/-- One run taken: the samples of its carrier and of the second front-end of a shadow, raw codes and clamps (R190). -/
def State.takeRun (s : State) (spp : Nat) (q : FrameRec) (r : Run) : State × List Pix :=
  let row := r.row s.lineImage
  let g := segAt (nth [] q.lanes r.lane) row
  let at_ := rowAt s.image q row
  let kept := q.drop == .kept
  let delivered := kept && s.sys.mode != .characterise
  let s := s.takeSamples g.fe at_ delivered (runSamples spp r.startB r.pixels)
  let ys := runSamples spp r.startB r.second.pixels
  let s := if ys = [] then s else s.takeSamples (if g.fe = 32 then r.lane else 32) at_ delivered ys
  if !kept then (s, [])
  else
    let cs := runCodes spp g r
    let s := s.add VFE_CLAMP_COUNT.COUNT (cs.filter fun c => decide (c.2 ≠ clampCode c.2)).length
    (s, cs.map fun c => ⟨c.1.tile, c.1.row, c.1.col, clampCode c.2⟩)

/-- The runs of a read track's pixels. -/
def State.runsOf (s : State) (r : FrameRec) (video : List PixelVideo) : List Run :=
  let spp := (progOf s.image r.prog).spp
  (gather s.image s.lineImage spp (stepStarts spp 0 (smpSteps (trackOf s.image r.prog true) [] [])) video []).reverse

/-- Stations 3 and 4 of the read track of a frame record: its raw codes. -/
def State.station34 (s : State) (r : FrameRec) (video : List PixelVideo) : State × List Pix :=
  (s.runsOf r video).foldl (fun (p : State × List Pix) run =>
    let q := p.1.takeRun (progOf s.image r.prog).spp r run
    (q.1, p.2 ++ q.2)) (s, [])

/-- VCS supplies a row of a lane, from its segments and the rows of the read track (R201). -/
def spareRows (rows : Nat) : List LaneSeg → Bool
  | [] => false
  | g :: l => (g.fe == 32 && decide (g.row < ((l.head?.map (·.row)).getD rows)) && decide (g.row < rows)) || spareRows rows l

/-- VCS supplied a pixel of some lane to the frame (R201). -/
def spareActive (f : Mem) (r : FrameRec) : Bool := r.lanes.any (spareRows (rowCount f r))

/-! ### Interleave sets -/

/-- A pending interleave set takes effect (R191, R195); one that waits when EST_EN is 0 or FREEZE is 1 is not applied (R196). -/
def State.ilvApply (s : State) (fe : Nat) : State :=
  match s.vfe.next.find? (·.1 == fe) with
  | some e =>
    let s : State := { s with vfe.next := s.vfe.next.filter (·.1 ≠ fe) }
    if s.on VFE_ILV_CTRL.EST_EN && !s.on VFE_ILV_CTRL.FREEZE then (s.setIlv fe e.2).inc (VFE_ILVn_STAT.ACCEPTS fe) else s
  | none => s

/-- Every pending set takes effect, at a boundary. -/
def State.ilvApplyAll (s : State) : State := s.vfe.next.foldl (fun s e => s.ilvApply e.1) s

/-- The factory sets applied to every front-end (R197), with the registers that show them. -/
def State.ilvFactorySets (s : State) : State :=
  (List.range 33).foldl (fun s n =>
    let f := Config.ilvFactory n
    let s := ((s.set (VFE_FACTn_OFS.OFS n) f.1).set (VFE_FACTn_GAIN.G n) f.2.1).set (VFE_FACTn_SKEW.K n) f.2.2
    ((s.set (VFE_ILVn_OFS.OFS n) f.1).set (VFE_ILVn_GAIN.G n) f.2.1).set (VFE_ILVn_SKEW.K n) f.2.2) s

/-! ### The match fit (R204) -/

/-- Pairs (u, v) that take part added to the sums of a fit (R204). -/
def FitSums.addPairs (w : FitSums) (pairs : List (Nat × Nat)) : FitSums :=
  (pairs.filter fun p => inRange p.1 && inRange p.2).foldl (fun w p =>
    ⟨w.n + 1, w.u + p.1, w.v + p.2, w.uu + p.1 * p.1, w.vv + p.2 * p.2, w.uv + p.1 * p.2⟩) w

/-- The sums of a fit over pairs (u, v) that take part. -/
def fitSums (pairs : List (Nat × Nat)) : FitSums := ({} : FitSums).addPairs pairs

/-- The standard deviation of u reaches 256 codes, so the gain is fitted. -/
def FitSums.wide (w : FitSums) : Bool := spreadAtLeast w.n w.u w.uu 256

/-- b of the least-squares line, in binary64; 1 where the gain is not fitted. -/
def FitSums.b (w : FitSums) : D :=
  if w.wide then
    dDiv (dSub (dMul (dInt w.n) (dInt w.uv)) (dMul (dInt w.u) (dInt w.v)))
      (dSub (dMul (dInt w.n) (dInt w.uu)) (dMul (dInt w.u) (dInt w.u)))
  else (1, 1)

/-- a of the least-squares line. -/
def FitSums.a (w : FitSums) : D := dDiv (dSub (dInt w.v) (dMul w.b (dInt w.u))) (dInt w.n)

/-- MOFS and MG. -/
def FitSums.mat (w : FitSums) : Int × Int :=
  if w.wide then
    (clampS16 (qRhe (dDiv (dMul (-16, 1) w.a) w.b)), clampS16 (qRhe (dMul (2 ^ 20, 1) (dSub w.b (1, 1)))))
  else (clampS16 (rhe (16 * (w.u - w.v)) w.n), 0)

/-- The RMS residual. -/
def FitSums.rms (w : FitSums) : D :=
  dSqrt (dDiv (dSub (dSub (dInt w.vv) (dMul w.a (dInt w.v))) (dMul w.b (dInt w.uv))) (dInt w.n))

/-- The checks of phase 1 (R202): N, MOFS within ±256 codes, MG within ±1 %, residual at most 3 codes. -/
def FitSums.matchOk (w : FitSums) : Bool :=
  16384 ≤ w.n && w.mat.1.natAbs ≤ 4096 && w.mat.2.natAbs * 100 ≤ 2 ^ 20 && qLe w.rms (3, 1)

/-- The checks of phase 4 (R202) over at least one pair: mean difference at most 2 codes, gain difference at most
0.1 %. -/
def FitSums.returnOk (w : FitSums) : Bool :=
  qLe (qAbs (dDiv (dInt (w.v - w.u)) (dInt w.n))) (2, 1) && qLe (qAbs (dSub w.b (1, 1))) (1, 1000)

/-! ### The lines of a shadow (R200, R204, R213) -/

/-- Raw codes in their range. -/
def rawCodes (l : List (PixelVideo × Int)) : List Nat := l.map fun c => (clampCode c.2).toNat

/-- u and v of the pixels of one run (R204): in a shadow u is VCS's code with the match at 0 and v the lane's; in a return shadow u is
the lane's as VCS carries it and v VCn's with the trims and set under test. A held lane is matched as in a shadow (R211). -/
def State.runPairs (s : State) (q : FrameRec) (r : Run) : List (Nat × Nat) :=
  let spp := (progOf s.image q.prog).spp
  let g := segAt (nth [] q.lanes r.lane) (r.row s.lineImage)
  let own := fun (g : LaneSeg) => rawCodes (runCodes spp g r)
  let other := fun (g : LaneSeg) => rawCodes (runCodes spp g r.second)
  if g.fe = 32 then
    (own (if s.get VFE_SPARE_STATE.PHASE = 6 then { g with mofs := 0, mg := 0 } else g)).zip
      (other ⟨g.row, r.lane, s.ilv r.lane, 0, 0⟩)
  else (other ⟨g.row, 32, q.vset, 0, 0⟩).zip (own g)

/-- A frame or line counts toward a shadow: kept, of the present gain, and in SWEEP an object line (R200, R213). -/
def State.shadowCounts (s : State) (q : FrameRec) : Bool :=
  q.drop == .kept && decide (s.vfe.shadowB ≤ q.boundary) &&
    (!q.line || (decide ((s.get SWP_SCAN_OBJ_START.START : Int) ≤ q.index) && decide (s.vfe.shadowFrom ≤ q.boundary)))

/-- The rows of a read track that count toward the shadow in progress: the first of them, and how many. -/
def State.shadowRows (s : State) (q : FrameRec) : Nat × Nat :=
  let k := if q.line then 0 else rowsBefore s.image q s.vfe.shadowFrom
  (k, if s.shadowCounts q then min (rowCount s.image q - k) (256 - s.vfe.lines) else 0)

/-- The rows of a read track that count added to the shadow in progress. -/
def State.shadowAdd (s : State) (q : FrameRec) (video : List PixelVideo) : State :=
  match s.shadowChan with
  | none => s
  | some c =>
    let k := s.shadowRows q
    let rs := (s.runsOf q video).filter fun r => r.lane == c && (q.line || (decide (k.1 ≤ r.row false) && decide (r.row false < k.1 + k.2)))
    { s with vfe.fit := s.vfe.fit.addPairs (rs.flatMap (s.runPairs q)), vfe.lines := s.vfe.lines + k.2 }

/-- The samples of a shadow, pixel by pixel: those of the lane's carrier with those of the second front-end beside them. -/
def joinVideo (own other : List PixelVideo) : List PixelVideo := (own.zip other).map fun p => { p.1 with a2 := p.2.a, b2 := p.2.b }

/-- The 256th line boundary of the shadow in progress has come: the state with the whole fit, and the row that begins there. The lines
of the read track in progress come with the command. No takeover or handback takes place during the reference strips (R213). -/
def State.shadowEnd (s : State) (video : List PixelVideo) : Option (State × Nat) :=
  if s.shadowChan.isNone || (s.lineImage && s.get SWP_SCAN_STATE.STATE == 2) then none
  else if 256 ≤ s.vfe.lines then some (s, s.nextRow)
  else match s.readRec with
    | some q =>
      let k := s.shadowRows q
      if !q.line && 256 ≤ s.vfe.lines + k.2 && rowAt s.image q (k.1 + k.2) ≤ s.now then some (s.shadowAdd q video, k.1 + k.2) else none
    | none => none

/-! ### Trims (R184, R202, R205) -/

/-- The factory trims of a front-end. -/
def trimsFactory (fe : Nat) : List (Int × Int) := (List.range 8).map (Config.trimFactory fe)

/-- The trims set in a front-end. -/
def State.trims (s : State) (fe : Nat) : List (Int × Int) :=
  ((s.vfe.trims.find? (·.1 == fe)).map (·.2)).getD (trimsFactory fe)

/-- Trims set. -/
def State.setTrims (s : State) (fe : Nat) (l : List (Int × Int)) : State :=
  { s with vfe.trims := putKey fe l s.vfe.trims }

/-- The standard deviation of 4,096 samples is at most `lim` codes. -/
def noiseOk (lim sum sq : Nat) : Bool := decide (4096 * sq ≤ sum * sum + lim * lim * 4096 * 4096)

/-- The gain of a converter with its new trim is within ±0.05 % of nominal against the reference (R184): readings at ±75 % of full
scale lie 49,152 codes apart. -/
def gainNominal (r : TrimRead) : Bool :=
  decide ((((r.sp : Int) - r.sm) - 49152 * 4096).natAbs * 2000 ≤ 49152 * 4096)

/-- The checks of phase 3 on one converter at one gain (R184, R202); `old` its present trims, `fact` its factory ones. -/
def trimOk (old fact : Int × Int) (r : TrimRead) : Bool :=
  let lim := if r.gain = 3 then 5 else 3
  noiseOk lim r.s0 r.q0 && noiseOk lim r.sp r.qp && noiseOk lim r.sm r.qm &&
  decide (((r.s0 : Int) - 32768 * 4096).natAbs ≤ 8 * 4096) &&
  decide ((r.ofsTrim - old.1).natAbs ≤ 48 * 16) &&
  decide ((r.gainTrim - old.2).natAbs * 400 ≤ 2 ^ 20) &&
  decide ((r.gainTrim - fact.2).natAbs * 200 ≤ 3 * 2 ^ 20) &&
  decide ((2 * (r.s0 : Int) - r.sp - r.sm).natAbs ≤ 12 * 4096) && gainNominal r

/-- The A and B checks of phase 3 at one gain (R202). -/
def pairOk (a b : TrimRead) : Bool :=
  decide (((a.s0 : Int) - b.s0).natAbs ≤ 4 * 4096) &&
  decide ((((a.sp : Int) - a.sm) - ((b.sp : Int) - b.sm)).natAbs * 1000 ≤ ((b.sp : Int) - b.sm).natAbs)

/-- The readings of one converter at one gain. -/
def readOf (rs : List TrimRead) (gain : Nat) (b : Bool) : Option TrimRead := rs.find? fun r => r.gain == gain && r.b == b

/-- Every check of phase 3 on a front-end. -/
def State.phase3Ok (s : State) (fe : Nat) (rs : List TrimRead) : Bool :=
  (List.range 4).all fun g =>
    match readOf rs g false, readOf rs g true with
    | some a, some b =>
      trimOk (nth (0, 0) (s.trims fe) (2 * g)) (Config.trimFactory fe (2 * g)) a &&
      trimOk (nth (0, 0) (s.trims fe) (2 * g + 1)) (Config.trimFactory fe (2 * g + 1)) b && pairOk a b
    | _, _ => false

/-- The trims that the readings set. -/
def newTrims (rs : List TrimRead) : List (Int × Int) :=
  (List.range 8).map fun i => ((readOf rs (i / 2) (i % 2 == 1)).map fun r => (r.ofsTrim, r.gainTrim)).getD (0, 0)

/-- OFS and G from the readings at a gain code (R205); K holds. -/
def trimSet (rs : List TrimRead) (gain : Nat) (old : IlvSet) : IlvSet :=
  match readOf rs gain false, readOf rs gain true with
  | some a, some b =>
    let mean := fun (x : Nat) => dRound ((x : Int), 4096)
    let da := dSub (mean a.sp) (mean a.sm)
    let db := dSub (mean b.sp) (mean b.sm)
    { old with
      g := clampS16 (qRhe (dMul (2 ^ 20, 1) (dSub (dDiv da db) (1, 1))))
      ofs := clampS16 (qRhe (dMul (16, 1) (dSub (mean b.s0) (dDiv (dMul (mean a.s0) db) da)))) }
  | _, _ => old

/-! ### The rotation (R198 to R213) -/

/-- The first front-end with a source at or after `n`, in the order of R198; none where none has one. -/
def State.nextChan (s : State) (n : Nat) : Option Nat :=
  ((List.range 32).map fun i => (n + i) % 32).find? fun c => (laneSource s.image c).isSome

/-- The front-end in whose slot VCS is trimmed (R207): the last of the order with a source. -/
def State.lastChan (s : State) : Nat := (((List.range 32).filter fun c => (laneSource s.image c).isSome).getLast?).getD 31

/-- The rotation may give slots: RUN, ROT_EN, the first offset update of the run committed, neither held nor
halted (R198). -/
def State.rotates (s : State) : Bool :=
  s.sys.run && s.imaging && s.on VFE_SPARE_CTRL.ROT_EN && s.vfe.started && decide (s.get VFE_SPARE_STATE.PHASE < 6)

/-- The first offset update of a run starts the rotation (R198). -/
def State.rotationStart (s : State) : State :=
  if s.sys.run && !s.vfe.started then { s with vfe.started := true, vfe.slotAt := s.now } else s

/-- No swap may begin: in STARE from the closing command of a shutter cycle to the first frame after reopening without
SHUTTER_HOLD (R212), in SWEEP during the reference strips (R213). -/
def State.swapBarred (s : State) : Bool := if s.lineImage then s.get SWP_SCAN_STATE.STATE == 2 else s.vfe.busy

/-- VFE_ROT_TIME as the first front-end of the order is served again (R199): a full rotation has served the last one since. -/
def State.rotTime (s : State) (c : Nat) : State :=
  if some c = s.nextChan 0 then
    let s := match s.vfe.rotStart, s.vfe.served with
      | some r, true => s.set VFE_ROT_TIME.MS ((s.now - r) / msec)
      | _, _ => s
    { s with vfe.rotStart := some s.now, vfe.served := false }
  else s

/-- A swap begins with its shadow (R200 phase 1): VCS is connected to the source of the next front-end, and the shadow begins at the
first line boundary not before `from_`. -/
def State.swapBegin (s : State) (from_ : Nat) : State :=
  match s.nextChan (s.get VFE_SPARE_STATE.CHAN) with
  | none => s
  | some c =>
    let s := ((s.rotTime c).set VFE_SPARE_STATE.PHASE 1).set VFE_SPARE_STATE.CHAN c
    { (s.dropWindow 32).shadowBegin from_ with
      vfe.waiting := false, vfe.postponed := false, vfe.failed := false, vfe.prev := none, vfe.since := s.now }

/-- The match in force and the lane's takeover (R200 phase 2). -/
def State.takeover (s : State) (c row : Nat) (m : Int × Int) : State :=
  ({ s with vfe.mofs := m.1, vfe.mg := m.2 }.set VFE_SPARE_STATE.PHASE 3).recarry c row

/-- The next front-end of the rotation stands in CHAN; a waiting slot begins its swap (R199). -/
def State.afterSwap (s : State) (next : Nat) : State :=
  let s := (s.set VFE_SPARE_STATE.PHASE 0).set VFE_SPARE_STATE.CHAN ((s.nextChan next).getD 0)
  if s.vfe.waiting && s.rotates then
    if s.swapBarred then { s.set VFE_EVENTS.SWAP_POSTPONED 1 with vfe.waiting := false, vfe.postponed := true }
    else s.swapBegin s.now
  else s

/-- The end of a swap of `c`: the trim of VCS follows in the last slot of a rotation (R207). -/
def State.swapEnd (s : State) (c : Nat) : State :=
  let s : State := { s with vfe.served := s.vfe.served || c == s.lastChan }
  if c = s.lastChan then (s.set VFE_SPARE_STATE.PHASE 3).set VFE_SPARE_STATE.CHAN 32 else s.afterSwap (c + 1)

/-- The result of a trial is recorded (R206). -/
def State.trialResult (s : State) (c : Nat) (pass : Bool) : State :=
  let m := 2 ^ c
  let s := s.set VFE_SPARE_TRIED.CHAN (s.get VFE_SPARE_TRIED.CHAN ||| m)
  let clr := fun (v : Nat) => if bit v c = 1 then v - m else v
  let s := (s.set VFE_SPARE_LAST.CHAN c).set VFE_SPARE_LAST.RESULT (if pass then 1 else 2)
  if pass then
    let s := (s.set VFE_SPARE_PASS.CHAN (s.get VFE_SPARE_PASS.CHAN ||| m)).set VFE_SPARE_FAIL.CHAN (clr (s.get VFE_SPARE_FAIL.CHAN))
    { s.incSat VFE_SPARE_COUNTS.PASS_TOTAL with vfe.fails := s.vfe.fails.filter (· ≠ c) }
  else
    let s := (s.set VFE_SPARE_FAIL.CHAN (s.get VFE_SPARE_FAIL.CHAN ||| m)).set VFE_SPARE_PASS.CHAN (clr (s.get VFE_SPARE_PASS.CHAN))
    let s := (s.incSat VFE_SPARE_COUNTS.FAIL_TOTAL).set VFE_EVENTS.TRIM_FAIL 1
    { s with vfe.fails := c :: s.vfe.fails.filter (· ≠ c) }.fault 0x0502 c

/-- The spare is held on a front-end's lane (R208). -/
def State.spareHold (s : State) (c : Nat) : State :=
  let s := ((s.set VFE_SPARE_STATE.PHASE 6).set VFE_SPARE_STATE.HELD_CHAN c).set VFE_EVENTS.SPARE_HELD 1
  { (s.fault 0x0503 c).journal 0x51 [c, 0] with
    nv.heldMatch := some (s.vfe.mofs, s.vfe.mg), vfe.waiting := false, vfe.postponed := false }

/-- A failure of VCS counted (R207); the second in a row halts the rotation. -/
def State.vcsFail (s : State) : State :=
  let s := s.set VFE_SPARE_VCS.FAILS (min 2 (s.get VFE_SPARE_VCS.FAILS + 1))
  if s.get VFE_SPARE_VCS.FAILS = 2 then
    { ((s.set VFE_SPARE_STATE.PHASE 7).set VFE_EVENTS.ROT_HALT 1).fault 0x0505 with
      vfe.waiting := false, vfe.postponed := false }
  else s

/-- A swap in progress is abandoned (R210): the lane returns at the next row with VCn's previous trims and set. -/
def State.swapAbandon (s : State) : State :=
  let ph := s.get VFE_SPARE_STATE.PHASE
  let c := s.get VFE_SPARE_STATE.CHAN
  let s := { s with vfe.waiting := false, vfe.postponed := false }
  if 1 ≤ ph ∧ ph ≤ 5 then
    let s := match s.vfe.prev with
      | some p => if s.vfe.failed ∨ ph ≠ 4 then s else (s.setTrims c p.1).setIlv c { p.2 with k := (s.ilv c).k }
      | none => s
    let carried := s.spareLane.isSome
    let s := (s.set VFE_SPARE_STATE.PHASE 0).set VFE_EVENTS.SWAP_ABANDONED 1
    let s := if carried then s.recarry c s.nextRow else s
    let s := (s.set VFE_SPARE_LAST.CHAN c).set VFE_SPARE_LAST.RESULT 3
    let s := if c = 32 then s.set VFE_SPARE_STATE.CHAN s.lastChan else s
    { s with vfe.prev := none, vfe.failed := false }
  else s

/-- SPARE_SLOT_DUE (R198, R199, R212, R213): a slot falls due every 2 s from the first offset update of the run on; one that ROT_EN 0
or a held or halted rotation keeps away is no slot. -/
def spareSlotDue (s : State) : State :=
  if !s.sys.run || !s.vfe.started || s.now < s.vfe.slotAt then s
  else
    let s : State := { s with vfe.slotAt := s.vfe.slotAt + 2 * sec * ((s.now - s.vfe.slotAt) / (2 * sec) + 1) }
    if !s.rotates then s
    else if s.get VFE_SPARE_STATE.PHASE ≠ 0 || s.vfe.postponed then { s with vfe.waiting := true }
    else if s.swapBarred then { s.set VFE_EVENTS.SWAP_POSTPONED 1 with vfe.postponed := true }
    else s.swapBegin s.now

/-- The instant at which a postponed swap may begin: the newest row boundary, where it comes at least 100 ms after the cycle (R212);
in SWEEP the first object line after the strips (R213). -/
def State.postponedFrom (s : State) : Option Nat :=
  if s.lineImage then (if s.get SWP_SCAN_STATE.STATE = 4 then some s.now else none)
  else match s.readRec with
    | some q =>
      let b := rowAt s.image q (s.nextRow - 1)
      if 0 < s.nextRow ∧ s.vfe.cycleEnd + 100 * msec ≤ b then some b else none
    | none => none

/-- SPARE_POSTPONED_START (R212, R213). -/
def sparePostponedStart (s : State) : State :=
  match s.postponedFrom with
  | some b =>
    if s.vfe.postponed && s.rotates && s.get VFE_SPARE_STATE.PHASE == 0 && !s.swapBarred then
      { s.swapBegin b with vfe.waiting := s.vfe.waiting }
    else s
  | none => s

/-- The new match of a held spare (R211): it takes effect at the next boundary (R191). -/
def State.heldRematch (s : State) : State :=
  let m := s.vfe.fit.mat
  let ok := s.vfe.fit.matchOk
  let s : State := { s with vfe.rematch := false }
  if ok then { s with vfe.mofs := m.1, vfe.mg := m.2, nv.heldMatch := some m } else (s.set VFE_EVENTS.MATCH_FAIL 1).fault 0x0504

/-- SPARE_SHADOW_DONE (R203, R204): the fit over 256 lines; the takeover at the line boundary that ends them, or a match failure. The
shadow of R211 renews the match of a held spare. -/
def spareShadowDone (video : List PixelVideo) (s : State) : State :=
  match s.shadowEnd video with
  | none => s
  | some (s, row) =>
    let w := s.vfe.fit
    if s.get VFE_SPARE_STATE.PHASE = 6 then s.heldRematch
    else if s.get VFE_SPARE_STATE.PHASE = 1 then
      let c := s.get VFE_SPARE_STATE.CHAN
      if w.matchOk then s.takeover c row w.mat
      else
        let s := (((s.set VFE_EVENTS.MATCH_FAIL 1).fault 0x0504).set VFE_SPARE_STATE.PHASE 0).vcsFail
        if s.get VFE_SPARE_STATE.PHASE = 7 then s else s.swapEnd c
    else s

/-- The samples that clipped while the reference was taken (R183). -/
def State.trimClips (s : State) (fe : Nat) (reads : List TrimRead) : State := s.add (VFE_CLIPn.COUNT fe) (reads.map (·.clips)).sum

/-- SPARE_TRIM_DONE (R202, R203, R205): the checks of phase 3, the trims and set that phase 4 tests, and the return shadow, whose
lines begin at least 10 µs after the reconnection. -/
def spareTrimDone (reads : List TrimRead) (s : State) : State :=
  let c := s.get VFE_SPARE_STATE.CHAN
  if s.get VFE_SPARE_STATE.PHASE = 3 ∧ c < 32 then
    let s := (s.trimClips c reads).shadowBegin (s.now + 10 * us)
    if s.phase3Ok c reads then
      let s : State := { s with vfe.prev := some (s.trims c, s.ilv c) }
      ((s.setTrims c (newTrims reads)).setIlv c (trimSet reads (s.laneGain s.fpl.readGains c) (s.ilv c))).set VFE_SPARE_STATE.PHASE 4
    else if s.vfe.fails.contains c then (s.trialResult c false).spareHold c
    else { s with vfe.failed := true }.set VFE_SPARE_STATE.PHASE 4
  else s

/-- SPARE_RETURN_SHADOW_DONE (R203): the comparison over 256 lines; handback at the line boundary that ends them, phase 4 again with
the previous trims, or a hold. With no pixel to compare the outcome is open. -/
def spareReturnShadowDone (video : List PixelVideo) (s : State) : State :=
  let c := s.get VFE_SPARE_STATE.CHAN
  match if s.get VFE_SPARE_STATE.PHASE = 4 ∧ c < 32 then s.shadowEnd video else none with
  | none => s
  | some (s, row) =>
    let w := s.vfe.fit
    let ok := if w.n = 0 then Config.freeBool 1 s.free else w.returnOk
    let s := if w.n = 0 then s.nextFree else s
    if ok then
      let s := (s.set VFE_SPARE_STATE.PHASE 0).recarry c row
      let s := s.trialResult c (!s.vfe.failed)
      { s with vfe.failed := false, vfe.prev := none }.swapEnd c
    else
      let again := s.vfe.failed
      let s := match again, s.vfe.prev with
        | false, some p => (s.setTrims c p.1).setIlv c { p.2 with k := (s.ilv c).k }
        | _, _ => s
      if again || s.vfe.fails.contains c then (s.trialResult c false).spareHold c
      else { s.shadowBegin s.now with vfe.failed := true }

/-- VCS_TRIM_DONE (R207). -/
def vcsTrimDone (reads : List TrimRead) (s : State) : State :=
  if s.get VFE_SPARE_STATE.PHASE = 3 ∧ s.get VFE_SPARE_STATE.CHAN = 32 then
    let ok := s.phase3Ok 32 reads
    let s := ((s.trimClips 32 reads).set VFE_SPARE_LAST.CHAN 32).set VFE_SPARE_LAST.RESULT (if ok then 1 else 2)
    if ok then ((s.setTrims 32 (newTrims reads)).set VFE_SPARE_VCS.FAILS 0).afterSwap 0
    else
      let s := (s.set VFE_SPARE_STATE.PHASE 0).vcsFail
      if s.get VFE_SPARE_STATE.PHASE = 7 then s else s.afterSwap 0
  else s

/-- A write of 1 to VFE_SPARE_CTRL.RELEASE (R209): only in READY. -/
def spareReleaseWrite (s : State) : State × WRes :=
  if !s.ready then (s, .refuse 1 (if s.imaging then 0x0C else 0x03))
  else if s.get VFE_SPARE_STATE.PHASE = 6 then
    let c := s.get VFE_SPARE_STATE.HELD_CHAN
    let s := ((s.set VFE_SPARE_STATE.PHASE 0).set VFE_SPARE_STATE.HELD_CHAN 0x3F).set VFE_SPARE_STATE.CHAN
      ((s.nextChan (c + 1)).getD 0)
    let s := { s with vfe.fails := s.vfe.fails.filter (· ≠ c), vfe.rematch := false, nv.heldMatch := none }
    ((s.unfault 0x0503 c).journal 0x51 [c, 1], .ok)
  else if s.get VFE_SPARE_STATE.PHASE = 7 then
    let s := (s.set VFE_SPARE_STATE.PHASE 0).set VFE_SPARE_VCS.FAILS 0
    ((s.set VFE_SPARE_STATE.CHAN ((s.nextChan ((s.get VFE_SPARE_STATE.CHAN + 1) % 33)).getD 0)).unfault 0x0505, .ok)
  else (s, .ok)

/-- VFE_CLR.CLR_CLIP (R12, R183). -/
def vfeClrClip (s : State) : State :=
  s.setAll (VFE_CLAMP_COUNT.COUNT :: (List.range 33).map VFE_CLIPn.COUNT) 0

/-- VFE_CLR.CLR_SPARE (R12, R206). -/
def vfeClrSpare (s : State) : State := s.setAll [VFE_SPARE_COUNTS.PASS_TOTAL, VFE_SPARE_COUNTS.FAIL_TOTAL] 0

def execSpareSlotDue (t : Nat) (s : State) : Host.Outcome State Fault Refusal := .next (spareSlotDue (s.at t))
def execSparePostponedStart (t : Nat) (s : State) : Host.Outcome State Fault Refusal := .next (sparePostponedStart (s.at t))
def execSpareShadowDone (t : Nat) (own other : List PixelVideo) (s : State) : Host.Outcome State Fault Refusal :=
  .next (spareShadowDone (joinVideo own other) (s.at t))
def execSpareTrimDone (t : Nat) (reads : List TrimRead) (s : State) : Host.Outcome State Fault Refusal :=
  .next (spareTrimDone reads (s.at t))
def execSpareReturnShadowDone (t : Nat) (own other : List PixelVideo) (s : State) : Host.Outcome State Fault Refusal :=
  .next (spareReturnShadowDone (joinVideo own other) (s.at t))
def execVcsTrimDone (t : Nat) (reads : List TrimRead) (s : State) : Host.Outcome State Fault Refusal :=
  .next (vcsTrimDone reads (s.at t))
def execSpareRelease (t : Nat) (s : State) : Host.Outcome State Fault Refusal :=
  .next (State.hostWrite 0x50600 spareReleaseWrite (s.at t))
def execVfeClrClip (t : Nat) (s : State) : Host.Outcome State Fault Refusal := .next (State.hostDo 0x50804 vfeClrClip (s.at t))
def execVfeClrSpare (t : Nat) (s : State) : Host.Outcome State Fault Refusal := .next (State.hostDo 0x50804 vfeClrSpare (s.at t))

end Sys2Proof.Machine
end

