-- ==== Sys2Proof/Machine/Cor.lean ====
section
/-!
DEFINITION. Station 5, the placement of a staring mosaic and the statistics blocks (R214 to R240).
-/
namespace Sys2Proof.Machine

/-! ### Tiles and pixels -/

/-- Columns and rows of a tile of the image's type. -/
def tileCols (line : Bool) : Nat := if line then 4096 else 1280
def tileRows (line : Bool) : Nat := if line then 4 else 1024

/-- Pixels of a tile (R245). -/
def tilePixels (line : Bool) : Nat := tileCols line * tileRows line

/-- The raster index of a pixel (R245). -/
def pixIdx (line : Bool) (row col : Nat) : Nat := row * tileCols line + col

/-- The coefficients of a pixel in a set: its newer values, or those of the factory table file (R241, R245). -/
def TileSet.coef (c : TileSet) (i : Nat) : Coef :=
  match c.px.find? (·.1 == i) with
  | some e => e.2
  | none =>
    let a := 0x200 + 10 * i
    ⟨signed 16 (c.file.le a 2), signed 16 (c.file.le (a + 2) 2), signed 16 (c.file.le (a + 4) 2), c.file.le (a + 6) 2,
     signed 16 (c.file.le (a + 8) 2)⟩

/-- The set of a position. -/
def tileSet (l : List (Nat × TileSet)) (n : Nat) : TileSet := ((l.find? (·.1 == n)).map (·.2)).getD {}

/-! ### ΔT (R218, R219) -/

/-- t before its range, from the corrected sensors in 1/64 K and the choice of R158 (0 both, 1 TSA, 2 TSB). -/
def dtRaw (tsa tsb sensor tref : Nat) : Int :=
  if sensor = 0 then 2 * ((tsa : Int) + tsb) - 4 * tref else 4 * ((if sensor = 1 then tsa else tsb : Nat) - (tref : Int))

/-- t squared (R219). -/
def dt2 (t : Int) : Int := rhe (t * t) 256

/-- The FPA temperature of a tile in 1/128 K: the mean of both sensors, or the one in use (R158). -/
def State.fpaT (s : State) (n : Nat) : Nat :=
  let a := s.get (FPL_TEMPn.TSA n)
  let b := s.get (FPL_TEMPn.TSB n)
  match nth 0 s.fpl.sensor n with
  | 0 => a + b | 1 => 2 * a | _ => 2 * b

/-! ### The evaluation (R221 to R224) -/

/-- The terms that enter the evaluation (R224). -/
def terms (f : Mem) (tile tier : Nat) (c : Coef) : Coef :=
  let off := stageFor f 0x10 tile
  let gain := stageFor f 0x11 tile
  let drift := stageFor f 0x12 tile
  let c := if off then c else { c with o0 := 0, o1 := 0, o2 := 0 }
  let c := if gain then c else { c with g0 := 16384, g1 := 0 }
  if !drift then { c with o1 := 0, o2 := 0, g1 := 0 }
  else if stageParam f 0x12 0 1 = 2 ∧ tier = 0 then c else { c with o2 := 0 }

/-- The offset accumulator D (R221). -/
def accD (x : Int) (c : Coef) (t : Int) : Int := 2 ^ 20 * x - (2 ^ 20 * c.o0 + 16 * c.o1 * t + c.o2 * dt2 t)

/-- The gain factor before its range, and in it (R222). -/
def gainRaw (c : Coef) (t : Int) : Int := 1024 * c.g0 + c.g1 * t
def gainG (c : Coef) (t : Int) : Int := clampI 0 67108863 (gainRaw c t)

/-- The corrected signal y as an exact fraction (R223). -/
def corrY (x : Int) (c : Coef) (t : Int) (gain cref : Nat) : Int × Nat :=
  (accD x c t * gainG c t, 2 ^ (44 + gain - cref))

/-! ### Output formats (R225 to R229) -/

/-- A code limited to 16 bits, with −1, 0 or 1 where it was below, in or above the range (R228). -/
def limit16 (v : Int) : Nat × Int := if v < 0 then (0, -1) else if 65535 < v then (65535, 1) else (v.toNat, 0)

/-- One pixel formed (R225 to R227): 0 CORR16, 1 TEMP16, 2 RAD32. -/
def convert (fmt ped : Nat) (ts : TileSet) (y : Int × Nat) : Nat × Int :=
  match fmt with
  | 0 => limit16 (ped + rhe y.1 y.2)
  | 1 => limit16 (ts.tb + rhe (y.1 * ts.kt) (y.2 * 2 ^ 24))
  | _ =>
    let v := ofFrac b32 .nearest (qAdd (f32q ts.lb) (qMul y (f32q ts.kr))).1 (qAdd (f32q ts.lb) (qMul y (f32q ts.kr))).2
    (f32Word v, match v with | .inf true => -1 | .inf false => 1 | _ => 0)

/-- The output of an orphan (R234). -/
def orphanCode (fmt ped : Nat) : Nat := match fmt with | 0 => ped | 1 => 0 | _ => 0x7FC00001

/-- The fill of an uncovered plane point (R237). -/
def fillCode (fmt gap : Nat) : Nat := if fmt = 2 then 0x7FC00000 else gap

/-- FORMAT declared by CONVERT. -/
def imgFormat (f : Mem) : Nat := stageParam f 0x14 0 1

/-- The delivered format of a frame (R229). -/
def formatAt (f : Mem) (tier : Nat) : Nat := if imgFormat f = 2 ∧ 2 ≤ tier then 0 else imgFormat f

/-! ### Bad pixels (R232 to R235) -/

/-- A pixel is bad for a frame: its map bit, or an uncorrectable coefficient (R232, R235); with BADPIX absent every pixel is
computed from its own coefficients. -/
def badAt (f : Mem) (line : Bool) (ecc : List (Nat × Nat × Nat)) (ts : TileSet) (tile row col : Nat) : Bool :=
  stageFor f 0x13 tile && (ts.bad.contains (pixIdx line row col) || ecc.contains (tile, row, col))

/-- The 4-neighbours of a pixel inside its tile (R233). -/
def neighbours (line : Bool) (row col : Nat) : List (Nat × Nat) :=
  (if 0 < col then [(row, col - 1)] else []) ++ (if col + 1 < tileCols line then [(row, col + 1)] else []) ++
  (if !line && 0 < row then [(row - 1, col)] else []) ++ (if !line && row + 1 < tileRows line then [(row + 1, col)] else [])

/-- The raw code of a pixel of a frame, if it has one. -/
def rawAt (px : List Pix) (tile row col : Nat) : Option Int :=
  (px.find? fun p => p.tile == tile && p.row == row && p.col == col).map (·.v)

/-- The mean of exact signals. -/
def qMean (l : List (Int × Nat)) : Int × Nat :=
  let t := l.foldl qAdd (0, 1)
  (t.1, t.2 * l.length)

/-! ### What a boundary fixes of the output (R220) -/

/-- The output settings in force. -/
def State.outSet (s : State) : OutSet :=
  ⟨s.get COR_PEDESTAL.PED, s.get COR_OUT_CTRL.GAP_FILL, s.get COR_GAP_VALUE.VALUE, (List.range 8).map fun n =>
    [s.get (FPL_GEOMn_X.X n), s.get (FPL_GEOMn_Y.Y n), s.get (FPL_GEOMn_ORIENT.FLIP_X n), s.get (FPL_GEOMn_ORIENT.FLIP_Y n)]⟩

/-- The state as a frame or line sees it that took the output settings `o` at its boundary. -/
def State.asOut (s : State) (o : OutSet) : State :=
  let s := ((s.set COR_PEDESTAL.PED o.ped).set COR_OUT_CTRL.GAP_FILL o.gapFill).set COR_GAP_VALUE.VALUE o.gapValue
  (List.range o.geom.length).foldl (fun (s : State) n =>
    let g := nth [] o.geom n
    (((s.set (FPL_GEOMn_X.X n) (nth 0 g 0)).set (FPL_GEOMn_Y.Y n) (nth 0 g 1)).set (FPL_GEOMn_ORIENT.FLIP_X n) (nth 0 g 2)).set
      (FPL_GEOMn_ORIENT.FLIP_Y n) (nth 0 g 3)) s

/-- The pixels that uncorrectable coefficients of a generation have made bad (R235). -/
def State.eccOf (s : State) (gen : Nat) : List (Nat × Nat × Nat) :=
  s.cor.ecc.filterMap fun e => if e.1 = gen then some e.2 else none

/-! ### Station 5 of a frame -/

/-- What station 5 takes for one frame (R220). -/
structure Stat5 where
  image : Mem
  line : Bool
  fmt : Nat
  ped : Nat
  tier : Nat
  ecc : List (Nat × Nat × Nat)
  gains : List Nat
  temps : List (Nat × Int × Bool)
  sets : List (Nat × TileSet)
  raw : List Pix

/-- t of a tile. -/
def Stat5.t (k : Stat5) (n : Nat) : Int := ((k.temps.find? (·.1 == n)).map (·.2.1)).getD 0

/-- The exact signal of a pixel from its own coefficients. -/
def Stat5.y (k : Stat5) (tile row col : Nat) (x : Int) : Int × Nat :=
  let ts := tileSet k.sets tile
  corrY x (terms k.image tile k.tier (ts.coef (pixIdx k.line row col))) (k.t tile) (nth 0 k.gains tile) ts.cref

/-- The exact signals of a bad pixel's good neighbours (R233). -/
def Stat5.good (k : Stat5) (tile row col : Nat) : List (Int × Nat) :=
  (neighbours k.line row col).filterMap fun p =>
    if badAt k.image k.line k.ecc (tileSet k.sets tile) tile p.1 p.2 then none
    else (rawAt k.raw tile p.1 p.2).map (k.y tile p.1 p.2)

/-- The counts of one formed pixel added (R228). -/
def TileCounts.sat (c : TileCounts) (d : Int) : TileCounts :=
  { c with satLow := c.satLow + b2n (d < 0), satHigh := c.satHigh + b2n (0 < d) }

/-- One pixel through station 5 (R221 to R235). -/
def Stat5.pixel (k : Stat5) (c : TileCounts) (p : Pix) : OutPix × TileCounts :=
  let ts := tileSet k.sets p.tile
  if badAt k.image k.line k.ecc ts p.tile p.row p.col then
    match k.good p.tile p.row p.col with
    | [] => (⟨p.tile, p.row, p.col, orphanCode k.fmt k.ped, true⟩, { c with orphan := c.orphan + 1 })
    | ys =>
      let v := convert k.fmt k.ped ts (qMean ys)
      (⟨p.tile, p.row, p.col, v.1, false⟩, { c.sat v.2 with replaced := c.replaced + 1 })
  else
    let co := terms k.image p.tile k.tier (ts.coef (pixIdx k.line p.row p.col))
    let v := convert k.fmt k.ped ts (k.y p.tile p.row p.col p.v)
    let c := if gainRaw co (k.t p.tile) ≠ gainG co (k.t p.tile) then { c with gainClamp := c.gainClamp + 1 } else c
    (⟨p.tile, p.row, p.col, v.1, false⟩, c.sat v.2)

/-- The pixels of one tile through station 5. -/
def Stat5.tile (k : Stat5) (n : Nat) : List OutPix × TileCounts :=
  (k.raw.filter (·.tile == n)).foldl (fun (a : List OutPix × TileCounts) p =>
    let r := k.pixel a.2 p
    (a.1 ++ [r.1], r.2)) ([], { tile := n })

/-! ### Statistics (R239, R240) -/

/-- A value of an output pixel as a number: the code, or the exact value of its binary32. -/
def outVal (fmt v : Nat) : Int × Nat := if fmt = 2 then f32q v else (v, 1)

/-- The least and the greatest of a tile's values, compared numerically; 0 where there is none. -/
def extremes (fmt : Nat) (l : List Nat) : Nat × Nat :=
  match l with
  | [] => (0, 0)
  | a :: l => l.foldl (fun (m : Nat × Nat) v =>
      let lt := fun x y => match fmt, f32 x, f32 y with
        | 2, .inf n, .inf m => n && !m
        | 2, .inf n, _ => n
        | 2, _, .inf m => !m
        | _, _, _ => qLt (outVal fmt x) (outVal fmt y)
      (if lt v m.1 then v else m.1, if lt m.2 v then v else m.2)) (a, a)

/-- A pixel comes before another in tile raster order. -/
def OutPix.before (a b : OutPix) : Bool := decide (a.row < b.row) || (a.row == b.row && decide (a.col ≤ b.col))

/-- A pixel put in its place among pixels in raster order. -/
def rasterPut (p : OutPix) : List OutPix → List OutPix
  | [] => [p]
  | q :: l => if p.before q then p :: q :: l else q :: rasterPut p l

/-- Pixels in tile raster order (R240). -/
def rasterOrder (ps : List OutPix) : List OutPix := ps.foldr rasterPut []

/-- The sum in the form of the format: an exact integer, or binary64 term by term; an infinite term makes the sum
infinite. -/
def sumOf (fmt : Nat) (sq : Bool) (l : List Nat) : Nat :=
  if fmt = 2 then
    let infs := (l.map f32).filter fun v => !v.isFin
    match infs with
    | [] =>
      toF64 (l.foldl (fun a v => dAdd a (if sq then dMul (f32q v) (f32q v) else f32q v)) (0, 1))
    | v :: _ =>
      if sq then (FVal.inf false).word b64 11
      else if infs.all (· == v) then (match v with | .inf n => (FVal.inf n).word b64 11 | _ => FVal.nan.word b64 11)
      else FVal.nan.word b64 11
  else (l.map fun v => if sq then v * v else v).sum

/-- The statistics block of a tile (R239): `px` its output pixels after station 6. -/
def statBlock (tile fmt flags epoch tier gen : Nat) (px : List OutPix) (c : TileCounts) (t : Int) : List Nat :=
  let vs := ((rasterOrder px).filter fun p => !p.orphan).map (·.v)
  let ex := extremes fmt vs
  [tile, fmt] ++ leBytes 2 flags ++ leBytes 2 epoch ++ [tier, 0] ++ leBytes 4 gen ++ leBytes 4 vs.length ++
  leBytes 4 ex.1 ++ leBytes 4 ex.2 ++ leBytes 8 (sumOf fmt false vs) ++ leBytes 8 (sumOf fmt true vs) ++
  leBytes 4 c.satLow ++ leBytes 4 c.satHigh ++ leBytes 4 c.gainClamp ++ leBytes 4 c.replaced ++ leBytes 4 c.orphan ++
  leBytes 2 (unsigned 16 t) ++ leBytes 2 0

/-- A block repeated by a frame with SHUTTER_HOLD: HELD set, its own EPOCH, TIER and CALGEN (R240). -/
def heldBlock (b : List Nat) (epoch tier gen : Nat) : List Nat :=
  b.take 2 ++ leBytes 2 (leVal ((b.drop 2).take 2) ||| 2) ++ leBytes 2 epoch ++ [tier, 0] ++ leBytes 4 gen ++ b.drop 12

/-! ### Counters and commands -/

/-- The counts of a delivered live frame added to the registers, with the events and faults of R222 and R228. -/
def State.corCount (s : State) (c : TileCounts) : State :=
  let n := c.tile
  let s := ((s.add (COR_SATLOn.COUNT n) c.satLow).add (COR_SATHIn.COUNT n) c.satHigh).add (COR_GCLAMPn.COUNT n) c.gainClamp
  let s := (s.add (COR_REPLACEDn.COUNT n) c.replaced).add (COR_ORPHANn.COUNT n) c.orphan
  let s := if 0 < c.satLow + c.satHigh then s.set COR_EVENTS.SAT 1 else s
  let s := if 0 < c.gainClamp then s.set COR_EVENTS.GAIN_CLAMP 1 else s
  s.level (0 < c.gainClamp) 0x0602 n

/-- DT_SAT of a tile's frame counted, raised and cleared (R218). -/
def State.dtSat (s : State) (n : Nat) (sat : Bool) : State :=
  let s := if sat then (s.inc (COR_DTSATn.COUNT n)).set COR_EVENTS.DT_SAT 1 else s
  s.level sat 0x0601 n

/-- A pixel of a generation's map has no good neighbour (R234). -/
def mapOrphan (line : Bool) (ts : TileSet) : Bool :=
  ts.bad.any fun i => (neighbours line (i / tileCols line) (i % tileCols line)).all fun p =>
    ts.bad.contains (pixIdx line p.1 p.2)

/-- The offset drift order that the image and a tier apply (R224). -/
def driftOrder (f : Mem) (tier : Nat) : Nat :=
  if (stageOf f 0x10).isNone ∨ (stageOf f 0x12).isNone then 0
  else if stageParam f 0x12 0 1 = 2 ∧ tier = 0 then 2 else 1

/-- What a boundary shows of station 5: COR_DTn and the drift order, and the first frame of a generation whose map yields
orphans (R218, R224, R234). -/
def State.boundaryShow (s : State) (r : FrameRec) : State :=
  let s := r.temps.foldl (fun (s : State) e =>
    ((s.seti (COR_DTn.T e.1) e.2.1).set (COR_DTn.SENSOR e.1) (nth 0 s.fpl.sensor e.1)).setb (COR_DTn.SAT e.1) e.2.2) s
  let s := s.set COR_STATUS.ORDER (driftOrder s.image r.tier)
  if s.cor.orphanGen = some r.gen then s
  else
    let s : State := { s with cor.orphanGen := some r.gen }
    if (tilesOf s.tileMask).any fun n => mapOrphan r.line (tileSet r.set n) then s.set COR_EVENTS.ORPHAN 1 else s

/-- The registers of the generation in force (R220, COR_TREF to COR_RSCALE, COR_BAD, CAL_TILE_RESP). -/
def State.showSets (s : State) (g : List (Nat × TileSet)) : State :=
  g.foldl (fun s e =>
    let n := e.1
    let c := e.2
    let s := ((s.set (COR_TREFn.TREF n) c.tref).set (COR_TREFn.C_REF n) c.cref).set (COR_TBASEn.TB n) c.tb
    let s := ((s.set (COR_TSCALEn.KT n) c.kt).set (COR_RBASEn.LB n) c.lb).set (COR_RSCALEn.KR n) c.kr
    (s.set (COR_BADn.COUNT n) c.bad.length).set (CAL_TILEn_RESP.RESP_L n) c.respL) s

/-- COR_STATUS.STAGES and IMG_FORMAT of the active image. -/
def State.showStages (s : State) : State :=
  let f := s.image
  let has := fun k => b2n (stageOf f k).isSome
  (s.set COR_STATUS.STAGES (has 0x10 + 2 * has 0x11 + 4 * has 0x12 + 8 * has 0x13 + 16 * has 0x22 + 32 * has 0x30)).set
    COR_STATUS.IMG_FORMAT (imgFormat f)

/-- A row of the bad-pixel map as COR_BPM_WORDi shows it (R232): word `i` of the row that COR_BPM_SEL names. -/
def State.bpmWord (s : State) (i : Nat) : Nat :=
  let ts := tileSet s.cal.force.tiles (s.get COR_BPM_SEL.TILE)
  let row := s.get COR_BPM_SEL.ROW
  let cols := tileCols s.lineImage
  if row < tileRows s.lineImage then
    ((List.range 32).map fun b =>
      if 32 * i + b < cols ∧ ts.bad.contains (row * cols + 32 * i + b) then 2 ^ b else 0).sum
  else 0

/-- A write of COR_PEDESTAL, COR_OUT_CTRL or COR_GAP_VALUE (R231). -/
def corOutputWrite (addr v : Nat) (s : State) : State × WRes :=
  if s.imaging && s.sys.run then (s.set COR_EVENTS.REFUSED 1, .refuse 1 0x0C)
  else if s.sys.mode = .load then (s.set COR_EVENTS.REFUSED 1, .refuse 1 0x03)
  else if addr = 0x60004 then (s.set COR_PEDESTAL.PED v, .ok)
  else if addr = 0x60008 then (s.set COR_OUT_CTRL.GAP_FILL v, .ok)
  else if addr = 0x6000C then (s.set COR_GAP_VALUE.VALUE v, .ok)
  else (s, .refuse 1 0)

/-- COR_CLR.CLR_COUNTS (R12): the counters at 0x0100 to 0x01FC, except COR_BADn. -/
def corClrCounts (s : State) : State :=
  s.setAll ((List.range 8).flatMap fun n => [COR_SATLOn.COUNT n, COR_SATHIn.COUNT n, COR_GCLAMPn.COUNT n,
    COR_REPLACEDn.COUNT n, COR_ORPHANn.COUNT n, COR_DTSATn.COUNT n, COR_ECCn.COUNT n]) 0

/-- The generation whose coefficients station 5 reads: that of the oldest frame, or of the oldest raw line in the delay lines, that
has not left it; else the one in force. -/
def State.readGen (s : State) : Nat := ((s.swp.rows ++ s.fpl.frames).head?.map (·.gen)).getD s.cal.force.no

/-- COEF_ECC_ERROR (R235): the pixel counts as bad in the frame being made and the later ones of its generation. -/
def coefEccError (tile row col : Nat) (s : State) : State :=
  if s.cor.ecc.contains (s.readGen, tile, row, col) then s
  else (({ s with cor.ecc := (s.readGen, tile, row, col) :: s.cor.ecc }.inc (COR_ECCn.COUNT tile)).set COR_EVENTS.COEF_ECC 1).fault 0x0603 tile

def execCorOutputWrite (t addr v : Nat) (s : State) : Host.Outcome State Fault Refusal :=
  .next (State.hostWrite addr (corOutputWrite addr v) (s.at t))
def execCorClrCounts (t : Nat) (s : State) : Host.Outcome State Fault Refusal := .next (State.hostDo 0x60014 corClrCounts (s.at t))
def execCoefEccError (t tile row col : Nat) (s : State) : Host.Outcome State Fault Refusal :=
  .next (coefEccError tile row col (s.at t))

end Sys2Proof.Machine
end

