-- ==== Sys2Proof/Machine/Filt.lean ====
section
/-!
DEFINITION. Station 6: the arithmetic of XAVG (R300), SHADING (R312, R313), STITCH on a line carrier (R314 to R317),
TEMPAVG (R377) and BIN (R379, R380). Pixels are OutPix; a seam column carries tile 255.
-/
namespace Sys2Proof.Machine

/-! ### Means of delivered values (R300, R377) -/

/-- A mark of a seam column in place of a tile. -/
def seamTile : Nat := 255

/-- The mean of delivered values in their format: codes by rhe of the exact mean; binary32 rounded once, an infinite
member deciding (R300). -/
def meanOut (fmt : Nat) (vs : List Nat) : Nat :=
  if fmt = 2 then
    if vs.any (fun v => f32 v == .inf false) then 0x7F800000
    else if vs.any (fun v => f32 v == .inf true) then 0xFF800000
    else toF32 (qMean (vs.map f32q))
  else (rhe (vs.sum : Nat) vs.length).toNat

/-- Members combined under R377: the mean of those without an orphan mark, or the orphan value and mark. -/
def combine (fmt ped : Nat) (ps : List OutPix) : Nat × Bool :=
  match (ps.filter fun p => !p.orphan).map (·.v) with
  | [] => (orphanCode fmt ped, true)
  | vs => (meanOut fmt vs, false)

/-- Pixels grouped by a key in order of their first member. -/
def groupPix (key : OutPix → Nat × Nat × Nat) (ps : List OutPix) : List ((Nat × Nat × Nat) × List OutPix) :=
  (ps.map key).eraseDups.map fun k => (k, ps.filter fun p => key p == k)

/-- Every group replaced by one pixel. -/
def combineBy (fmt ped : Nat) (key : OutPix → Nat × Nat × Nat) (ps : List OutPix) : List OutPix :=
  (groupPix key ps).map fun g =>
    let c := combine fmt ped g.2
    ⟨g.1.1, g.1.2.1, g.1.2.2, c.1, c.2⟩

/-- XAVG (R300): groups of adjacent columns of one band row of one tile. -/
def xavg (fmt ped n : Nat) (ps : List OutPix) : List OutPix :=
  if n ≤ 1 then ps else combineBy fmt ped (fun p => (p.tile, p.row, p.col / n)) ps

/-- BIN on an area carrier (R379). -/
def binArea (fmt ped bx bY : Nat) (ps : List OutPix) : List OutPix :=
  if bx ≤ 1 ∧ bY ≤ 1 then ps else combineBy fmt ped (fun p => (p.tile, p.row / max 1 bY, p.col / max 1 bx)) ps

/-- The value of one position over several frames or lines, newest first (R377, R380). -/
def overFrames (fmt ped : Nat) (fs : List (List OutPix)) : List OutPix :=
  match fs with
  | [] => []
  | newest :: _ => newest.map fun p =>
      let same := fs.filterMap fun f => f.find? fun q => q.tile == p.tile && q.row == p.row && q.col == p.col
      let c := combine fmt ped same
      { p with v := c.1, orphan := c.2 }

/-! ### Image parameters of station 6 -/

/-- XAVG of BANDALIGN; 1 where it is absent. -/
def imgXavg (f : Mem) : Nat := if (stageOf f 0x23).isSome then stageParam f 0x23 0 1 else 1
/-- SPAN of SHADING. -/
def imgSpan (f : Mem) : Nat := stageParam f 0x24 0 2
/-- SEAM_MODE of STITCH on a line carrier. -/
def seamMode (f : Mem) : Nat := stageParam f 0x22 0 1
/-- Depth D of TEMPAVG; 0 where it is absent. -/
def imgDepth (f : Mem) : Nat := if (stageOf f 0x20).isSome then stageParam f 0x20 0 1 else 0
/-- BX and BY of BIN; 1 where it is absent. -/
def imgBx (f : Mem) : Nat := if (stageOf f 0x21).isSome then stageParam f 0x21 0 1 else 1
def imgBy (f : Mem) : Nat := if (stageOf f 0x21).isSome then stageParam f 0x21 1 1 else 1

/-- D_eff at a tier (R377). -/
def depthAt (f : Mem) (tier : Nat) : Nat := if tier ≤ 1 then imgDepth f else min (imgDepth f) 4

/-! ### SHADING (R312, R313) -/

/-- The reference values D and W of a column; the identity values where the tile holds none (R312). -/
def refLine (r : Option RefLines) (span xa ped band col : Nat) : Nat × Nat :=
  let idD := 256 * ped
  match r with
  | some r =>
    if r.span = span ∧ r.xavg = xa then
      let d := ((r.d.find? (·.1 == band * 4096 + col)).map (·.2)).getD idD
      (d, ((r.w.find? (·.1 == band * 4096 + col)).map (·.2)).getD (idD + 256 * span))
    else (idD, idD + 256 * span)
  | none => (idD, idD + 256 * span)

/-- A tile uses identity reference lines (R312). -/
def identityRef (r : Option RefLines) (span xa : Nat) : Bool :=
  match r with
  | some r => !(r.span == span && r.xavg == xa)
  | none => true

/-- SHADING of one code (R313), before its range. Where W equals D the quotient has no value: an open value of 16 bits. -/
def shadeRaw (ped span c d w : Nat) : Int :=
  let n : Int := span * (256 * (c : Int) - d)
  if d < w then ped + rhe n (w - d)
  else if w < d then ped + rhe (-n) (d - w)
  else (Config.shadeOpen c d % 2 ^ 16 : Nat)

/-- SHADING of a line; the count of pixels limited. -/
def shade (f : Mem) (sets : List (Nat × TileSet)) (ped : Nat) (ps : List OutPix) : List OutPix × Nat :=
  let span := imgSpan f
  let rs := ps.map fun p =>
    if p.orphan then (p, 0)
    else
      let dw := refLine (tileSet sets p.tile).refs span (imgXavg f) ped p.row p.col
      let v := limit16 (shadeRaw ped span p.v dw.1 dw.2)
      ({ p with v := v.1 }, v.2.natAbs)
  (rs.map (·.1), (rs.map (·.2)).sum)

/-! ### STITCH on a line carrier (R314 to R317) -/

/-- Tiles in ascending order of X, with X in 1/1,000 pitch. -/
def insertTile (p : Nat × Int) : List (Nat × Int) → List (Nat × Int)
  | [] => [p]
  | q :: l => if p.2 < q.2 then p :: q :: l else q :: insertTile p l

/-- The tiles of the image with X, ascending. -/
def State.tileOrder (s : State) : List (Nat × Int) :=
  ((tilesOf s.tileMask).map fun n => (n, s.geti (FPL_GEOMn_X.X n))).foldr insertTile []

/-- First output column of each tile (R314), in order; the least OFFSET of SEAM_MODE 1 stands where the carrier's
own origin puts it. -/
def lineOffsets (mode xa : Nat) (ts : List (Nat × Int)) : List (Nat × Int) :=
  (List.range ts.length).map fun k =>
    let t := nth (0, 0) ts k
    (t.1, if mode = 0 then (k * (4096 / max 1 xa) : Nat) else rhe t.2 (1000 * max 1 xa))

/-- The output column layout: tile offsets, and W_out. -/
def State.lineLayout (s : State) : List (Nat × Int) × Int :=
  let xa := imgXavg s.image
  let os := lineOffsets (seamMode s.image) xa s.tileOrder
  (os, match os.getLast? with
    | some o => o.2 + (4096 / max 1 xa : Nat)
    | none => 0)

/-- A value that gives way in a seam: an orphan, a code at a limit, an infinity (R315). -/
def givesWay (fmt : Nat) (p : OutPix) : Bool :=
  p.orphan || (if fmt = 2 then !(f32 p.v).isFin else p.v == 0 || p.v == 65535)

/-- Column `i` of a seam run of `g` columns between two pixels (R315). -/
def seamValue (fmt ped g i : Nat) (l r : OutPix) : Nat × Bool :=
  match givesWay fmt l, givesWay fmt r with
  | true, true => (orphanCode fmt ped, true)
  | true, false => (r.v, false)
  | false, true => (l.v, false)
  | false, false =>
    if fmt = 2 then
      (toF32 (qAdd (f32q l.v) (qMul ((i : Int), g + 1) (qSub (f32q r.v) (f32q l.v)))), false)
    else ((rhe ((l.v : Int) * (g + 1) + i * ((r.v : Int) - l.v)) (g + 1)).toNat, false)

/-- The seam columns between two tiles placed at `a` and `b`, in one band. -/
def seamCols (fmt ped band : Nat) (a b : Nat × Int) (w : Nat) (ps : List OutPix) : List OutPix :=
  let g := (b.2 - (a.2 + w)).toNat
  match ps.find? (fun p => p.tile == a.1 && p.row == band && p.col + 1 == w),
        ps.find? (fun p => p.tile == b.1 && p.row == band && p.col == 0) with
  | some l, some r => (List.range g).map fun i =>
      let v := seamValue fmt ped g (i + 1) l r
      ⟨seamTile, band, (a.2 + (w + i : Nat)).toNat, v.1, v.2⟩
  | _, _ => []

/-- The seams of a line over successive tiles. -/
def seams (fmt ped band w : Nat) (ps : List OutPix) : List (Nat × Int) → List OutPix
  | a :: b :: l => seamCols fmt ped band a b w ps ++ seams fmt ped band w ps (b :: l)
  | _ => []

/-- A line placed in output columns, its seams filled (R314, R315). -/
def State.stitchLine (s : State) (fmt ped : Nat) (ps : List OutPix) : List OutPix :=
  let lay := s.lineLayout.1
  let w := 4096 / max 1 (imgXavg s.image)
  let placed := ps.filterMap fun p => (lay.find? (·.1 == p.tile)).map fun o => { p with col := (o.2 + p.col).toNat }
  placed ++ (if seamMode s.image = 0 then [] else (List.range 4).flatMap fun b => seams fmt ped b w ps lay)

/-- Seam columns of one band row. -/
def seamCount (w : Nat) : List (Nat × Int) → Nat
  | a :: b :: l => (b.2 - (a.2 + w)).toNat + seamCount w (b :: l)
  | _ => 0

/-- SWP_STITCH, SWP_SHD and SWP_ALIGN registers that the image and the geometry give (R296, R312, R314). -/
def State.showLine (s : State) : State :=
  let f := s.image
  let xa := imgXavg f
  let lay := s.lineLayout
  let s := (s.set SWP_ALIGN_STATUS.XAVG xa).set SWP_ALIGN_BYTES.BYTES (48 * 8 * 4096 / max 1 xa * (if imgFormat f = 2 then 4 else 2))
  let s := if (stageOf f 0x22).isSome then
      let s := ((s.set SWP_STITCH_STATUS.SEAM_MODE (seamMode f)).set SWP_STITCH_STATUS.WIDTH lay.2.toNat).set
        SWP_STITCH_STATUS.SEAMS (seamCount (4096 / max 1 xa) lay.1)
      lay.1.foldl (fun s o => s.set (SWP_STITCH_OFFn.OFFSET o.1) o.2.toNat) s
    else s
  (s.set SWP_SHD_STATUS.SPAN (imgSpan f)).set SWP_SHD_STATUS.IDENTITY
    (((tilesOf s.tileMask).map fun n => if identityRef (tileSet s.cal.force.tiles n).refs (imgSpan f) xa then 2 ^ n else 0).sum)

/-! ### TEMPAVG (R54, R377, R378, R381) -/

/-- Header flags that combined output carries where any input did (R381): UNCAL_OFFSET, FACTORY_DRIFT,
THERMAL_UNSETTLED, SPARE_ACTIVE, REF_HOLDOVER, SEAM_FILLED. -/
def carried : Nat := 2 + 4 + 16 + 128 + 512 + 1024

/-- Union of the carried flags of inputs. -/
def unionFlags (fs : List Nat) : Nat := fs.foldl (fun a f => a ||| (f &&& carried)) 0

/-- A frame added to the history of TEMPAVG: the new history, the output pixels, and the flags with SETTLING. A
return from Tier 2 begins a new history where the depth grows again (R54). -/
def tempAvg (f : Mem) (fmt ped tier : Nat) (left : Bool) (hist : List (List OutPix × Nat)) (px : List OutPix) (flags : Nat) :
    List (List OutPix × Nat) × List OutPix × Nat :=
  let d := imgDepth f
  if d = 0 then (hist, px, flags)
  else
    let hist := if left && decide (4 < d) then [] else hist
    let hist := ((px, flags) :: hist).take d
    let win := hist.take (depthAt f tier)
    (hist, overFrames fmt ped (win.map (·.1)),
     flags ||| unionFlags (win.map (·.2)) ||| (if win.length < depthAt f tier then 1 else 0))

end Sys2Proof.Machine
end

