-- ==== Sys2Proof/Machine/Bb.lean ====
section
/-!
DEFINITION. The burst buffer (R435 to R445, R448 to R450): regions, the frame header, admission and release, capture.
-/
namespace Sys2Proof.Machine

/-! ### Routing and regions (R435, R437) -/

/-- The channel of a tile (R435). -/
def routeOf (f : Mem) (n : Nat) : Nat := secLe f 7 0 (8 + n) 1 % 16

/-- DATA_MAX (R435). -/
def dataMax (f : Mem) : Nat := secLe f 7 0 6 2

/-- The PORT_MAP section holds R435. -/
def portMapOk (f : Mem) : Bool :=
  secLen f 7 0 == 64 && secLe f 7 0 0 4 == 0x504D5054 && secLe f 7 0 4 2 == 1 && 1024 ≤ dataMax f && dataMax f ≤ 8192 &&
  dataMax f % 64 == 0 && (secBytes f 7 0 16 48).all (· == 0) &&
  (List.range 8).all fun n =>
    let b := secLe f 7 0 (8 + n) 1
    bits b 4 3 == 0 && bit b 7 == bit (hdrTileMask f) n && (bit b 7 == 1 || b == 0)

/-- Coordinates below `x` that spans of length `len` cover, from ascending origins; `e` is the end of the spans before. -/
def coverBelow (len : Nat) (x : Int) : Int → List Int → Nat
  | _, [] => 0
  | e, o :: l => (min (o + len) x - max o e).toNat + coverBelow len x (max e (o + len)) l

/-- Integers in ascending order. -/
def insertInt (x : Int) : List Int → List Int
  | [] => [x]
  | y :: l => if x ≤ y then x :: y :: l else y :: insertInt x l

/-- The place of an origin along one axis of the output plane, and the plane's length (R237): every point of the bounding
box where `all` holds, else the covered ones. -/
def axisPlace (all : Bool) (len : Nat) (os : List Int) (x : Int) : Nat :=
  let l := os.foldr insertInt []
  match l with
  | [] => 0
  | o :: _ => if all then (x - o).toNat else coverBelow len x o l

/-- The length of the output plane along one axis. -/
def axisLen (all : Bool) (len : Nat) (os : List Int) : Nat :=
  axisPlace all len os ((os.foldr max (os.headD 0)) + len)

/-- The plane of an area image in binned units (R236, R237, R379): tile width and height, and the tiles' origins. -/
structure Plane where
  w : Nat
  h : Nat
  xs : List (Nat × Int)
  ys : List (Nat × Int)
  all : Bool
  deriving DecidableEq, Repr

/-- The plane of the active area image. -/
def State.plane (s : State) : Plane :=
  let f := s.image
  let bx := imgBx f
  let bY := imgBy f
  let ts := tilesOf s.tileMask
  ⟨1280 / max 1 bx, 1024 / max 1 bY, ts.map fun n => (n, s.geti (FPL_GEOMn_X.X n) / (1000 * max 1 bx : Nat)),
   ts.map fun n => (n, s.geti (FPL_GEOMn_Y.Y n) / (1000 * max 1 bY : Nat)), s.on COR_OUT_CTRL.GAP_FILL⟩

/-- The width and height of the output plane. -/
def Plane.size (p : Plane) : Nat × Nat := (axisLen p.all p.w (p.xs.map (·.2)), axisLen p.all p.h (p.ys.map (·.2)))

/-- Regions numbered from a payload offset on. -/
def offsets (bpp : Nat) : Nat → List Region → List Region
  | _, [] => []
  | o, r :: l => { r with off := o } :: offsets bpp (o + r.w * r.h * bpp) l

/-- The regions of a STARE frame (R437), without offsets. -/
def State.areaRegions (s : State) : List Region :=
  let f := s.image
  let p := s.plane
  if (stageOf f 0x22).isSome then
    (tilesOf s.tileMask).map fun n =>
      let at_ := fun (l : List (Nat × Int)) => ((l.find? (·.1 == n)).map (·.2)).getD 0
      ⟨routeOf f n, 0, 2 ^ n, axisPlace p.all p.w (p.xs.map (·.2)) (at_ p.xs), axisPlace p.all p.h (p.ys.map (·.2)) (at_ p.ys),
       p.w, p.h, 0⟩
  else (tilesOf s.tileMask).map fun n => ⟨routeOf f n, 0, 2 ^ n, 0, 0, p.w, p.h, 0⟩

/-- Maximal runs of output columns of one channel in one band (R437): tiles with their first columns, ascending. -/
def lineRuns (f : Mem) (band width : Nat) : List (Nat × Nat) → List Region
  | [] => []
  | (n, x) :: l =>
    let stop := match l with
      | (_, y) :: _ => y
      | [] => width
    match lineRuns f band width l with
    | r :: rest =>
      if r.chan = routeOf f n then { r with tiles := r.tiles ||| 2 ^ n, x0 := x, w := r.x0 + r.w - x } :: rest
      else ⟨routeOf f n, band, 2 ^ n, x, band, stop - x, 1, 0⟩ :: r :: rest
    | [] => [⟨routeOf f n, band, 2 ^ n, x, band, stop - x, 1, 0⟩]

/-- The regions of a SWEEP line (R437), without offsets. -/
def State.lineRegions (s : State) : List Region :=
  let lay := s.lineLayout
  (List.range 4).flatMap fun b => lineRuns s.image b lay.2.toNat (lay.1.map fun o => (o.1, o.2.toNat))

/-- The regions of an entry of the active image at a pixel size. -/
def State.regionsAt (s : State) (bpp : Nat) : List Region :=
  offsets bpp 0 (if s.lineImage then s.lineRegions else s.areaRegions)

/-- Pixel bytes of regions. -/
def regionBytes (bpp : Nat) (rs : List Region) : Nat := (rs.map fun r => r.w * r.h * bpp).sum

/-- Bytes per pixel of a delivered format. -/
def bppOf (fmt : Nat) : Nat := if fmt = 2 then 4 else 2

/-- The largest share payload of a channel for the active image (R455). -/
def State.shareMax (s : State) (ch : Nat) : Nat :=
  let bpp := bppOf (imgFormat s.image)
  regionBytes bpp ((s.regionsAt bpp).filter (·.chan == ch))

/-- The value of a pixel of an entry; a pixel that no sample of the frame gave is open. -/
def pixAt (px : List OutPix) (bpp tile row col : Nat) : Nat :=
  match px.find? fun p => p.tile == tile && p.row == row && p.col == col with
  | some p => p.v
  | none => Config.freeValue 8 (row * 65536 + col) % 2 ^ (8 * bpp)

/-- The values of an area region in raster order of the plane, the flips of its tile applied (R236, R437). -/
def State.areaPixels (s : State) (px : List OutPix) (bpp : Nat) (r : Region) : List Nat :=
  let n := Nat.log2 r.tiles
  let flips := (stageOf s.image 0x22).isSome
  let fx := flips && s.on (FPL_GEOMn_ORIENT.FLIP_X n)
  let fy := flips && s.on (FPL_GEOMn_ORIENT.FLIP_Y n)
  (List.range r.h).flatMap fun y => (List.range r.w).map fun x =>
    pixAt px bpp n (if fy then r.h - 1 - y else y) (if fx then r.w - 1 - x else x)

/-- The values of a line region: output columns of one band, a seam column's tile aside. -/
def linePixels (px : List OutPix) (bpp : Nat) (r : Region) : List Nat :=
  (List.range r.w).map fun x =>
    match px.find? fun p => p.row == r.band && p.col == r.x0 + x with
    | some p => p.v
    | none => Config.freeValue 8 (r.band * 65536 + r.x0 + x) % 2 ^ (8 * bpp)

/-! ### The frame header and the region table (R448 to R450) -/

/-- What the header of an entry states beyond the module's own identity. -/
structure Head where
  kind : Nat
  fmt : Nat := 0
  no : Nat
  epoch : Nat := 0
  tier : Nat := 0
  bpp : Nat := 0
  gen : Nat := 0
  secs : Nat := 0
  ns : Nat := 0
  gap : Nat := 0
  flags : Nat := 0
  w : Nat := 0
  h : Nat := 0
  nreg : Nat := 0
  planes : Nat := 0
  statMask : Nat := 0
  fill : Nat := 0
  gains : Nat := 0
  payload : Nat := 0
  int : Nat := 0
  period : Nat := 0
  prog : Nat := 0
  tick : Nat := 0
  last : Nat := 0
  deriving DecidableEq, Repr

/-- The 128 bytes of a frame header (R448). -/
def State.headBytes (s : State) (h : Head) : List Nat :=
  let b := leBytes 4 0x44484654 ++ leBytes 2 1 ++ [h.kind, h.fmt] ++ leBytes 8 h.no ++ leBytes 2 h.epoch ++ [h.tier % 256, h.bpp] ++
    leBytes 4 h.gen ++ leBytes 6 h.secs ++ leBytes 4 h.ns ++ leBytes 2 (min 0xFFFF h.gap) ++ leBytes 4 h.flags ++ leBytes 2 h.w ++
    leBytes 2 h.h ++ [h.nreg, h.planes, s.tileMask, h.statMask] ++ leBytes 4 h.fill ++ leBytes 2 (s.get COR_PEDESTAL.PED) ++
    leBytes 2 h.gains ++ leBytes 4 h.payload ++ leBytes 4 h.int ++ leBytes 4 h.period ++ [h.prog, 0, 0, 0] ++ leBytes 8 h.tick ++
    leBytes 8 (if s.img.active.isSome then hdrImageId s.image else 0) ++ leBytes 8 Config.serial ++ leBytes 4 h.last ++
    List.replicate 24 0
  b ++ leBytes 4 (crc32 b)

/-- A region table entry (R450). -/
def regionEntry (i : Nat) (r : Region) : List Nat :=
  [i, r.chan, r.band, r.tiles] ++ leBytes 2 r.x0 ++ leBytes 2 r.y0 ++ leBytes 2 r.w ++ leBytes 2 r.h ++ leBytes 4 r.off

/-- The region table of an entry. -/
def regionTable (rs : List Region) : List Nat :=
  (List.range rs.length).flatMap fun i => match rs[i]? with
    | some r => regionEntry i r
    | none => []

/-! ### Space (R438, R439) -/

/-- Pages of an entry with a payload: a head of one page, and the payload rounded up. -/
def entryPages (payload : Nat) : Nat := 1 + ceilDiv payload 4096

/-- The registers that show the entries held. -/
def State.bbShow (s : State) : State :=
  s.set PRT_BB_STATE.ENTRIES s.prt.entries.length

/-- A capture whose entries are all released ends (R443). -/
def State.drainDone (s : State) : State :=
  if s.get PRT_BB_STATE.CAP = 3 ∧ s.prt.entries.all (fun e => !e.captured) then
    (s.set PRT_BB_STATE.CAP 0).set PRT_EVENTS.DRAIN_DONE 1
  else s

/-- Entries that satisfy `p` leave the buffer, and their pages are freed. -/
def State.bbRemove (s : State) (p : Entry → Bool) : State :=
  let gone := s.prt.entries.filter p
  let s := s.add PRT_BB_FREE.PAGES (gone.map (·.pages)).sum
  let s : State := { s with prt.entries := s.prt.entries.filter fun e => !p e }
  s.bbShow.drainDone

/-- ENTRY_RELEASE (R444): complete entries whose shares are all finished. -/
def State.bbRelease (s : State) : State := s.bbRemove fun e => e.complete && e.shares.isEmpty

/-! ### Capture (R443) -/

/-- DRAINING begins. -/
def State.drainBegin (s : State) : State :=
  ({ s.set PRT_BB_STATE.CAP 3 with prt.stopDue := false }).drainDone

/-- CAPTURE_START: the first boundary at least 50 µs after the ARM, in RUN; `b` is the boundary's instant. -/
def State.captureBegin (s : State) (b : Nat) : State :=
  if s.get PRT_BB_STATE.CAP = 1 ∧ s.sys.run ∧ s.prt.armAt + 50 * us ≤ b then
    (s.set PRT_BB_STATE.CAP 2).set PRT_BB_CAPTURED.COUNT 0
  else s

/-- What a boundary does to the capture before its entry is judged. -/
def State.captureBoundary (s : State) (b : Nat) : State :=
  if s.get PRT_BB_STATE.CAP = 2 ∧ s.prt.stopDue then s.drainBegin else s.captureBegin b

/-- RUN ends (R443; "RUN ending during ARMED"). -/
def State.captureRunEnd (s : State) : State :=
  match s.get PRT_BB_STATE.CAP with
  | 1 => s.set PRT_BB_STATE.CAP 0
  | 2 => s.drainBegin
  | _ => s

/-- The instant of the newest boundary lies in the present REFTICK. -/
def State.atBoundary (s : State) : Bool := s.fpl.lastB == some (16 * s.tick)

/-- CAPTURE_START and DRAIN_START where they come by themselves: at a boundary. -/
def captureStart (s : State) : State := if s.atBoundary then s.captureBegin (16 * s.tick) else s

def drainStart (s : State) : State :=
  if s.get PRT_BB_STATE.CAP = 2 ∧ ((s.prt.stopDue ∧ s.atBoundary) ∨ ¬ s.sys.run ∨
      (s.get PRT_BB_CAP_FRAMES.COUNT ≠ 0 ∧ s.get PRT_BB_CAP_FRAMES.COUNT ≤ s.get PRT_BB_CAPTURED.COUNT)) then
    s.drainBegin
  else s

/-- BB_ARM (R443): in CAPTURE_THEN_DRAIN, in IDLE, in READY or RUN. -/
def bbArm (s : State) : State × WRes :=
  if !s.imaging then (s, .refuse 1 0x03)
  else if s.get PRT_BB_CTRL.MODE ≠ 2 ∨ s.get PRT_BB_STATE.CAP ≠ 0 then (s, .refuse 1 0)
  else ({ s.set PRT_BB_STATE.CAP 1 with prt.armAt := s.now, prt.stopDue := false }, .ok)

/-- BB_STOP (R443). -/
def bbStop (s : State) : State × WRes :=
  match s.get PRT_BB_STATE.CAP with
  | 1 => (s.set PRT_BB_STATE.CAP 0, .ok)
  | 2 => ({ s with prt.stopDue := true }, .ok)
  | _ => (s, .ok)

/-- PRT_BB_CTRL_WRITE (R442): outside RUN while CAP is IDLE; LIVE_DEPTH 1 to 63, MODE 0 to 2. -/
def bbCtrlWrite (v : Nat) (s : State) : State × WRes :=
  s.loadGuard fun s =>
  if PRT_BB_CTRL.MODE.ofWord v = 3 ∨ PRT_BB_CTRL.LIVE_DEPTH.ofWord v = 0 then (s, .refuse 1 0x0D)
  else if s.sys.run then (s, .refuse 1 0x0C)
  else if s.get PRT_BB_STATE.CAP ≠ 0 then (s, .refuse 1 0)
  else ((s.set PRT_BB_CTRL.MODE (PRT_BB_CTRL.MODE.ofWord v)).set PRT_BB_CTRL.LIVE_DEPTH (PRT_BB_CTRL.LIVE_DEPTH.ofWord v), .ok)

/-! ### Admission (R440 to R443) -/

/-- The channels that hold a share of an entry with regions on the channels `cs`; a scan record goes to every enabled
channel (R437). -/
def State.shareChans (s : State) (kind : Nat) (cs : List Nat) : List Nat :=
  if kind = 3 then (List.range 16).filter fun c => s.on (PRT_CHn_CTRL.EN c) else cs.eraseDups

/-- An entry is admitted: its pages reserved, the shares of channels that are off discarded (R436). -/
def State.bbTake (s : State) (no kind pages : Nat) (captured : Bool) : State :=
  let f := s.image
  let cs := s.shareChans kind ((tilesOf s.tileMask).map (routeOf f))
  let off := cs.filter fun c => !s.on (PRT_CHn_CTRL.EN c)
  let s := off.foldl (fun s c => s.inc (PRT_CHn_OFF_DISCARD.COUNT c)) s
  let s := s.set PRT_BB_FREE.PAGES (s.get PRT_BB_FREE.PAGES - pages)
  let e : Entry := { no := no, kind := kind, pages := pages, captured := captured, shares := cs.filter fun c => s.on (PRT_CHn_CTRL.EN c) }
  let s : State := { s with prt.entries := s.prt.entries ++ [e], prt.newest := no, prt.gap := 0, prt.overrun := false }
  s.bbShow.unfault 0x0C21

/-- An entry refused for space: an overrun (R442). -/
def State.bbOverrun (s : State) : State :=
  let first := !s.prt.overrun
  let s : State := { (s.inc PRT_BB_DROP_COUNT.COUNT).set PRT_EVENTS.OVERRUN 1 with prt.overrun := true, prt.gap := s.prt.gap + 1 }
  let s := if first then s.fault 0x0C21 else s
  if s.get PRT_BB_STATE.CAP = 2 then s.drainBegin else s

/-- The decision on an entry (R440 to R443): the state after it, whether it is admitted, and its PREV_GAP. -/
def State.takeIn (s : State) (no kind payload : Nat) : State × Bool × Nat :=
  let pages := entryPages payload
  let cap := s.get PRT_BB_STATE.CAP
  let live := s.get PRT_BB_CTRL.MODE == 0 || (s.get PRT_BB_CTRL.MODE == 2 && cap != 2)
  let gap := s.prt.gap
  if cap = 3 then ({ s.inc PRT_BB_POSTCAP_COUNT.COUNT with prt.gap := gap + 1 }, false, 0)
  else if s.get PRT_BB_FREE.PAGES < pages then (s.bbOverrun, false, 0)
  else if live && decide (s.get PRT_BB_CTRL.LIVE_DEPTH ≤ s.prt.entries.length) then
    ({ s.inc PRT_BB_LIVE_DROP.COUNT with prt.gap := gap + 1 }, false, 0)
  else
    let s := s.bbTake no kind pages (cap == 2)
    let s := if cap = 2 then
        let s := s.inc PRT_BB_CAPTURED.COUNT
        if s.get PRT_BB_CAP_FRAMES.COUNT ≠ 0 ∧ s.get PRT_BB_CAP_FRAMES.COUNT ≤ s.get PRT_BB_CAPTURED.COUNT then s.drainBegin else s
      else s
    (s, true, gap)

/-- An admitted entry that a loss of lock cut (R47) leaves the buffer. -/
def State.bbCut (s : State) (no : Nat) : State := s.bbRemove fun e => e.no == no && !e.complete

/-- An admitted entry is complete: its content stands in the buffer. -/
def State.bbFill (s : State) (no : Nat) (f : Entry → Entry) : State :=
  let s : State := { s with prt.entries := s.prt.entries.map fun e => if e.no = no ∧ ¬ e.complete then { f e with complete := true } else e }
  s.bbRelease

/-- A channel that restarts with the next entry admitted; the PSN goes on after the last packet sent. -/
def ChanS.restart (c : ChanS) : ChanS :=
  { c with cur := none, idx := 0, resend := false, psn0 := (c.psn0 + c.sent) % 2 ^ 24, pkt := 0, sent := 0, acked := 0,
           attempts := 0, timerAt := none }

/-- Every entry discarded, and their count (R142, R445). -/
def State.bbDiscard (s : State) : State × Nat :=
  let n := (s.prt.entries.filter fun e => !e.shares.isEmpty || !e.complete).length
  let s : State := { s with prt.chans := s.prt.chans.map ChanS.restart }
  (s.bbRemove fun _ => true, n)

/-- BB_FLUSH (R445). -/
def bbFlush (s : State) : State × WRes :=
  if s.sys.run then (s, .refuse 1 0x0C)
  else
    let r := s.bbDiscard
    (r.1.add PRT_BB_FLUSH_COUNT.COUNT r.2, .ok)

def execBbArm (t : Nat) (s : State) : Host.Outcome State Fault Refusal := .next (State.hostWrite 0xC0008 bbArm (s.at t))
def execBbStop (t : Nat) (s : State) : Host.Outcome State Fault Refusal := .next (State.hostWrite 0xC0008 bbStop (s.at t))
def execBbFlush (t : Nat) (s : State) : Host.Outcome State Fault Refusal := .next (State.hostWrite 0xC0008 bbFlush (s.at t))
def execPrtBbCtrlWrite (t v : Nat) (s : State) : Host.Outcome State Fault Refusal :=
  .next (State.hostWrite 0xC0000 (bbCtrlWrite v) (s.at t))
def execCaptureStart (t : Nat) (s : State) : Host.Outcome State Fault Refusal := .next (captureStart (s.at t))
def execDrainStart (t : Nat) (s : State) : Host.Outcome State Fault Refusal := .next (drainStart (s.at t))

end Sys2Proof.Machine
end

