-- ==== Sys2Proof/Machine/Oper.lean ====
section
/-!
DEFINITION. The operation slots (R481 to R489): the refusals of a command, its acceptance, its result window, and the
outcome that OP_FINAL_STATE makes final.
-/
namespace Sys2Proof.Machine

/-- The commands of the catalogue (R487). -/
def opCodes : List Nat :=
  [0x0201, 0x0202, 0x0203, 0x0204, 0x0401, 0x0701, 0x0702, 0x0901, 0x0E01, 0x0E02, 0x0E03, 0x0E04, 0x0E05]

/-- The resources of an operation (R487): 0 A, 1 N, 2 S, 3 V, 4 P. -/
def opResources (cmd arg0 arg1 : Nat) : List Nat :=
  match cmd with
  | 0x0201 => if arg0 = 4 then [2] else []
  | 0x0202 => if arg0 = 4 then [0, 2] else [0]
  | 0x0203 => if arg1 = 0 then [1, 2] else [1]
  | 0x0204 => [1]
  | 0x0401 => [0, 1, 2]
  | 0x0701 => [0, 1]
  | 0x0702 => [0, 1]
  | 0x0901 => [3]
  | 0x0E01 => [0, 1, 2]
  | 0x0E02 => [0, 1]
  | 0x0E03 => [4]
  | 0x0E04 => [1]
  | 0x0E05 => [1]
  | _ => []

/-- The modes that accept an operation. -/
def State.opModeOk (s : State) (cmd : Nat) : Bool :=
  let quar := s.sys.mode == .quarantine
  match cmd with
  | 0x0201 => s.imaging || quar || s.sys.mode == .characterise
  | 0x0202 => s.imaging || quar
  | 0x0203 => s.imaging || quar
  | 0x0204 => s.imaging || quar
  | 0x0701 => s.ready
  | 0x0702 => s.ready
  | 0x0901 => s.imaging || quar || s.sys.mode == .characterise
  | 0x0E03 => true
  | _ => s.ready || quar

/-- The operation changes the mode (R488). -/
def opChangesMode (cmd : Nat) : Bool := cmd == 0x0202 || cmd == 0x0701 || cmd == 0x0E01 || cmd == 0x0E02

/-- Below White or moving (REASON POWER of R470). -/
def State.notWhite (s : State) : Bool := s.get PWR_STATUS.STATE ≠ 0 || s.on PWR_STATUS.MOVING

/-- A live operation shares a resource with the command (R487). -/
def State.opConflict (s : State) (cmd arg0 arg1 : Nat) : Bool :=
  (List.range 8).any fun k =>
    s.slotLive k && !(cmd == 0x0901 && s.get (OP_CMD.CMD k) == 0x0901) &&
    (opResources (s.get (OP_CMD.CMD k)) (s.get (OP_ARG0.ARG k)) (s.get (OP_ARG1.ARG k))).any fun r =>
      (opResources cmd arg0 arg1).contains r

/-- The refusals common to all operations, in the order of R487: STATUS and REASON. The recovery loader knows FW_WRITE alone
(R502). -/
def State.opRefusal (s : State) (slot cmd : Nat) : Option (Nat × Nat) :=
  if s.slotLive slot then some (2, 0)
  else if s.sys.recovery && cmd != 0x0E01 then some (1, 0x03)
  else if !opCodes.contains cmd then some (1, 0x0D)
  else if !s.sys.up && !(cmd == 0x0E01 && s.sys.recovery) then some (1, 0x05)
  else if s.notWhite then some (1, 0x06)
  else if !s.opModeOk cmd then some (1, 0x03)
  else if opChangesMode cmd && s.sys.changing then some (1, 0x04)
  else if s.opConflict cmd (s.get (OP_ARG0.ARG slot)) (s.get (OP_ARG1.ARG slot)) then some (1, 0x10)
  else none

/-- Slot data changed. -/
def State.opMod (s : State) (slot : Nat) (f : OpX → OpX) : State :=
  { s with ops.slots := modNth f s.ops.slots slot }

/-- Slot data. -/
def State.opx (s : State) (slot : Nat) : OpX := nth {} s.ops.slots slot

/-- An accepted command (R481), in the state QUEUED (1) or RUNNING (2), with the bound of its duration. -/
def State.opAccept (s : State) (sess slot cmd st bound : Nat) : State :=
  let s := (List.range 48).foldl (fun s w => s.set (OP_RESULT_w.WORD slot w) 0) s
  let s := ((s.set (OP_CMD.CMD slot) cmd).set (OP_STATUS.STATE slot) st).set (OP_STATUS.ABORT_REQ slot) 0
  let s := ((s.set (OP_STATUS.PARTIAL slot) 0).set (OP_STATUS.ABORT_LATE slot) 0).set (OP_STATUS.PROGRESS slot) 0
  let s := (s.inc (OP_STATUS.GEN slot)).set (OP_SESSION.SESSION slot) sess
  let s := s.set64 (OP_START_TICK_LO.TICK slot) (OP_START_TICK_HI.TICK slot) s.tick
  let s := { s with ops.count := s.ops.count + 1 }
  s.opMod slot fun _ => { order := s.ops.count, sess := sess, bound := bound }

/-- A result word written (R484). -/
def State.result (s : State) (slot w v : Nat) : State :=
  (s.set (OP_RESULT_w.WORD slot w) v).set (OP_STATUS.PARTIAL slot) 1

/-- Result words written from word `w` on. -/
def State.results (s : State) (slot w : Nat) : List Nat → State
  | [] => s
  | v :: vs => (s.result slot w v).results slot (w + 1) vs

/-- The outcome of an operation is decided; OP_FINAL_STATE makes it final. -/
def State.opEnd (s : State) (slot outcome : Nat) : State :=
  s.opMod slot fun x => { x with outcome := some outcome }

/-- A failed check: result word 0 holds the reason, and the operation is to end FAILED. -/
def State.opFail (s : State) (slot reason : Nat) : State := (s.result slot 0 reason).opEnd slot 4

/-- A live slot that runs a command and whose outcome is not decided. -/
def State.slotOf (s : State) (cmd : Nat) : Option Nat :=
  (List.range 8).find? fun k => s.get (OP_STATUS.STATE k) == 2 && s.get (OP_CMD.CMD k) == cmd && (s.opx k).outcome.isNone

/-- PROGRESS as it reads (R483). -/
def State.progress (s : State) (slot : Nat) : Nat :=
  let b := (s.opx slot).bound
  if s.get (OP_STATUS.STATE slot) = 2 ∧ b ≠ 0 then
    let start := 16 * s.get64 (OP_START_TICK_LO.TICK slot) (OP_START_TICK_HI.TICK slot)
    max (s.get (OP_STATUS.PROGRESS slot)) (min 999 ((s.now - start) * 1000 / b))
  else s.get (OP_STATUS.PROGRESS slot)

/-- PROGRESS raised, below 1,000. -/
def State.setProgress (s : State) (slot v : Nat) : State :=
  s.set (OP_STATUS.PROGRESS slot) (max (s.get (OP_STATUS.PROGRESS slot)) (min 999 v))

/-- The final state of a slot (R482 to R484), without what the operation's end does to the module. -/
def State.opFinal (s : State) (slot outcome : Nat) : State :=
  let live := s.get (OP_STATUS.STATE slot)
  let s := s.set (OP_STATUS.PROGRESS slot) (if outcome = 3 then 1000 else s.progress slot)
  let s := s.set (OP_STATUS.PARTIAL slot) (if outcome = 4 then 1 else if outcome = 5 then b2n (live == 2) else 0)
  let late := (s.opx slot).late && outcome == 3
  let s := (s.set (OP_STATUS.STATE slot) outcome).setb (OP_STATUS.ABORT_LATE slot) late
  let s := s.set OPS_EVENTS.END (s.get OPS_EVENTS.END ||| 2 ^ slot)
  let s := if late then s.set OPS_EVENTS.LATE (s.get OPS_EVENTS.LATE ||| 2 ^ slot) else s
  let s := s.set64 (OP_END_TICK_LO.TICK slot) (OP_END_TICK_HI.TICK slot) s.tick
  s.opMod slot fun x => { x with outcome := none }

/-- The arguments of a command written to its slot, where the slot is free (R481). -/
def State.opArgs (s : State) (slot : Nat) (a0 a1 a2 a3 : Option Nat) : State :=
  if s.slotLive slot then s else
    let put := fun (s : State) (f : Fld) (v : Option Nat) => match v with | some v => s.set f v | none => s
    put (put (put (put s (OP_ARG0.ARG slot) a0) (OP_ARG1.ARG slot) a1) (OP_ARG2.ARG slot) a2) (OP_ARG3.ARG slot) a3

/-- Argument `i` of a slot. -/
def State.opArg (s : State) (slot i : Nat) : Nat :=
  s.get (if i = 0 then OP_ARG0.ARG slot else if i = 1 then OP_ARG1.ARG slot else if i = 2 then OP_ARG2.ARG slot
    else OP_ARG3.ARG slot)

/-- A write to OP_CMD with the checks of the operation's chapter, and its start. -/
def State.opStart (s : State) (slot cmd : Nat) (check : State → Option (Nat × Nat)) (start : State → State) : State × WRes :=
  match s.opRefusal slot cmd with
  | some r => (s, .refuse r.1 r.2)
  | none =>
    match check s with
    | some r => (s, .refuse r.1 r.2)
    | none => (start s, .ok)

/-- OP_CMD's address. -/
def opAddr (slot : Nat) : Nat := 0xD0100 + 0x100 * slot

end Sys2Proof.Machine
end

