-- ==== Sys2Proof/Machine/Arith.lean ====
section
/-!
DEFINITION. The arithmetic of the solver array (chapter 12, R325 to R344): binary32 words, every operation rounded
once, with the flags it raises.
-/
namespace Sys2Proof.Machine

/-- The flag word of R338: INVALID, DIVZERO, OVERFLOW, UNDERFLOW, INEXACT, PIVOT_TINY. -/
def flV : Nat := 1
def flZ : Nat := 2
def flO : Nat := 4
def flU : Nat := 8
def flI : Nat := 16
def flP : Nat := 32

/-- An ARITH word read (R331). -/
structure Arith where
  rm : RMode := .nearest
  ftz : Bool := false
  daz : Bool := false
  deriving DecidableEq, Repr

/-- The fields of an ARITH word (R331). -/
def Arith.ofWord (w : Nat) : Arith :=
  { rm := (match w % 4 with | 0 => .nearest | 1 => .zero | 2 => .up | _ => .down)
    ftz := bit w 2 == 1, daz := bit w 3 == 1 }

/-! ### Words -/

def wMag (w : Nat) : Nat := w % 2 ^ 31
def wNeg (w : Nat) : Bool := bit w 31 == 1
def wIsNan (w : Nat) : Bool := decide (0x7F800000 < wMag w)
def wIsSnan (w : Nat) : Bool := wIsNan w && bit w 22 == 0
def wIsInf (w : Nat) : Bool := wMag w == 0x7F800000
def wIsZero (w : Nat) : Bool := wMag w == 0
/-- A NaN with its quiet bit set. -/
def wQuiet (w : Nat) : Nat := w ||| 0x400000
/-- The canonical quiet NaN (R336). -/
def wCanon : Nat := 0x7FC00000
def wZero (neg : Bool) : Nat := if neg then 0x80000000 else 0
def wInf (neg : Bool) : Nat := wZero neg + 0x7F800000
/-- NEG and ABS (R330): bits only. -/
def fNeg (w : Nat) : Nat := if wNeg w then w % 2 ^ 31 else w % 2 ^ 31 + 2 ^ 31
def fAbs (w : Nat) : Nat := wMag w

/-- An operand as read under DAZ (R334). -/
def Arith.rd (a : Arith) (w : Nat) : Nat :=
  if a.daz && decide (wMag w < 0x800000) then wZero (wNeg w) else w

/-- A nonzero exact result rounded once (R325, R332, R333, R337). -/
def Arith.fin (a : Arith) (neg : Bool) (num den : Nat) : Nat × Nat :=
  let wide := (roundQ ⟨24, -2000, 2000⟩ a.rm neg num den).1.q
  let tiny := decide (wide.1.natAbs * 2 ^ 126 < wide.2)
  let r := roundQ b32 a.rm neg num den
  if tiny && a.ftz then (wZero neg, flU + flI)
  else (f32Word r.1, if r.2.overflow then flO + flI else if r.2.inexact then (if tiny then flU + flI else flI) else 0)

/-- The NaN that operands propagate, with its flag (R336). -/
def nanOf (ws : List Nat) : Option (Nat × Nat) :=
  match ws.find? wIsNan with
  | some w => some (wQuiet w, if ws.any wIsSnan then flV else 0)
  | none => none

/-! ### Operations (R327) -/

/-- FMA a, b, c. -/
def Arith.fma (ar : Arith) (a b c : Nat) : Nat × Nat :=
  let a := ar.rd a
  let b := ar.rd b
  let c := ar.rd c
  if (wIsInf a && wIsZero b) || (wIsZero a && wIsInf b) then (if wIsNan c then wQuiet c else wCanon, flV)
  else match nanOf [a, b, c] with
  | some r => r
  | none =>
    let ps := wNeg a != wNeg b
    if wIsInf a || wIsInf b then (if wIsInf c && wNeg c != ps then (wCanon, flV) else (wInf ps, 0))
    else if wIsInf c then (c, 0)
    else
      let p := qMul (f32q a) (f32q b)
      let t := qAdd p (f32q c)
      if t.1 = 0 then
        (if wIsZero c && p.1 == 0 && ps == wNeg c then wZero ps else wZero (ar.rm == .down), 0)
      else ar.fin (decide (t.1 < 0)) t.1.natAbs t.2

/-- ADD a, b: a product with 1 is exact. -/
def Arith.add (ar : Arith) (a b : Nat) : Nat × Nat := ar.fma 0x3F800000 a b

/-- SUB a, b. -/
def Arith.sub (ar : Arith) (a b : Nat) : Nat × Nat :=
  match nanOf [a, b] with
  | some r => r
  | none => ar.add a (fNeg b)

/-- MUL a, b: an added zero of the product's sign changes nothing. -/
def Arith.mul (ar : Arith) (a b : Nat) : Nat × Nat := ar.fma a b (wZero (wNeg a != wNeg b))

/-- DIV a, b. -/
def Arith.div (ar : Arith) (a b : Nat) : Nat × Nat :=
  let a := ar.rd a
  let b := ar.rd b
  let s := wNeg a != wNeg b
  match nanOf [a, b] with
  | some r => r
  | none =>
    if (wIsInf a && wIsInf b) || (wIsZero a && wIsZero b) then (wCanon, flV)
    else if wIsInf a then (wInf s, 0)
    else if wIsInf b || wIsZero a then (wZero s, 0)
    else if wIsZero b then (wInf s, flZ)
    else
      let q := qDiv (f32q a) (f32q b)
      ar.fin s q.1.natAbs q.2

/-- SQRT a. -/
def Arith.sqrt (ar : Arith) (a : Nat) : Nat × Nat :=
  let a := ar.rd a
  match nanOf [a] with
  | some r => r
  | none =>
    if wIsZero a then (a, 0)
    else if wNeg a then (wCanon, flV)
    else if wIsInf a then (a, 0)
    else
      let q := f32q a
      let r := sqrtFrac q.1.natAbs q.2
      ar.fin false r.1 r.2

/-- RSQRT a. -/
def Arith.rsqrt (ar : Arith) (a : Nat) : Nat × Nat :=
  let a := ar.rd a
  match nanOf [a] with
  | some r => r
  | none =>
    if wIsZero a then (wInf (wNeg a), flZ)
    else if wNeg a then (wCanon, flV)
    else if wIsInf a then (0, 0)
    else
      let q := f32q a
      let r := sqrtFrac q.2 q.1.natAbs
      ar.fin false r.1 r.2

/-- CVT_I2F of a 32-bit word (R329). -/
def Arith.i2f (ar : Arith) (w : Nat) : Nat × Nat :=
  let i := signed 32 w
  if i = 0 then (0, 0) else ar.fin (decide (i < 0)) i.natAbs 1

/-- A fraction rounded to an integer under a mode. -/
def roundInt (rm : RMode) (q : Int × Nat) : Int :=
  match rm with
  | .nearest => rhe q.1 q.2
  | .zero => if q.1 < 0 then -(q.1.natAbs / q.2 : Nat) else (q.1.natAbs / q.2 : Nat)
  | .up => -((-q.1) / (q.2 : Int))
  | .down => q.1 / (q.2 : Int)

/-- CVT_F2I (R329): a 32-bit word. -/
def Arith.f2i (ar : Arith) (w : Nat) : Nat × Nat :=
  let a := ar.rd w
  let out : Nat × Nat := (if wIsNan a || wNeg a then 0x80000000 else 0x7FFFFFFF, flV)
  if wIsNan a || wIsInf a then out
  else
    let q := f32q a
    let i := roundInt ar.rm q
    if i < -2 ^ 31 ∨ 2 ^ 31 - 1 < i then out
    else (unsigned 32 i, if i * q.2 = q.1 then 0 else flI)

/-- The order of two numbers for MIN and MAX: −0 below +0 (R330). -/
def wOrder (a b : Nat) : Bool :=
  if wNeg a then (if wNeg b then decide (wMag b ≤ wMag a) else true)
  else if wNeg b then false else decide (wMag a ≤ wMag b)

/-- MIN and MAX (R330). -/
def Arith.minMax (ar : Arith) (wantMax : Bool) (a b : Nat) : Nat × Nat :=
  let a := ar.rd a
  let b := ar.rd b
  if wIsSnan a || wIsSnan b then (wCanon, flV)
  else if wIsNan a then (if wIsNan b then wQuiet a else b, 0)
  else if wIsNan b then (a, 0)
  else (if wOrder a b != wantMax then a else b, 0)

def Arith.min (ar : Arith) (a b : Nat) : Nat × Nat := ar.minMax false a b
def Arith.max (ar : Arith) (a b : Nat) : Nat × Nat := ar.minMax true a b

/-- CMP_EQ, CMP_LT and CMP_LE (R330): the predicate and its flag. -/
def Arith.cmpEq (ar : Arith) (a b : Nat) : Bool × Nat :=
  let a := ar.rd a
  let b := ar.rd b
  (!wIsNan a && !wIsNan b && ((wIsZero a && wIsZero b) || a == b), if wIsSnan a || wIsSnan b then flV else 0)

/-- `a` is at most `b`, neither being a NaN; the zeros are equal. -/
def wLe (a b : Nat) : Bool := (wIsZero a && wIsZero b) || wOrder a b

def Arith.cmpLe (ar : Arith) (a b : Nat) : Bool × Nat :=
  let a := ar.rd a
  let b := ar.rd b
  if wIsNan a || wIsNan b then (false, flV) else (wLe a b, 0)

def Arith.cmpLt (ar : Arith) (a b : Nat) : Bool × Nat :=
  let a := ar.rd a
  let b := ar.rd b
  if wIsNan a || wIsNan b then (false, flV) else (!wLe b a, 0)

/-- The pivot test of R343: accepted or not, and its flags. -/
def Arith.pivot (ar : Arith) (tau p : Nat) (chol : Bool) : Bool × Nat :=
  let p := ar.rd p
  if wIsNan p then (false, flV)
  else if wLe (fAbs p) (fAbs tau) then (false, flP)
  else (!(chol && wNeg p), 0)

/-- The pivot ratio of R344 from the least and the greatest accepted magnitude. -/
def pivotRatio : Option (Nat × Nat) → Nat
  | none => 0
  | some (lo, hi) => (Arith.div { rm := .zero } lo hi).1

/-- The accepted magnitudes with one more pivot. -/
def notePivot (ar : Arith) (p : Nat) : Option (Nat × Nat) → Option (Nat × Nat)
  | none => some (fAbs (ar.rd p), fAbs (ar.rd p))
  | some (lo, hi) => some (Nat.min lo (fAbs (ar.rd p)), Nat.max hi (fAbs (ar.rd p)))

end Sys2Proof.Machine
end

