-- ==== Sys2Proof/Machine/Solve.lean ====
section
/-!
DEFINITION. The job kinds of the solver (R350 to R362): every operation in its order, on one system. An evaluation
may be cut after a number of operations (R340, R367); the operations after the cut are not begun.
-/
namespace Sys2Proof.Machine

/-- An evaluation in progress: operations still to complete (none: no cut), flags, and whether the cut has come. -/
structure Ev where
  left : Option Nat := none
  fl : Nat := 0
  cut : Bool := false
  deriving DecidableEq, Repr

/-- One operation with its result and flags (R338, R340). -/
def evOp {α : Type} (r : α × Nat) : StateM Ev α := fun e =>
  match e.left with
  | none => (r.1, { e with fl := e.fl ||| r.2 })
  | some 0 => (r.1, { e with cut := true })
  | some (n + 1) => (r.1, { e with left := some n, fl := e.fl ||| r.2 })

/-- The cut has come. -/
def evCut : StateM Ev Bool := fun e => (e.cut, e)

/-- The cut has come, or comes now: no further operation begins. -/
def evDue : StateM Ev Bool := fun e => if e.left == some 0 then (true, { e with cut := true }) else (e.cut, e)

/-- The parameters of a solve. -/
structure SolPar where
  ar : Arith := {}
  tau : Nat := 0
  refine : Nat := 0
  deriving DecidableEq, Repr

/-- c − Σ a_j × b_j (R328). -/
def subSum (ar : Arith) (c : Nat) (ts : List (Nat × Nat)) : StateM Ev Nat :=
  ts.foldlM (fun r (t : Nat × Nat) => evOp (ar.fma (fNeg t.1) t.2 r)) c

/-- Σ a_j × b_j (R328). -/
def plainSum (ar : Arith) (ts : List (Nat × Nat)) : StateM Ev Nat :=
  ts.foldlM (fun r (t : Nat × Nat) => evOp (ar.fma t.1 t.2 r)) 0

/-! ### Factors -/

/-- A factor by columns: each a list of (row, value), the diagonal first; the accepted pivots; a failed column. -/
structure Fac where
  cols : List (List (Nat × Nat)) := []
  piv : Option (Nat × Nat) := none
  fail : Bool := false
  deriving DecidableEq, Repr

/-- Entry (i, j) of a factor, where the pattern has it. -/
def Fac.ent (f : Fac) (i j : Nat) : Option Nat := ((nth [] f.cols j).find? fun e => e.1 == i).map (·.2)

/-- L_Kj and L_ij for the columns j below K that hold both (R350, R362). -/
def Fac.terms (f : Fac) (i k : Nat) : List (Nat × Nat) :=
  (List.range k).filterMap fun j =>
    match f.ent i j, f.ent k j with
    | some a, some b => some (a, b)
    | _, _ => none

/-- The columns of a left-looking Cholesky factor from column `k` on; `pat k` lists the rows above the diagonal of
column `k` in ascending order (R350, R362). -/
def cholCols (p : SolPar) (a : Nat → Nat → Nat) (pat : Nat → List Nat) : (n k : Nat) → Fac → StateM Ev Fac
  | 0, _, f => pure f
  | n + 1, k, f => do
    let d ← subSum p.ar (a k k) (f.terms k k)
    let ok ← evOp (p.ar.pivot p.tau d true)
    if ← evCut then return f
    if !ok then return { f with fail := true }
    let lkk ← evOp (p.ar.sqrt d)
    let rows ← (pat k).mapM fun i => do
      let r ← subSum p.ar (a i k) (f.terms i k)
      let v ← evOp (p.ar.div r lkk)
      return (i, v)
    if ← evCut then return { f with piv := notePivot p.ar d f.piv }
    cholCols p a pat n (k + 1) { f with cols := f.cols ++ [(k, lkk) :: rows], piv := notePivot p.ar d f.piv }

/-- L y = b, for i ascending (R350). -/
def forwardSub (ar : Arith) (f : Fac) (b : List Nat) : StateM Ev (List Nat) :=
  (List.range b.length).foldlM (init := []) fun y i => do
    let ts := (List.range i).filterMap fun j => (f.ent i j).map fun l => (l, nth 0 y j)
    let r ← subSum ar (nth 0 b i) ts
    let v ← evOp (ar.div r ((f.ent i i).getD 0))
    return y ++ [v]

/-- Lᵀ x = y, for i descending (R350). -/
def backSub (ar : Arith) (f : Fac) (y : List Nat) : StateM Ev (List Nat) :=
  let n := y.length
  (List.range n).foldlM (init := List.replicate n 0) fun x d => do
    let i := n - 1 - d
    let ts := (List.range (n - 1 - i)).filterMap fun k => (f.ent (i + 1 + k) i).map fun l => (l, nth 0 x (i + 1 + k))
    let r ← subSum ar (nth 0 y i) ts
    let v ← evOp (ar.div r ((f.ent i i).getD 0))
    return x.set i v

/-- Both substitutions with a Cholesky factor. -/
def cholSolve (ar : Arith) (f : Fac) (b : List Nat) : StateM Ev (List Nat) := do
  let y ← forwardSub ar f b
  backSub ar f y

/-! ### Residuals (R354) -/

/-- r_i = b_i − Σ A_ij × x_j over the rows given as (columns, values). -/
def residVec (ar : Arith) (rows : List (List (Nat × Nat))) (b x : List Nat) : StateM Ev (List Nat) :=
  (List.range rows.length).mapM fun i =>
    subSum ar (nth 0 b i) ((nth [] rows i).map fun e => (e.2, nth 0 x e.1))

/-- RES = √Σ r_i × r_i. -/
def resNorm (ar : Arith) (r : List Nat) : StateM Ev Nat := do
  let s ← plainSum ar (r.map fun v => (v, v))
  evOp (ar.sqrt s)

/-- RES of the normal form: from SS, h and x. -/
def resNormal (ar : Arith) (ss : Nat) (h x : List Nat) : StateM Ev Nat := do
  let rr ← subSum ar ss (x.zip h)
  evOp (ar.sqrt (if !wIsNan rr && wNeg rr && !wIsZero rr then 0 else rr))

/-! ### Results -/

/-- What a system ends with (R357): FACTOR as the words that follow X. -/
structure SolOut where
  status : Nat := 5
  cause : Nat := 0
  flags : Nat := 0
  cols : Nat := 0
  iters : Nat := 0
  ratio : Nat := 0
  res : Nat := 0x7FC00000
  x : List Nat := []
  factor : List Nat := []
  deriving DecidableEq, Repr

/-- A complete iterate with its residual vector and RES. -/
structure Iter where
  x : List Nat
  r : List Nat
  res : Nat
  iters : Nat
  deriving DecidableEq, Repr

/-- Refinement steps from a complete iterate (R355): `solve` uses the factor, `resid` gives the residual vector and
RES, `rhs` the vector that a step solves for. A step that is cut leaves the iterate before it. -/
def refineSteps (ar : Arith) (solve : List Nat → StateM Ev (List Nat)) (resid : List Nat → StateM Ev (List Nat × Nat))
    (rhs : Iter → StateM Ev (List Nat)) : Nat → Iter → StateM Ev Iter
  | 0, it => pure it
  | n + 1, it => do
    let r ← rhs it
    let d ← solve r
    let x ← (it.x.zip d).mapM fun p => evOp (ar.add p.1 p.2)
    let q ← resid x
    if ← evCut then return it
    refineSteps ar solve resid rhs n ⟨x, q.1, q.2, it.iters + 1⟩

/-- The first solve and the refinement: the last complete iterate, if any. -/
def solveRefine (p : SolPar) (b : List Nat) (solve : List Nat → StateM Ev (List Nat))
    (resid : List Nat → StateM Ev (List Nat × Nat)) (rhs : Iter → StateM Ev (List Nat)) : StateM Ev (Option Iter) := do
  let x ← solve b
  let q ← resid x
  if ← evCut then return none
  let it ← refineSteps p.ar solve resid rhs p.refine ⟨x, q.1, q.2, 0⟩
  return some it

/-- The outcome of a factor and its iterate (R358): `bad` is the status of a failed pivot test. -/
def outOf (bad : Nat) (f : Fac) (factor : List Nat) (e : Ev) (it : Option Iter) : SolOut :=
  let o : SolOut := { flags := e.fl, cols := f.cols.length, ratio := pivotRatio f.piv, factor := factor }
  if f.fail then { o with status := bad }
  else match it with
    | none => { o with status := 4, cause := 1 }
    | some i =>
      if e.cut then { o with status := 6, cause := 1, iters := i.iters, res := i.res, x := i.x }
      else { o with status := 0, iters := i.iters, res := i.res, x := i.x }

/-- The columns of a dense factor packed: column k holding rows k to N; a column not completed reads +0 (R357). -/
def packDense (n : Nat) (f : Fac) : List Nat :=
  (List.range n).flatMap fun k => (List.range (n - k)).map fun i => (f.ent (k + i) k).getD 0

/-! ### CHOL, PATTERN and the normal form (R350, R353, R362) -/

/-- A symmetric system from its factorisation and the rows of A; `ss` is SS where the system is a normal form. -/
def symSolve (p : SolPar) (factor : StateM Ev Fac) (rows : List (List (Nat × Nat)))
    (b : List Nat) (ss : Option Nat) : StateM Ev (Fac × Option Iter) := do
  let f ← factor
  if f.fail then return (f, none)
  if ← evCut then return (f, none)
  let resid : List Nat → StateM Ev (List Nat × Nat) := fun x =>
    match ss with
    | none => do
      let r ← residVec p.ar rows b x
      let q ← resNorm p.ar r
      return (r, q)
    | some v => do
      let q ← resNormal p.ar v b x
      return ([], q)
  let rhs : Iter → StateM Ev (List Nat) := fun it =>
    if ss.isSome then residVec p.ar rows b it.x else pure it.r
  let it ← solveRefine p b (cholSolve p.ar f) resid rhs
  return (f, it)

/-- Entry (i, j) of a row-major matrix of n columns. -/
def ent (m : List Nat) (n i j : Nat) : Nat := nth 0 m (n * i + j)

/-- CHOL, or LSQ in normal form: dense, `bad` 1 or 2. -/
def cholJob (p : SolPar) (n : Nat) (a b : List Nat) (ss : Option Nat) (left : Option Nat) : SolOut :=
  let sym : Nat → Nat → Nat := fun i j => if j ≤ i then ent a n i j else ent a n j i
  let rows := (List.range n).map fun i => (List.range n).map fun j => (j, sym i j)
  let r := (symSolve p (cholCols p sym (fun k => (List.range (n - 1 - k)).map (k + 1 + ·)) n 0 {}) rows b ss).run { left := left }
  outOf (if ss.isSome then 2 else 1) r.1.1 (packDense n r.1.1) r.2 r.1.2

/-- A pattern: order and the (row, column) maps of A and L (R359). -/
structure Pattern where
  n : Nat
  a : List (Nat × Nat)
  l : List (Nat × Nat)
  deriving DecidableEq, Repr

/-- Rows below the diagonal of column `k` of L, ascending, and the columns before `k` in row `k`. -/
def Pattern.below (pt : Pattern) (k : Nat) : List Nat := (pt.l.filter fun e => e.2 == k && decide (k < e.1)).map (·.1)
def Pattern.before (pt : Pattern) (k : Nat) : List Nat := (List.range k).filter fun j => pt.l.contains (k, j)

/-- The UPD steps of column `k` in ascending J (R360): the accumulators of its rows, the diagonal first. -/
def patUpd (p : SolPar) (pt : Pattern) (a : Nat → Nat → Nat) (f : Fac) (k : Nat) : StateM Ev (List (Nat × Nat)) :=
  (pt.before k).foldlM (init := (k :: pt.below k).map fun i => (i, a i k)) fun (acc : List (Nat × Nat)) j =>
    acc.mapM fun e => if pt.l.contains (e.1, j) then do
        let v ← evOp (p.ar.fma (fNeg ((f.ent e.1 j).getD 0)) ((f.ent k j).getD 0) e.2)
        return (e.1, v)
      else pure e

/-- FIN after its pivot test (R360): the column. -/
def patFin (p : SolPar) (acc : List (Nat × Nat)) : StateM Ev (List (Nat × Nat)) := do
  let d := acc.headD (0, 0)
  let lkk ← evOp (p.ar.sqrt d.2)
  let rest ← (acc.drop 1).mapM fun e => do
    let v ← evOp (p.ar.div e.2 lkk)
    return (e.1, v)
  return (d.1, lkk) :: rest

/-- The operations of the UPD steps of column `k` for the columns `js`. -/
def Pattern.updOps (pt : Pattern) (k : Nat) (js : List Nat) : Nat :=
  (js.map fun j => ((k :: pt.below k).filter fun i => pt.l.contains (i, j)).length).sum

/-- The columns of a PATTERN's factor in ascending order (R362). -/
def patCols (p : SolPar) (pt : Pattern) (a : Nat → Nat → Nat) : (n k : Nat) → Fac → StateM Ev Fac
  | 0, _, f => pure f
  | n + 1, k, f => do
    let acc ← patUpd p pt a f k
    let d := (acc.headD (k, 0)).2
    let ok ← evOp (p.ar.pivot p.tau d true)
    if ← evCut then return f
    if !ok then return { f with fail := true }
    let col ← patFin p acc
    if ← evCut then return { f with piv := notePivot p.ar d f.piv }
    patCols p pt a n (k + 1) { f with cols := f.cols ++ [col], piv := notePivot p.ar d f.piv }

/-- Columns of a PATTERN completed out of order at a cut, and the flags of their operations. -/
structure Beyond where
  fac : Fac
  done : List Nat := []
  fl : Nat := 0
  deriving Repr

/-- The operations completed of one column beyond the first incomplete one, `first` (R340, R360): as far as the columns it takes
were complete, and short of a pivot test that would fail. -/
def Beyond.add (p : SolPar) (pt : Pattern) (a : Nat → Nat → Nat) (first : Nat) (z : Beyond) (c : Nat × Nat) : Beyond :=
  let k := c.1
  if k ≤ first ∨ pt.n ≤ k ∨ z.done.contains k then z
  else
    let ready := (pt.before k).takeWhile fun j => decide (j < first) || z.done.contains j
    let upd := pt.updOps k ready
    let u := (patUpd p pt a z.fac k).run { left := some (Nat.min c.2 upd) }
    let z := { z with fl := z.fl ||| u.2.fl }
    let d := (u.1.headD (k, 0)).2
    if ready.length < (pt.before k).length ∨ c.2 ≤ upd ∨ !(p.ar.pivot p.tau d true).1 then z
    else
      let v := (patFin p u.1).run { left := some (c.2 - upd - 1) }
      let z := { z with fl := z.fl ||| v.2.fl }
      if v.2.cut then z else { z with fac := { z.fac with cols := z.fac.cols.set k v.1 }, done := k :: z.done }

/-- Flags of the operations that cells had completed beyond the first incomplete column (R340). -/
def patBeyond (p : SolPar) (pt : Pattern) (a : Nat → Nat → Nat) (f : Fac) (cols : List (Nat × Nat)) : Nat :=
  let first := f.cols.length
  (cols.foldl (Beyond.add p pt a first) { fac := { f with cols := f.cols ++ List.replicate (pt.n - first) [] } }).fl

/-- PATTERN (R362); `beyond` what its cells had completed past the first incomplete column at a cut. -/
def patternJob (p : SolPar) (pt : Pattern) (a b : List Nat) (left : Option Nat) (beyond : List (Nat × Nat)) : SolOut :=
  let vals := pt.a.zip a
  let low : Nat → Nat → Nat := fun i j => ((vals.find? fun e => e.1 == (i, j)).map (·.2)).getD 0
  let rows := (List.range pt.n).map fun i =>
    (List.range pt.n).filterMap fun j =>
      if pt.a.contains (max i j, min i j) then some (j, low (max i j) (min i j)) else none
  let r := (symSolve p (patCols p pt low pt.n 0 {}) rows b none).run { left := left }
  let o := outOf 1 r.1.1 (pt.l.map fun e => (r.1.1.ent e.1 e.2).getD 0) r.2 r.1.2
  if r.2.cut && decide (r.1.1.cols.length < pt.n) then { o with flags := o.flags ||| patBeyond p pt low r.1.1 beyond } else o

/-! ### TRSV (R351) -/

/-- The effective matrix of TRSV. -/
def trEnt (t : List Nat) (n : Nat) (trans : Bool) (i j : Nat) : Nat := if trans then ent t n j i else ent t n i j

/-- TRSV: forward for a lower effective triangle, backward for an upper one. -/
def trsvCols (p : SolPar) (m : Nat → Nat → Nat) (b : List Nat) (solved : Nat → List Nat) :
    List Nat → List Nat → StateM Ev (List Nat × Option Nat)
  | [], x => pure (x, none)
  | i :: is, x => do
    let ok ← evOp (p.ar.pivot p.tau (m i i) false)
    if !ok then return (x, some i)
    let r ← subSum p.ar (nth 0 b i) ((solved i).map fun j => (m i j, nth 0 x j))
    let v ← evOp (p.ar.div r (m i i))
    trsvCols p m b solved is (x.set i v)

def trsvJob (p : SolPar) (n : Nat) (upper trans : Bool) (t b : List Nat) (left : Option Nat) : SolOut :=
  let m := trEnt t n trans
  let up := upper != trans
  let idx := List.range n
  let solved : Nat → List Nat := fun i => idx.filter fun j => if up then decide (i < j) else decide (j < i)
  let rows := idx.map fun i => (idx.filter fun j => if up then decide (i ≤ j) else decide (j ≤ i)).map fun j => (j, m i j)
  let go : StateM Ev (List Nat × Option Nat × Nat) := do
    let x ← trsvCols p m b solved (if up then idx.reverse else idx) (List.replicate n 0)
    if x.2.isSome then return (x.1, x.2, 0)
    let r ← residVec p.ar rows b x.1
    let q ← resNorm p.ar r
    return (x.1, none, q)
  let r := go.run { left := left }
  let o : SolOut := { flags := r.2.fl, factor := List.replicate (n * (n + 1) / 2) 0 }
  if r.2.cut then { o with status := 4, cause := 1 }
  else match r.1.2.1 with
    | some i => { o with status := 2, cols := i }
    | none => { o with status := 0, res := r.1.2.2, x := r.1.1 }

/-! ### LSQ by Householder QR (R352) -/

/-- One column of the factorisation with what later solves need of it: v (rows k on) and w. -/
structure Refl where
  k : Nat
  v : List Nat
  w : Nat
  deriving DecidableEq, Repr

/-- A reflector applied to a column given in full (R352 step 4). -/
def reflApply (ar : Arith) (h : Refl) (c : List Nat) : StateM Ev (List Nat) := do
  let tail := c.drop h.k
  let t ← plainSum ar (h.v.zip tail)
  let f ← evOp (ar.div t h.w)
  let new ← (h.v.zip tail).mapM fun p => evOp (ar.fma f p.1 p.2)
  return c.take h.k ++ new

/-- The columns from `k` on: `done` are the finished columns of R, `rest` the later ones, b the right side. -/
def qrCols (p : SolPar) : (n k : Nat) → (rest : List (List Nat)) → (b : List Nat) → (refl : List Refl) → (rs : List (List Nat)) →
    (piv : Option (Nat × Nat)) → StateM Ev (List Refl × List (List Nat) × List Nat × Option (Nat × Nat) × Bool)
  | 0, _, _, b, refl, rs, piv => pure (refl, rs, b, piv, false)
  | n + 1, k, rest, b, refl, rs, piv => do
    let c := rest.headD []
    let tail := c.drop k
    let s ← plainSum p.ar (tail.map fun v => (v, v))
    let akk := nth 0 c k
    let root ← evOp (p.ar.sqrt s)
    let alpha := if (p.ar.cmpLe 0 akk).1 then fNeg root else root
    let ok ← evOp (p.ar.pivot p.tau alpha false)
    if ← evCut then return (refl, rs, b, piv, false)
    if !ok then return (refl, rs, b, piv, true)
    let vk ← evOp (p.ar.sub akk alpha)
    let w ← evOp (p.ar.mul alpha vk)
    let h : Refl := ⟨k, vk :: tail.drop 1, w⟩
    let rest' ← (rest.drop 1).mapM (reflApply p.ar h)
    let b' ← reflApply p.ar h b
    if ← evCut then return (refl, rs, b, notePivot p.ar alpha piv, false)
    qrCols p n (k + 1) rest' b' (refl ++ [h]) (rs ++ [alpha :: rest'.map fun d => nth 0 d k]) (notePivot p.ar alpha piv)

/-- R x = c by back substitution; row k of R is `rs[k]`, its diagonal first. -/
def qrBack (ar : Arith) (rs : List (List Nat)) (c : List Nat) : StateM Ev (List Nat) :=
  let n := rs.length
  (List.range n).foldlM (init := List.replicate n 0) fun x d => do
    let i := n - 1 - d
    let row := nth [] rs i
    let r ← subSum ar (nth 0 c i) ((List.range (n - 1 - i)).map fun k => (nth 0 row (k + 1), nth 0 x (i + 1 + k)))
    let v ← evOp (ar.div r (nth 0 row 0))
    return x.set i v

/-- A solve with an existing QR factor (R355). -/
def qrSolve (ar : Arith) (refl : List Refl) (rs : List (List Nat)) (b : List Nat) : StateM Ev (List Nat) := do
  let c ← refl.foldlM (fun c h => reflApply ar h c) b
  qrBack ar rs c

/-- Column j of a row-major matrix of m rows and n columns. -/
def colOf (a : List Nat) (m n j : Nat) : List Nat := (List.range m).map fun i => ent a n i j

/-- The factor words of a QR: Rᵀ by columns; `place` gives each factor column its variable (R357). -/
def packQr (n : Nat) (place : List Nat) (rs : List (List Nat)) : List Nat :=
  (List.range n).flatMap fun k => (List.range (n - k)).map fun d =>
    match place.idxOf? k, place.idxOf? (k + d) with
    | some a, some b => nth 0 (nth [] rs a) (b - a)
    | _, _ => 0

/-- The rows of a row-major matrix, as (column, value). -/
def rowsOf (a : List Nat) (m n : Nat) : List (List (Nat × Nat)) :=
  (List.range m).map fun i => (List.range n).map fun j => (j, ent a n i j)

/-- LSQ with NORMAL 0. -/
def lsqJob (p : SolPar) (m n : Nat) (a b : List Nat) (left : Option Nat) : SolOut :=
  let go : StateM Ev (Fac × List (List Nat) × Option Iter) := do
    let q ← qrCols p n 0 ((List.range n).map (colOf a m n)) b [] [] none
    let f : Fac := { cols := q.2.1.map fun _ => [], piv := q.2.2.2.1, fail := q.2.2.2.2 }
    if f.fail then return (f, q.2.1, none)
    if ← evCut then return (f, q.2.1, none)
    let resid : List Nat → StateM Ev (List Nat × Nat) := fun x => do
      let r ← residVec p.ar (rowsOf a m n) b x
      let v ← resNorm p.ar r
      return (r, v)
    let x ← qrBack p.ar q.2.1 q.2.2.1
    let r0 ← resid x
    if ← evCut then return (f, q.2.1, none)
    let it ← refineSteps p.ar (qrSolve p.ar q.1 q.2.1) resid (fun it => pure it.r) p.refine ⟨x, r0.1, r0.2, 0⟩
    return (f, q.2.1, some it)
  let r := go.run { left := left }
  outOf 2 r.1.1 (packQr n (List.range n) r.1.2.1) r.2 r.1.2.2

/-! ### BLS (R356) -/

/-- A variable of BLS: free, or fixed at its low or its high bound. One with equal bounds starts fixed at lo. -/
inductive BlsVar where
  | free | low | high
  deriving DecidableEq, Repr

/-- What the iterations of BLS keep. -/
structure BlsS where
  vars : List BlsVar
  x : List Nat
  fac : List (List Nat) := []
  place : List Nat := []
  piv : Option (Nat × Nat) := none
  res : Nat := 0x7FC00000
  its : Nat := 0
  best : Option (List Nat × Nat) := none
  fail : Bool := false
  ok : Bool := false
  deriving DecidableEq, Repr

/-- The fixed variable that is freed (R356 step 4): of those at lo with g > 0 or at hi with g < 0, the one of greatest |g|, the
lowest index on a tie. Each comparison is CMP_LT, under DAZ and with its flag (R330, R334, R338). -/
def blsPick (ar : Arith) (g : List (Nat × Nat)) (vars : List BlsVar) : StateM Ev (Option Nat) := do
  let best ← g.foldlM (init := (none : Option (Nat × Nat))) fun best e => do
    let q ← evOp (if nth .free vars e.1 == .low then ar.cmpLt 0 e.2 else ar.cmpLt e.2 0)
    if q then
      match best with
      | some b => do
        let more ← evOp (ar.cmpLt (fAbs b.2) (fAbs e.2))
        return if more then some e else best
      | none => return some e
    else return best
  return best.map (·.1)

/-- One iteration of BLS. -/
def blsStep (p : SolPar) (m n : Nat) (a b lo hi : List Nat) (s : BlsS) : StateM Ev BlsS := do
  let freeJ := (List.range n).filter fun j => nth .free s.vars j == .free
  let fixedJ := (List.range n).filter fun j => nth .free s.vars j != .free
  let bp ← (List.range m).mapM fun i => subSum p.ar (nth 0 b i) (fixedJ.map fun j => (ent a n i j, nth 0 s.x j))
  if (← evCut) || (!freeJ.isEmpty && (← evDue)) then return s
  let q ← qrCols p freeJ.length 0 (freeJ.map (colOf a m n)) bp [] [] none
  let s1 : BlsS := { s with fac := q.2.1, place := freeJ, piv := q.2.2.2.1 }
  if q.2.2.2.2 then return { s1 with fail := true }
  if ← evCut then return s1
  let z ← qrBack p.ar q.2.1 q.2.2.1
  let judged ← (freeJ.zip z).mapM fun e => do
    let below ← evOp (p.ar.cmpLt e.2 (nth 0 lo e.1))
    let above ← evOp (p.ar.cmpLt (nth 0 hi e.1) e.2)
    return (e.1, if below then BlsVar.low else if above then BlsVar.high else BlsVar.free, e.2)
  let x := judged.foldl (fun (x : List Nat) (j : Nat × BlsVar × Nat) =>
    x.set j.1 (match j.2.1 with | .low => nth 0 lo j.1 | .high => nth 0 hi j.1 | _ => j.2.2)) s.x
  let crossed := judged.any fun j => j.2.1 != .free
  let r ← residVec p.ar (rowsOf a m n) b x
  let g ← if crossed then pure [] else
    fixedJ.mapM fun j => do
      let v ← plainSum p.ar ((List.range m).map fun i => (ent a n i j, nth 0 r i))
      return (j, v)
  let pick ← blsPick p.ar g s.vars
  let res ← resNorm p.ar r
  if ← evCut then return s1
  let vars := judged.foldl (fun (v : List BlsVar) (j : Nat × BlsVar × Nat) => v.set j.1 j.2.1) s.vars
  let s2 : BlsS := { s1 with x := x, res := res, its := s.its + 1, best := some (x, res) }
  if crossed then return { s2 with vars := vars }
  match pick with
  | some j => return { s2 with vars := s.vars.set j .free }
  | none => return { s2 with ok := true }

/-- The iterations of BLS, at most ITMAX. -/
def blsLoop (p : SolPar) (m n : Nat) (a b lo hi : List Nat) : Nat → BlsS → StateM Ev BlsS
  | 0, s => pure s
  | k + 1, s => do
    let t ← blsStep p m n a b lo hi s
    if t.ok || t.fail then return t
    if ← evCut then return t
    blsLoop p m n a b lo hi k t

/-- BLS. -/
def blsJob (p : SolPar) (m n itmax : Nat) (a b lo hi : List Nat) (left : Option Nat) : SolOut :=
  let go : StateM Ev (Bool × BlsS) := do
    let cmp ← (List.range n).mapM fun j => evOp (p.ar.cmpLe (nth 0 lo j) (nth 0 hi j))
    let vars : List BlsVar := (List.range n).map fun j =>
      if (p.ar.cmpEq (nth 0 lo j) (nth 0 hi j)).1 then .low else .free
    let x := (List.range n).map fun j => if nth .free vars j == .low then nth 0 lo j else 0
    let s0 : BlsS := { vars := vars, x := x }
    if !cmp.all id then return (false, s0)
    let s ← blsLoop p m n a b lo hi itmax s0
    return (true, s)
  let r := go.run { left := left }
  let s := r.1.2
  let o : SolOut :=
    { flags := r.2.fl, cols := s.fac.length, ratio := pivotRatio s.piv, factor := packQr n s.place s.fac, iters := s.its - 1,
      res := (s.best.map (·.2)).getD 0x7FC00000, x := (s.best.map (·.1)).getD [] }
  if r.2.cut then
    if s.best.isSome then { o with status := 6, cause := 1 } else { o with status := 4, cause := 1 }
  else if !r.1.1 then { o with status := 3 }
  else if s.fail then { o with status := 2 }
  else if s.ok then { o with status := 0 }
  else { o with status := 6, cause := 2 }

end Sys2Proof.Machine
end

