-- ==== Sys2Proof/Machine/Sol.lean ====
section
/-!
DEFINITION. Host batches of the solver (R347 to R372): the descriptor and its checks, systems and their records, the
deadline, the commit, and the counters of the module's own jobs (R373 to R375).
-/
namespace Sys2Proof.Machine

/-- The size of the solver window (R347). -/
def winSize : Nat := 2 ^ 26

/-- A batch descriptor (R348). -/
structure Desc where
  kind : Nat := 0
  n : Nat := 0
  m : Nat := 0
  opts : Nat := 0
  count : Nat := 0
  arith : Nat := 0
  tau : Nat := 0
  refine : Nat := 0
  itmax : Nat := 0
  policy : Nat := 0
  sched : Nat := 0
  inOff : Nat := 0
  inStride : Nat := 0
  outOff : Nat := 0
  outStride : Nat := 0
  commit : Nat := 0
  rtol : Nat := 0
  deadline : Nat := 0
  deriving DecidableEq, Repr

/-- The descriptor at a window offset. -/
def descAt (w : Mem) (o : Nat) : Desc :=
  { kind := w.byte (o + 4), n := w.byte (o + 5), m := w.byte (o + 6), opts := w.byte (o + 7), count := w.le (o + 8) 4,
    arith := w.le (o + 12) 4, tau := w.le (o + 16) 4, refine := w.byte (o + 20), itmax := w.byte (o + 21),
    policy := w.byte (o + 22), sched := w.byte (o + 23), inOff := w.le (o + 24) 4, inStride := w.le (o + 28) 4,
    outOff := w.le (o + 32) 4, outStride := w.le (o + 36) 4, commit := w.le (o + 40) 4, rtol := w.le (o + 44) 4,
    deadline := w.le (o + 48) 4 }

/-! ### Schedules (R359) -/

/-- ORDER, NNZ_A and NNZ_L of a schedule instance. -/
def schedShape (f : Mem) (i : Nat) : Nat × Nat × Nat := (secLe f 5 i 6 2, secLe f 5 i 8 4, secLe f 5 i 12 4)

/-- A map of a schedule: (row, column) pairs from an offset. -/
def schedMap (f : Mem) (i off n : Nat) : List (Nat × Nat) :=
  (List.range n).map fun k => (secLe f 5 i (off + 4 * k) 2, secLe f 5 i (off + 4 * k + 2) 2)

/-- The pattern of a schedule instance. -/
def schedPattern (f : Mem) (i : Nat) : Pattern :=
  let s := schedShape f i
  ⟨s.1, schedMap f i 64 s.2.1, schedMap f i (64 + 4 * s.2.1) s.2.2⟩

/-! ### Descriptor checks (R348, R349, R363) -/

/-- NORMAL 1 of LSQ. -/
def Desc.normal (d : Desc) : Bool := d.kind == 3 && bit d.opts 0 == 1

/-- Unknowns of a system. -/
def Desc.nx (d : Desc) (f : Mem) : Nat := if d.kind = 5 then (schedShape f d.sched).1 else d.n

/-- Input record size (R349). -/
def Desc.inSize (d : Desc) (f : Mem) : Nat :=
  let s := schedShape f d.sched
  match d.kind with
  | 1 => 4 * d.n ^ 2 + 4 * d.n
  | 2 => 4 * d.n ^ 2 + 4 * d.n
  | 3 => if d.normal then 4 * d.n ^ 2 + 4 * d.n + 4 else 4 * d.m * d.n + 4 * d.m
  | 4 => 4 * d.m * d.n + 4 * d.m + 8 * d.n
  | _ => 4 * s.2.1 + 4 * s.1

/-- Result record size (R349). -/
def Desc.outSize (d : Desc) (f : Mem) : Nat :=
  let s := schedShape f d.sched
  if d.kind = 5 then 16 + 4 * s.1 + 4 * s.2.2 else 16 + 4 * d.n + 2 * d.n * (d.n + 1)

/-- A finite binary32 word of a value not below 0. -/
def nonNeg (w : Nat) : Bool := decide (wMag w < 0x7F800000) && (!wNeg w || wIsZero w)

/-- The byte offset of the first bad field, if any (R348). The strides' least values need the schedule of a PATTERN. -/
def descBad (w : Mem) (o : Nat) (f : Mem) : Option Nat :=
  let d := descAt w o
  let dense := d.kind ≠ 5
  let rows := (d.kind == 3 && !d.normal) || d.kind == 4
  if w.le o 4 ≠ 0x44425354 then some 0
  else if d.kind < 1 ∨ 5 < d.kind then some 4
  else if (dense ∧ (d.n < 1 ∨ 16 < d.n)) ∨ (¬dense ∧ d.n ≠ 0) then some 5
  else if (rows ∧ (d.m < d.n ∨ 64 < d.m)) ∨ (!rows ∧ d.m ≠ 0) then some 6
  else if (d.kind = 3 ∧ 1 < d.opts) ∨ (d.kind = 2 ∧ (bit d.opts 0 = 1 ∨ 7 < d.opts)) ∨
      (d.kind ≠ 3 ∧ d.kind ≠ 2 ∧ d.opts ≠ 0) then some 7
  else if d.count < 1 ∨ 65536 < d.count then some 8
  else if 15 < d.arith then some 12
  else if !nonNeg d.tau then some 16
  else if 3 < d.refine ∨ ((d.kind = 2 ∨ d.kind = 4) ∧ d.refine ≠ 0) then some 20
  else if (d.kind = 4 ∧ (d.itmax < 1 ∨ 64 < d.itmax)) ∨ (d.kind ≠ 4 ∧ d.itmax ≠ 0) then some 21
  else if 3 < d.policy then some 22
  else if (d.kind = 5 ∧ 31 < d.sched) ∨ (dense ∧ d.sched ≠ 0) then some 23
  else if d.inStride % 4 ≠ 0 ∨ ((dense ∨ hasSection f 5 d.sched) ∧ d.inStride < d.inSize f) then some 28
  else if d.outStride % 4 ≠ 0 ∨ ((dense ∨ hasSection f 5 d.sched) ∧ d.outStride < d.outSize f) then some 36
  else if d.commit % 16 ≠ 0 ∨ (d.policy = 0 ∧ d.commit ≠ 0) then some 40
  else if !nonNeg d.rtol then some 44
  else (List.range 12).findSome? fun i => if w.byte (o + 52 + i) ≠ 0 then some (52 + i) else none

/-- The areas of a batch as (first byte, length): input, result, commit and descriptor. -/
def batchAreas (d : Desc) (f : Mem) (o : Nat) : List (Nat × Nat) :=
  [(d.inOff, (d.count - 1) * d.inStride + d.inSize f), (d.outOff, (d.count - 1) * d.outStride + d.outSize f), (o, 64)] ++
    (if d.policy = 0 then [] else [(d.commit, 16 + 8 * d.nx f * d.count)])

/-- Two areas share a byte. -/
def areaMeet (a b : Nat × Nat) : Bool := decide (a.1 < b.1 + b.2) && decide (b.1 < a.1 + a.2)

/-- No two areas of a list share a byte. -/
def areasApart : List (Nat × Nat) → Bool
  | [] => true
  | a :: l => l.all (fun b => !areaMeet a b) && areasApart l

/-- The check of a batch (R363): reason, and the offset of the first bad field. -/
def descCheck (w : Mem) (o : Nat) (f : Mem) : Nat × Nat :=
  let d := descAt w o
  if winSize < o + 64 then (3, 0)
  else match descBad w o f with
    | some b => (1, b)
    | none =>
      if d.kind = 5 ∧ !hasSection f 5 d.sched then (2, 0)
      else if (batchAreas d f o).any (fun a => decide (winSize < a.1 + a.2)) then (3, 0)
      else if !areasApart (batchAreas d f o) then (4, 0)
      else (0, 0)

/-- A byte range of the window belongs to a batch that is queued or running (R364). -/
def State.solBusyAt (s : State) (off n : Nat) : Bool :=
  s.sol.batches.any fun b => (batchAreas (descAt s.sol.win b.off) s.image b.off).any (areaMeet (off, n))

/-! ### Systems (R350 to R358) -/

/-- Words of the window. -/
def winWords (w : Mem) (o n : Nat) : List Nat := (List.range n).map fun i => w.le (o + 4 * i) 4

/-- System `i` of a batch evaluated, cut where `cut` says, if given. -/
def solSystem (w : Mem) (d : Desc) (f : Mem) (tier i : Nat) (cut : Option SolCut) : SolOut :=
  let left := cut.map (·.ops)
  let o := d.inOff + i * d.inStride
  let n := d.n
  let m := d.m
  let p : SolPar := { ar := Arith.ofWord d.arith, tau := d.tau, refine := if tier = 0 then d.refine else 0 }
  match d.kind with
  | 1 => cholJob p n (winWords w o (n * n)) (winWords w (o + 4 * n * n) n) none left
  | 2 => trsvJob p n (bit d.opts 1 == 1) (bit d.opts 2 == 1) (winWords w o (n * n)) (winWords w (o + 4 * n * n) n) left
  | 3 =>
    if d.normal then
      cholJob p n (winWords w o (n * n)) (winWords w (o + 4 * n * n) n) (some (w.le (o + 4 * n * n + 4 * n) 4)) left
    else lsqJob p m n (winWords w o (m * n)) (winWords w (o + 4 * m * n) m) left
  | 4 =>
    blsJob p m n d.itmax (winWords w o (m * n)) (winWords w (o + 4 * m * n) m) (winWords w (o + 4 * m * n + 4 * m) n)
      (winWords w (o + 4 * m * n + 4 * m + 4 * n) n) left
  | _ =>
    let pt := schedPattern f d.sched
    patternJob p pt (winWords w o pt.a.length) (winWords w (o + 4 * pt.a.length) pt.n) left ((cut.map (·.cols)).getD [])

/-- The bytes of a result record (R357). -/
def resultRecord (d : Desc) (f : Mem) (o : SolOut) : List Nat :=
  let nx := d.nx f
  [o.status, o.cause] ++ leBytes 2 o.flags ++ leBytes 2 o.cols ++ [o.iters, 0] ++ leBytes 4 o.ratio ++ leBytes 4 o.res ++
    (padTo 0 nx o.x).flatMap (leBytes 4) ++ (padTo 0 ((d.outSize f - 16 - 4 * nx) / 4) o.factor).flatMap (leBytes 4)

/-- A batch changed. -/
def State.batchMod (s : State) (slot : Nat) (g : SolBatch → SolBatch) : State :=
  { s with sol.batches := s.sol.batches.map fun b => if b.slot = slot then g b else b }

/-- A system ends: its record, the counts of the batch and of the slot (R357, R363). -/
def State.systemEnd (s : State) (b : SolBatch) (i : Nat) (o : SolOut) : State :=
  let d := descAt s.sol.win b.off
  let s := { s with sol.win := s.sol.win.store (d.outOff + i * d.outStride) (resultRecord d s.image o) }
  let s := (s.batchMod b.slot fun b =>
    { b with ended := i :: b.ended, ok := b.ok + b2n (o.status == 0), bad := b.bad + b2n (1 ≤ o.status && o.status ≤ 3),
             cutN := b.cutN + b2n (decide (4 ≤ o.status)) }).inc SOL_HOST_SYSTEMS.COUNT
  match s.sol.batches.find? (·.slot == b.slot) with
  | some b =>
    let s := ((s.result b.slot 2 b.ended.length).result b.slot 3 b.ok).result b.slot 5 b.bad
    let s := s.result b.slot 6 b.cutN
    if (s.opx b.slot).bound = 0 then s.setProgress b.slot (b.ended.length * 1000 / d.count) else s
  | none => s

/-- A batch leaves the queue with an outcome. -/
def State.batchGone (s : State) (slot outcome : Nat) : State :=
  ({ s with sol.batches := s.sol.batches.filter (·.slot != slot) }.opEnd slot outcome).inc SOL_HOST_BATCHES.COUNT

/-- The front batch starts, with its PATTERN checked again (R365, and the activation case of chapter 13). -/
def State.solStart : Nat → State → State
  | 0, s => s
  | k + 1, s =>
    match s.sol.batches with
    | [] => s
    | b :: _ =>
      if b.tier.isSome then s
      else
        let d := descAt s.sol.win b.off
        let s := s.set (OP_STATUS.STATE b.slot) 2
        if d.kind = 5 ∧ (!hasSection s.image 5 d.sched ∨ schedShape s.image d.sched ≠ b.shape) then
          State.solStart k ((s.result b.slot 0 2).batchGone b.slot 4)
        else s.batchMod b.slot fun b => { b with tier := some (s.get GOV_STATE.TIER) }

/-- Systems of a batch not ended, in ascending index. -/
def unended (count : Nat) (ended : List Nat) : List Nat := (List.range count).filter fun i => !ended.contains i

/-- Every system of a batch not ended is cut (R367): `cuts` gives, for each system that has begun, the operations
it completed. -/
def State.cutAll (s : State) (b : SolBatch) (cause : Nat) (cuts : List SolCut) : State :=
  let d := descAt s.sol.win b.off
  (unended d.count b.ended).foldl (fun (s : State) i =>
    match cuts.find? (·.sys == i), b.tier with
    | some c, some tier =>
      let o := solSystem s.sol.win d s.image tier i (some c)
      s.systemEnd b i { o with cause := if 4 ≤ o.status ∧ o.cause = 1 then cause else o.cause }
    | _, _ => s.systemEnd b i { status := 5, cause := cause }) s

/-! ### Commands -/

/-- SOL_RUN's checks of chapter 13 (R364). -/
def solCheck (slot : Nat) (s : State) : Option (Nat × Nat) :=
  if 4 ≤ s.sol.batches.length then some (2, 0)
  else if s.opArg slot 0 % 64 ≠ 0 then some (1, 0x0D)
  else none

/-- SOL_RUN accepted (R363 to R367). -/
def solBegin (sess slot : Nat) (s : State) : State :=
  let o := s.opArg slot 0
  let d := descAt s.sol.win o
  let c := descCheck s.sol.win o s.image
  let bound := if d.deadline = 0 then 0 else d.deadline * 16 + msec
  if c.1 ≠ 0 then
    let s := ((s.opAccept sess slot 0x0901 2 0).set SOL_EVENTS.DESC_ERR 1).result slot 0 c.1
    ((if c.1 = 1 then s.result slot 1 c.2 else s).opEnd slot 4)
  else
    let s := s.opAccept sess slot 0x0901 1 bound
    let b : SolBatch :=
      { slot := slot, off := o, dl := if d.deadline = 0 then none else some (16 * (s.tick + d.deadline)),
        shape := if d.kind = 5 then schedShape s.image d.sched else (0, 0, 0) }
    State.solStart 1 { s with sol.batches := s.sol.batches ++ [b] }

/-- SOL_RUN (R363). -/
def solRunStart (sess slot : Nat) (s : State) : State × WRes := s.opStart slot 0x0901 (solCheck slot) (solBegin sess slot)

def solRun (sess slot a0 a1 a2 a3 : Nat) (s : State) : State :=
  if slot < 8 then
    State.hostWrite (opAddr slot) (fun s => solRunStart sess slot (s.opArgs slot (some a0) (some a1) (some a2) (some a3))) s
  else s

/-- A system of the running batch ends (R357, R358): it has begun where it is one of the next 64, or, for a PATTERN,
the next one. -/
def solSystemEnd (i : Nat) (ecc : Bool) (s : State) : State :=
  match s.sol.batches with
  | [] => s
  | b :: _ =>
    let d := descAt s.sol.win b.off
    match b.tier with
    | none => s
    | some tier =>
      if i < d.count ∧ !b.ended.contains i ∧ i < b.ended.length + (if d.kind = 5 then 1 else 64) then
        if ecc then
          ((s.systemEnd b i { status := 5, cause := 4 }).set SOL_EVENTS.ECC 1).fault 0x0902
        else s.systemEnd b i (solSystem s.sol.win d s.image tier i none)
      else s

/-- The deadline edge of each host batch that has reached it (R367). -/
def solDeadline (cuts : List SolCut) (s : State) : State :=
  s.sol.batches.foldl (fun (s : State) b =>
    match b.dl with
    | some t =>
      let d := descAt s.sol.win b.off
      if t ≤ s.now ∧ !b.hit ∧ b.ended.length < d.count then
        ((s.cutAll b 1 (if s.sol.batches.head?.map (·.slot) == some b.slot then cuts else [])).batchMod b.slot fun b =>
          { b with hit := true }).set SOL_EVENTS.DEADLINE 1
      else s
    | none => s) s

/-- A record commits under the policy (R370). -/
def commits (d : Desc) (w : Mem) (i : Nat) : Bool :=
  let r := d.outOff + i * d.outStride
  let st := w.byte r
  let within := wLe (w.le (r + 12) 4) d.rtol && !wIsNan (w.le (r + 12) 4)
  let fl := w.le (r + 2) 2
  match d.policy with
  | 0 => false
  | 1 => st == 0
  | 2 => st == 0 || (st == 6 && within)
  | _ => (st == 0 || (st == 6 && within)) && fl % 8 == 0

/-- The commit block written (R369, R371): the window and the number of systems that commit. -/
def commitWindow (d : Desc) (f : Mem) (w : Mem) : Mem × Nat :=
  let nx := d.nx f
  let plane := 4 * nx * d.count
  let sel := w.le d.commit 4 % 2
  let base := d.commit + 16
  let w1 := w.store (base + (1 - sel) * plane) (w.bytes (base + sel * plane) plane)
  let r := (List.range d.count).foldl (fun (acc : Mem × Nat) i =>
    if commits d w i then
      (acc.1.store (base + (1 - sel) * plane + 4 * nx * i) (w.bytes (d.outOff + i * d.outStride + 16) (4 * nx)), acc.2 + 1)
    else acc) (w1, 0)
  (r.1.store d.commit (leBytes 4 (1 - sel) ++ leBytes 4 (w.le (d.commit + 4) 4 + 1)), r.2)

/-- Result word 7 (R363). -/
def solWord7 (b : SolBatch) (abort : Bool) (gen : Nat) : Nat :=
  b.tier.getD 0 + 2 ^ 8 * b2n b.hit + 2 ^ 9 * b2n abort + 2 ^ 16 * (gen % 2 ^ 16)

/-- The commit step of the first batch whose systems have all ended (R371). -/
def solBatchCommit (s : State) : State :=
  match s.sol.batches.find? fun b => b.ended.length == (descAt s.sol.win b.off).count with
  | none => s
  | some b =>
    let d := descAt s.sol.win b.off
    let c := if d.policy = 0 then (s.sol.win, 0) else commitWindow d s.image s.sol.win
    let gen := if d.policy = 0 then 0 else c.1.le (d.commit + 4) 4
    let s := { s with sol.win := c.1 }
    let s := ((s.result b.slot 0 0).result b.slot 4 c.2).result b.slot 7 (solWord7 b false gen)
    let s := s.opMod b.slot fun x => { x with commit := true }
    State.solStart 4 (s.batchGone b.slot 3)

/-- An abort that wins against a batch (R372); a queued one has run nothing. -/
def State.solAbort (s : State) (slot : Nat) (cuts : List SolCut) : State :=
  match s.sol.batches.find? (·.slot == slot) with
  | none => s
  | some b =>
    if b.tier.isNone ∧ !b.hit then { s with sol.batches := s.sol.batches.filter (·.slot != slot) }
    else
      let d := descAt s.sol.win b.off
      let s := s.cutAll b 3 cuts
      let gen := if d.policy = 0 then 0 else s.sol.win.le (d.commit + 4) 4
      State.solStart 4 ((s.result slot 7 (solWord7 b true gen)).batchGone slot 5)

def execSolRun (t sess slot a0 a1 a2 a3 : Nat) (s : State) : Host.Outcome State Fault Refusal :=
  .next (solRun sess slot a0 a1 a2 a3 (s.at t))

def execSolSystemEnd (t i : Nat) (ecc : Bool) (s : State) : Host.Outcome State Fault Refusal :=
  .next (solSystemEnd i ecc (s.at t))

def execSolDeadline (t : Nat) (cuts : List SolCut) (s : State) : Host.Outcome State Fault Refusal :=
  .next (solDeadline cuts (s.at t))

def execSolBatchCommit (t : Nat) (s : State) : Host.Outcome State Fault Refusal := .next (solBatchCommit (s.at t))

/-! ### The module's own jobs (R373, R375) -/

/-- A module batch ended or discarded (SOL_MOD_ counters): job, tile, systems ended, those not OK, duration in ms. -/
def State.modBatch (s : State) (job tile systems notOk ms : Nat) : State :=
  let s := ((s.inc SOL_MOD_BATCHES.COUNT).add SOL_MOD_SYSTEMS.COUNT systems).add SOL_MOD_NOTOK.COUNT notOk
  ((s.set SOL_MOD_LAST.JOB job).set SOL_MOD_LAST.TILE tile).set SOL_MOD_LAST.MS ms

/-- The job code of the last module batch. -/
def State.modBatchJob (s : State) (job : Nat) : State := s.set SOL_MOD_LAST.JOB job

/-- SOL_CLR.CLR_COUNTS (R12). -/
def solClrCounts (s : State) : State :=
  s.setAll [SOL_HOST_BATCHES.COUNT, SOL_HOST_SYSTEMS.COUNT, SOL_MOD_BATCHES.COUNT, SOL_MOD_SYSTEMS.COUNT,
    SOL_MOD_NOTOK.COUNT, SOL_MOD_LATE.COUNT] 0

def execSolClrCounts (t : Nat) (s : State) : Host.Outcome State Fault Refusal := .next (State.hostDo 0x90024 solClrCounts (s.at t))

/-- The parameters of a module job: ARITH 0, τ = 2^-20, one refinement step at Tier 0 (R355, R373). -/
def modPar (tier : Nat) : SolPar := { tau := 0x35800000, refine := if tier = 0 then 1 else 0 }

/-- The scale of a column as a power of two (R374): a column scaled by 2^c scales its diagonal entry by 2^(2c), so the
entry comes into 1 to 2 where its exponent is even, and into 2 to 4 where it is odd. -/
def scaleExp (w : Nat) : Int :=
  match f32 w with
  | .fin _ m e => if m = 0 then 0 else (1 - ((Nat.log2 m : Int) + e)) / 2
  | _ => 0

/-- A fraction times 2^k. -/
def qShift (q : Int × Nat) (k : Int) : Int × Nat :=
  if 0 ≤ k then (q.1 * 2 ^ k.toNat, q.2) else (q.1, q.2 * 2 ^ (-k).toNat)

/-- A normal-form module job (R374): sums G (row-major), h and SS rounded once, columns scaled; `ones` marks the
columns of ones, which are not. The solution is exact fractions, or none. -/
def normalJob (tier n : Nat) (g : List (Int × Nat)) (h : List (Int × Nat)) (ss : Int × Nat) (ones : List Nat) :
    Option (List (Int × Nat)) × SolOut :=
  let at_ := fun i j => nth ((0, 1) : Int × Nat) g (n * i + j)
  let k := fun i => if ones.contains i then (0 : Int) else scaleExp (toF32 (at_ i i))
  let gs := (List.range n).flatMap fun i => (List.range n).map fun j => toF32 (qShift (at_ i j) (k i + k j))
  let hs := (List.range n).map fun i => toF32 (qShift (nth (0, 1) h i) (k i))
  let o := cholJob (modPar tier) n gs hs (some (toF32 ss)) none
  if o.status = 0 then (some ((List.range n).map fun i => qShift (f32q (nth 0 o.x i)) (k i)), o) else (none, o)

end Sys2Proof.Machine
end

