-- ==== Sys2Proof/Machine/Shut.lean ====
section
/-!
DEFINITION. Calibration generations, base sets and banks (R241 to R251, R554), shutter cycles and their one-point and
two-point updates (R252 to R264). A paddle sample is (SHA, SHB) in 1/64 K.
-/
namespace Sys2Proof.Machine

/-! ### Factory tables (R245, R246) -/

/-- RADTAB node `i` of a factory table file, as a fraction. -/
def radNode (file : Mem) (i : Nat) : D := f32q (file.le (0x020 + 4 * i) 4)

/-- The segment of RADTAB that holds T, in 1/64 K: the one that starts at a node, the last for 360.0 K (R246). -/
def radSeg (T : Nat) : Nat := min 63 ((T - 12800) / 160)

/-- L′(T) in binary64, per kelvin (R246). -/
def radSlope (file : Mem) (T : Nat) : D :=
  dDiv (dSub (radNode file (radSeg T + 1)) (radNode file (radSeg T))) (5, 2)

/-- L(T) in binary64 (R246). -/
def radL (file : Mem) (T : Nat) : D :=
  dAdd (radNode file (radSeg T)) (dMul (radSlope file T) (dRound ((T : Int) - (12800 + 160 * radSeg T : Nat), 64)))

/-- A temperature in 1/64 K lies within 200.0 to 360.0 K (R246). -/
def radRange (T : Nat) : Bool := 12800 ≤ T && T ≤ 23040

/-- KR (R246): 1 / RESP_L rounded to binary32. -/
def krOf (resp : Nat) : Nat := toF32 (qDiv (1, 1) (f32q resp))

/-- KT (R246), in binary64 before its rounding. -/
def ktOf (file : Mem) (resp tb : Nat) : Int := qRhe (dDiv (2 ^ 30, 1) (dMul (f32q resp) (radSlope file tb)))

/-- The offset reference of a set moved to a temperature: TB, LB, KT (R257). KT outside its range is kept out by
`setOk`. -/
def TileSet.rebase (c : TileSet) (tb : Nat) : TileSet × Bool :=
  let kt := ktOf c.file c.respL tb
  ({ c with tb := tb, lb := toF32 (radL c.file tb), kt := kt.toNat }, decide (1 ≤ kt) && decide (kt ≤ 2 ^ 32 - 1))

/-- A word is a finite binary32 above 0. -/
def f32Pos (w : Nat) : Bool := f32Fin w && decide (0 < (f32q w).1)

/-- The values of R554. -/
def setOk (c : TileSet) : Bool :=
  radRange c.tb && f32Fin c.lb && f32Pos c.kr && f32Pos c.respL && 1 ≤ c.kt && c.kt ≤ 2 ^ 32 - 1

/-- The bad-pixel map of a factory table file (R232, R245), as pixel indices. -/
def fileMap (file : Mem) (line : Bool) : List Nat :=
  (List.range (tilePixels line)).filter fun i =>
    bit (file.byte (0x200 + 10 * tilePixels line + i / tileCols line * (tileCols line / 8) + i % tileCols line / 8)) (i % 8) == 1

/-- The set of a factory table file (R245). -/
def fileSet (file : Mem) (line : Bool) : TileSet :=
  let c : TileSet := { tref := file.le 0x014 2, cref := file.byte 0x007, cdrift := file.byte 0x007, respL := file.le 0x018 4,
                       kr := krOf (file.le 0x018 4), file := file, bad := fileMap file line }
  (c.rebase (file.le 0x016 2)).1

/-- The conditions of R554 on a factory table file. -/
def tableContentOk (file : Mem) (line : Bool) : Bool :=
  let resp := file.le 0x018 4
  f32Pos resp && f32Fin (krOf resp) && file.byte 0x007 ≤ 3 &&
  (List.range 65).all (fun i => f32Fin (file.le (0x020 + 4 * i) 4)) &&
  (List.range 64).all (fun i => qLt (radNode file i) (radNode file (i + 1))) &&
  radRange (file.le 0x016 2) && setOk (fileSet file line) &&
  ((fileSet file line).rebase (file.le 0x016 2)).2

/-! ### Banks and base sets (R247 to R250) -/

/-- The bank that holds the newest complete SEQ (R250). -/
def State.newestBank (s : State) : Option Nat :=
  let a := nth {} s.nv.banks 0
  let b := nth {} s.nv.banks 1
  if a.state = 1 ∧ b.state = 1 then some (if a.seq < b.seq then 1 else 0)
  else if a.state = 1 then some 0 else if b.state = 1 then some 1 else none

/-- The entries of the newest complete bank. -/
def State.bankEntries (s : State) : List (Nat × BankEnt) :=
  match s.newestBank with
  | some k => (nth {} s.nv.banks k).tiles
  | none => []

/-- The values of a bank entry in place of factory values (R247, R275). -/
def mergeEntry (c : TileSet) (e : BankEnt) : TileSet :=
  { c with tref := e.set.tref, tb := e.set.tb, lb := e.set.lb, kt := e.set.kt, kr := e.set.kr, respL := e.set.respL,
           cref := e.set.cref, cdrift := e.set.cdrift, bad := e.set.bad,
           px := e.set.px.map fun p =>
             let o := c.coef p.1
             (p.1, if e.drift then p.2 else { o with o0 := p.2.o0, g0 := p.2.g0 }) }

/-- The factory table of a position: the copy that its binding's TABLE record names (R115, R490). -/
def State.tableOf (s : State) (n : Nat) : TableS := nth {} s.nv.tables (2 * n + nth 0 s.nv.tableAt n)

/-- A bank entry stands for its position (R247): its serial is the bound one, and no TILE_BIND there has come after it. -/
def State.entryCounts (s : State) (e : Nat × BankEnt) : Bool := e.2.serial == (s.pos e.1).bound && !s.nv.unbank.contains e.1

/-- The base set of a position (R126, R247): its factory table and its bank entry where that counts. -/
def State.baseSet (s : State) (n : Nat) : TileSet :=
  let file := (s.tableOf n).file
  let c := fileSet file (file.byte 6 == 2)
  match s.bankEntries.find? fun e => e.1 == n && s.entryCounts e with
  | some e => mergeEntry c e.2
  | none => c

/-- CAL_BANK_A, CAL_BANK_B and CAL_BANK_STATE (R250). -/
def State.showBanks (s : State) : State :=
  let a := nth {} s.nv.banks 0
  let b := nth {} s.nv.banks 1
  let s := (s.set CAL_BANK_A.SEQ a.seq).set CAL_BANK_B.SEQ b.seq
  ((s.set CAL_BANK_STATE.A a.state).set CAL_BANK_STATE.B b.state).set CAL_BANK_STATE.NEWEST (s.newestBank.getD 0)

/-! ### Generations (R242 to R244) -/

/-- A mask of tile positions. -/
def maskOf (l : List Nat) : Nat := (l.eraseDups.map (2 ^ ·)).sum

/-- A generation committed (R242, R243): `upd` the sets of the tiles that it updates, by source. -/
def State.commitGen (s : State) (source : Nat) (upd : List (Nat × TileSet)) : State :=
  let tiles := (s.cal.newest.tiles.filter fun e => !upd.any fun u => u.1 == e.1) ++ upd
  let mask := maskOf (upd.map (·.1))
  let no := (s.cal.newest.no + 1) % 2 ^ 32
  let s := { s with cal.newest := ⟨no, source, tiles⟩ }
  let s := (s.set CAL_GEN_COMMITTED.GEN no).set CAL_GEN_SOURCE.SOURCE source
  let s := (s.set CAL_GEN_SOURCE.TILES mask).journal 0x22 (leBytes 4 no ++ [source, mask])
  if source = 1 ∨ source = 4 ∨ source = 5 then
    s.set CAL_STATUS.UNCAL_MASK (clearBits (s.get CAL_STATUS.UNCAL_MASK) mask)
  else s

/-- The newest committed generation comes into force at a boundary (R242, R234); what made pixels bad is kept for the generations of
frames in flight (R235). -/
def State.genApply (s : State) : State :=
  if s.cal.force.no = s.cal.newest.no then s
  else
    let s : State := { s with
      cal.force := s.cal.newest
      cor.ecc := s.cor.ecc.filter fun e => (s.swp.rows ++ s.fpl.frames).any fun r => r.gen == e.1 }
    (s.set CAL_GEN.GEN s.cal.force.no).showSets s.cal.force.tiles

/-- FACT_DRIFT_MASK: the positions of the active image whose drift terms are those of their base sets (R244). -/
def State.driftShow (s : State) : State :=
  s.set CAL_STATUS.FACT_DRIFT_MASK
    (maskOf ((tilesOf s.tileMask).filter fun n => s.cal.base.any (·.1 == n) && s.get (CAL_TILEn_STATE.DRIFT_SRC n) == 0))

/-- Offsets count as at the start of a run: every tile of the image holds UNCAL_OFFSET (R175, R244). -/
def State.uncalAll (s : State) : State := s.set CAL_STATUS.UNCAL_MASK s.tileMask

/-! ### Averages (R253, R271, R302) -/

/-- One raw code added to the sums of a pixel. -/
def avgPut (tile i x : Nat) : List (Nat × Nat × Nat × Nat × Nat) → List (Nat × Nat × Nat × Nat × Nat)
  | [] => [(tile, i, 1, x, x * x)]
  | (t, j, n, a, aa) :: l =>
    if t = tile ∧ j = i then (t, j, n + 1, a + x, aa + x * x) :: l else (t, j, n, a, aa) :: avgPut tile i x l

/-- A frame's raw codes and samples added to an average. -/
def AvgS.add (a : AvgS) (line : Bool) (r : FrameRec) (paddle : Nat × Nat) : AvgS :=
  { a with
    done := a.done + 1
    px := r.raw.foldl (fun l p => avgPut p.tile (pixIdx line p.row p.col) p.v.toNat l) a.px
    ts := a.ts ++ [r.temps.map fun e => (e.1, e.2.1)]
    temps := a.temps ++ [r.ft]
    paddle := a.paddle ++ [paddle]
    gain := if a.gain = [] then (List.range 8).map (fun n => (n, nth 0 r.gains n)) else a.gain
    unsettled := a.unsettled || bit r.flags 4 == 1 }

/-- The gain code of the averaged frames at a tile. -/
def AvgS.gainOf (a : AvgS) (n : Nat) : Nat := ((a.gain.find? (·.1 == n)).map (·.2)).getD 0

/-- The values of one tile over the frames of an average. -/
def perTile {α : Type} (n : Nat) (l : List (List (Nat × α))) : List α := l.filterMap fun f => (f.find? (·.1 == n)).map (·.2)

/-- T̄ of a tile (R256). -/
def AvgS.tBar (a : AvgS) (n : Nat) : Int :=
  let l := perTile n a.ts
  if l = [] then 0 else rhe l.sum l.length

/-- The mean FPA temperature of a tile over an average, in 1/64 K (R264). -/
def AvgS.ftBar (a : AvgS) (n : Nat) : Nat :=
  let l := perTile n a.temps
  if l = [] then 0 else (rhe (l.sum : Nat) (2 * l.length)).toNat

/-- The spread of a list. -/
def spread (l : List Nat) : Nat :=
  match l with
  | [] => 0
  | x :: l => l.foldl max x - l.foldl min x

/-- The sums of the pixels of one tile: index, count, sum, sum of squares. -/
def AvgS.tilePx (a : AvgS) (n : Nat) : List (Nat × Nat × Nat × Nat) :=
  (a.px.filter (·.1 == n)).map fun e => (e.2.1, e.2.2.1, e.2.2.2.1, e.2.2.2.2)

/-- Tiles that an average holds. -/
def AvgS.tiles (a : AvgS) : List Nat := (List.range 8).filter fun n => a.px.any (·.1 == n)

/-! ### The one-point update (R256 to R258, R261, R263) -/

/-- A drift term carried to another gain code (R258). -/
def rescale (v : Int) (c cd : Nat) : Int :=
  clampS16 (if cd ≤ c then v * 2 ^ (c - cd) else rhe v (2 ^ (cd - c)))

/-- o0′ (R256) from `n` codes of sum `sum`. -/
def onePoint (n sum : Nat) (c : Coef) (t : Int) : Int :=
  rhe ((sum : Int) * 2 ^ 20 - n * (16 * c.o1 * t + c.o2 * dt2 t)) (n * 2 ^ 20)

/-- The standard deviation of `n` codes is at most `lim` counts. -/
def devOk (lim n sum sq : Nat) : Bool := decide (n * sq ≤ sum * sum + lim * lim * n * n)

/-- One pixel of a one-point update: index, new coefficients, whether it is checked and passes, its o0 change. -/
structure PixUpd where
  idx : Nat
  coef : Coef
  fail : Bool
  bad : Bool
  change : Int
  deriving Repr

/-- The drift terms of a pixel carried to the gain code of the averaged frames (R258). -/
def TileSet.driftAt (c : TileSet) (gain i : Nat) : Coef :=
  let o := c.coef i
  if gain = c.cdrift then o else { o with o1 := rescale o.o1 gain c.cdrift, o2 := rescale o.o2 gain c.cdrift }

/-- One pixel of a one-point update (R256, R258, R261): `c` the set to be renewed, `g` that of the generation in force, whose drift
terms R256 takes. -/
def onePixel (c g : TileSet) (gain : Nat) (t : Int) (e : Nat × Nat × Nat × Nat) : PixUpd :=
  let o := c.driftAt gain e.1
  let v := onePoint e.2.1 e.2.2.1 (g.driftAt gain e.1) t
  let fits := decide (clampS16 v = v)
  let bad := c.bad.contains e.1
  let ok := fits && devOk 40 e.2.1 e.2.2.1 e.2.2.2 && decide ((v - o.o0).natAbs ≤ 4096)
  if bad then ⟨e.1, if fits then { o with o0 := v } else o, false, true, 0⟩
  else if ok then ⟨e.1, { o with o0 := v }, false, false, v - o.o0⟩ else ⟨e.1, o, true, false, 0⟩

/-- The tile checks of R261 on failing pixels and, for the one-point update, on the mean change. -/
def failOk (line : Bool) (ps : List PixUpd) : Bool := (ps.filter (·.fail)).length * 100 ≤ tilePixels line
def meanOk (ps : List PixUpd) : Bool :=
  let l := (ps.filter fun p => !p.fail && !p.bad).map (·.change)
  decide (l.sum.natAbs ≤ 2048 * l.length)

/-- Newer pixel values laid over a set. -/
def TileSet.withPx (c : TileSet) (l : List (Nat × Coef)) : TileSet :=
  { c with px := l ++ c.px.filter fun e => !l.any fun u => u.1 == e.1 }

/-- Failures of one tile counted toward R263: accepted updates in a row in which a pixel failed. -/
def State.badRuns (s : State) (n : Nat) (ps : List PixUpd) : List (Nat × Nat × Nat) :=
  (s.cal.badRun.filter (·.1 ≠ n)) ++ (ps.filter (·.fail)).map fun p =>
    (n, p.idx, ((s.cal.badRun.find? fun e => e.1 == n && e.2.1 == p.idx).map (·.2.2)).getD 0 + 1)

/-- CAL_TILEn_LAST of a tile (R261). -/
def State.tileOutcome (s : State) (n fails kind : Nat) (ok : Bool) : State :=
  ((s.set (CAL_TILEn_LAST.FAILPIX n) fails).set (CAL_TILEn_LAST.RESULT n) (if ok then 1 else 2)).set (CAL_TILEn_LAST.KIND n) kind

/-- The outcome of a tile's update, with the fault of a rejection (R261). -/
def State.tileLast (s : State) (n fails kind : Nat) (ok : Bool) : State :=
  let s := s.tileOutcome n fails kind ok
  if ok then s else (s.set CAL_EVENTS.UPDATE_REJECT 1).fault 0x0704 n

/-- The one-point update of one tile at a temperature TB′; none where the tile is rejected (R261, R554). -/
def State.onePointTile (s : State) (a : AvgS) (tb n : Nat) : State × Option TileSet :=
  let c := tileSet s.cal.newest.tiles n
  let g := a.gainOf n
  let ps := (a.tilePx n).map (onePixel c (tileSet s.cal.force.tiles n) g (a.tBar n))
  let base := { c with cdrift := g }.rebase tb
  let set := base.1.withPx (ps.map fun p => (p.idx, p.coef))
  let ok := failOk s.lineImage ps && meanOk ps && base.2 && setOk set
  let s := s.tileLast n (ps.filter (·.fail)).length 0 ok
  if ok then
    let runs := s.badRuns n ps
    let s := { s with cal.badRun := runs }
    let new := if s.on CAL_CTRL.AUTO_BAD then
        (runs.filter fun e => e.1 == n && 3 ≤ e.2.2 && !c.bad.contains e.2.1).map (·.2.1) else []
    let s := s.add (CAL_AUTOBADn.COUNT n) new.length
    (s, some { set with bad := set.bad ++ new })
  else (s, none)

/-! ### Drift history (R264, R265) -/

/-- The history of a tile, newest first. -/
def histOf (l : List (Nat × List HistEnt)) (n : Nat) : List HistEnt := ((l.find? (·.1 == n)).map (·.2)).getD []

/-- Entries whose gain code is that of the newest (R264). -/
def usable (l : List HistEnt) : List HistEnt :=
  match l with
  | [] => []
  | e :: _ => l.filter (·.gain == e.gain)

/-- The FT span of entries, 1/64 K. -/
def ftSpan (l : List HistEnt) : Nat := spread (l.map (·.ft))

/-- The order of a refit that history and settings allow; 0 for none (R265). -/
def State.refitOrder (s : State) (n : Nat) : Nat :=
  let u := usable (histOf s.cal.hist n)
  if !s.on CAL_CTRL.REFIT_EN || !stageFor s.image 0x12 n || u.length < 3 || ftSpan u < 32 then 0
  else if 6 ≤ u.length && 128 ≤ ftSpan u && stageParam s.image 0x12 0 1 == 2 then 2 else 1

/-- A refit of a tile starts where its history and the settings allow one, under the tier of its start (R53, R365). -/
def State.refitStart (s : State) (n : Nat) : State :=
  let o := s.refitOrder n
  { s with cal.refit := if o = 0 then none else some (n, o, s.now), cal.refitTier := s.get GOV_STATE.TIER }

/-- The next refit of the queue that may starts, T0 first (R265); tiles before it that do not meet the conditions leave the queue. -/
def State.refitNext (s : State) : State :=
  if s.cal.refit.isSome then s
  else match (List.range 8).find? fun n => s.cal.refits.contains n && s.refitOrder n != 0 with
    | some n => { s with cal.refits := s.cal.refits.filter (n < ·) }.refitStart n
    | none => { s with cal.refits := [] }

/-- A history entry added to a tile (R264); a refit of the tile in progress is discarded and restarts on the new history where that
allows one (R268). -/
def State.histAdd (s : State) (n : Nat) (e : HistEnt) : State :=
  let h := (e :: histOf s.cal.hist n).take 32
  let s := { s with cal.hist := putKey n h s.cal.hist }
  let s := (s.set (CAL_TILEn_STATE.HIST n) (usable h).length).set (CAL_TILEn_STATE.SPAN n) (ftSpan (usable h))
  match s.cal.refit with
  | some (m, _, _) =>
    if m = n then (s.inc CAL_REFIT_RESTARTS.COUNT).refitStart n else s
  | none => s

/-- The tile of the refit in progress. -/
def State.refitTile (s : State) : Option Nat :=
  match s.cal.refit with
  | some (n, _, _) => some n
  | none => none

/-- The history of a tile discarded (R264, R275). -/
def State.histDrop (s : State) (n : Nat) : State :=
  let s := { s with cal.hist := s.cal.hist.filter (·.1 ≠ n), cal.hist2 := s.cal.hist2.filter (·.1 ≠ n),
                    cal.refits := s.cal.refits.filter (· ≠ n),
                    cal.refit := if s.refitTile = some n then none else s.cal.refit }
  (s.set (CAL_TILEn_STATE.HIST n) 0).set (CAL_TILEn_STATE.SPAN n) 0

/-- Both sensors of a tile have failed (R413). -/
def State.blindTile (s : State) (n : Nat) : Bool := s.mon.fail.contains (2 * n) && s.mon.fail.contains (2 * n + 1)

/-- The history entries of a qualifying event for the tiles it updated, and the refits they ask for. -/
def State.qualify (s : State) (a : AvgS) (tb : Nat) (tiles : List Nat) : State :=
  if a.unsettled then s
  else
    let tiles := tiles.filter fun n => !s.blindTile n
    let s := tiles.foldl (fun s n => s.histAdd n ⟨s.secs, a.gainOf n, a.ftBar n, [a.tBar n], tb,
      (a.tilePx n).map fun e => (e.1, toF32 (e.2.2.1, e.2.1))⟩) s
    { s with cal.refits := s.cal.refits ++ tiles.filter fun n => !s.cal.refits.contains n && s.refitTile != some n }.refitNext

/-! ### The two-point update (R259 to R261) -/

/-- The exact corrected signal of a mean raw code over `n` codes of sum `sum` (R223, R260). -/
def meanSignal (f : Mem) (tile : Nat) (c : TileSet) (i n sum : Nat) (t : Int) (gain : Nat) : Int × Nat :=
  let co := terms f tile 0 (c.coef i)
  (((sum : Int) * 2 ^ 20 - n * (2 ^ 20 * co.o0 + 16 * co.o1 * t + co.o2 * dt2 t)) * gainG co t, n * 2 ^ (44 + gain - c.cref))

/-- Per pixel of a tile the rise of the corrected signal from the ambient to the hot closure. -/
def State.rises (s : State) (a : AvgS) (n : Nat) : List (Nat × Int × Nat) :=
  let c := tileSet s.cal.ambientSet n
  let tA := ((s.cal.ambientT.find? (·.1 == n)).map (·.2)).getD 0
  let gA := ((s.cal.ambientGain.find? (·.1 == n)).map (·.2)).getD 0
  (a.tilePx n).filterMap fun e =>
    (s.cal.ambient.find? fun o => o.1 == n && o.2.1 == e.1).map fun o =>
      let y := qSub (meanSignal s.image n c e.1 e.2.1 e.2.2.1 (a.tBar n) (a.gainOf n))
        (meanSignal s.image n c e.1 o.2.2.2 o.2.2.1.toNat tA gA)
      (e.1, y.1, y.2)

/-- The two-point update of one tile (R260, R261): q̄ is taken over the pixels that pass against the mean of every
good pixel with q above 0. Bad pixels of the map are updated and not checked. -/
def State.twoPointTile (s : State) (a : AvgS) (tbH n : Nat) : State × Option TileSet × List (Nat × Nat) :=
  let c := tileSet s.cal.newest.tiles n
  let dL := dSub (radL c.file tbH) (radL c.file s.cal.ambientTb)
  let qs := (s.rises a n).map fun e => (e.1, qDiv (e.2.1, e.2.2) dL)
  let good := qs.filter fun e => !c.bad.contains e.1
  let pos := good.filter fun e => decide (0 < e.2.1)
  let q0 := if pos = [] then (0, 1) else qMean (pos.map (·.2))
  let near := fun (q m : Int × Nat) => decide (0 < q.1) && qLe (qAbs (qSub (qDiv m q) (1, 1))) (2, 100)
  let pass := good.filter fun e => near e.2 q0
  let qb := if pass = [] then (0, 1) else qMean (pass.map (·.2))
  let ps : List PixUpd := qs.map fun e =>
    let o := c.coef e.1
    let bad := c.bad.contains e.1
    let g := qRhe (qMul (o.g0, 1) (qDiv qb e.2))
    let fits := decide (e.2.1 ≠ 0) && decide (0 ≤ g) && decide (g ≤ 65535)
    let ok := fits && (bad || (near e.2 q0 && near e.2 qb))
    ⟨e.1, if ok then { o with g0 := g.toNat } else o, !ok && !bad, bad, 0⟩
  let resp := toF32 qb
  let base := { c with respL := resp, kr := krOf resp }.rebase c.tb
  let set := { base.1 with lb := c.lb }.withPx ((ps.filter fun (p : PixUpd) => !p.fail).map fun (p : PixUpd) => (p.idx, p.coef))
  let respOk := qLe (qAbs (qSub (qDiv (f32q resp) (f32q c.respL)) (1, 1))) (5, 100)
  let ok := f32Pos resp && respOk && failOk s.lineImage ps && base.2 && setOk set
  let s := s.tileLast n (ps.filter (·.fail)).length 1 ok
  (s, if ok then some set else none, qs.map fun e => (e.1, toF32 e.2))

/-! ### Shutter cycles (R252 to R255) -/

/-- A cycle is abandoned or fails without a commit (R262). -/
def State.abandon (s : State) : State := (s.inc CAL_ABANDON_COUNT.COUNT).set CAL_EVENTS.CYCLE_ABANDON 1

/-- Frames carry SHUTTER_HOLD: from the closing command to the end of Resume (R254). -/
def State.holds (s : State) : Bool :=
  let c := s.get CAL_STATUS.CYCLE
  1 ≤ c && c ≤ 5

/-- A swap of the spare is between its shadow and its handback (R212). -/
def State.swapping (s : State) : Bool :=
  let p := s.get VFE_SPARE_STATE.PHASE
  1 ≤ p && p ≤ 5 && s.get VFE_SPARE_STATE.CHAN < 32

/-- A forced cycle falls due, at run start or at the end of settling (R127, R252); it waits for a cycle in progress. -/
def State.forceCycle (s : State) : State :=
  if s.sys.mode = .stare then { s with cal.due := some 0, cal.dueTwo := false } else s

/-- A cycle forced by an offset-disturbing epoch (R175, R252): one that has yet to end its average serves it. -/
def State.forceEpoch (s : State) : State :=
  let c := s.get CAL_STATUS.CYCLE
  if 1 ≤ c ∧ c ≤ 3 then s else s.forceCycle

/-- A forced cycle is due and may start (R255). -/
def State.forcedDue (s : State) : Bool := s.cal.due == some 0 && !s.cal.blocked

/-- A due cycle may start at a boundary: no cycle in progress (a forced one ends two-point heating), no swap, an automatic one
not while R255 bars it. -/
def State.cycleMay (s : State) : Bool :=
  let c := s.get CAL_STATUS.CYCLE
  s.sys.mode == .stare && s.sys.run && !s.swapping &&
    ((c == 6 && (s.cal.hot || s.forcedDue)) ||
     (c == 0 && match s.cal.due with
       | some 0 | some 1 => !s.cal.blocked
       | some _ => true
       | none => false))

/-- The closing command, at a boundary at `b` (R252, R253). -/
def State.close (s : State) (b : Nat) : State :=
  { ((s.set CAL_STATUS.CYCLE 1).set CAL_STATUS.SHUT_STATE 1).set CAL_SHUT_NEXT.S 0 with
    cal.update := false, cal.stepAt := b, cal.avg := { want := s.get CAL_SHUT_FRAMES.N } }.emit (.paddle "close")

/-- A due cycle, or the hot closure of a two-point cycle, starts at a boundary at `b` (R252, R259). -/
def State.cycleStart (s : State) (b : Nat) : State :=
  if !s.cycleMay then s
  else if s.forcedDue ∨ s.get CAL_STATUS.CYCLE = 0 then
    let s := if s.get CAL_STATUS.CYCLE = 6 then s.abandon else s
    let kind := s.cal.due.getD 0
    let two := s.cal.dueTwo && kind != 0
    let s := { s with cal.due := none, cal.dueTwo := false, cal.kind := kind, cal.part := if two then 1 else 0, cal.hot := false }
    let s := if two then { s with cal.periodic := 0 } else if kind = 1 then { s with cal.periodic := s.cal.periodic + 1 } else s
    s.close b
  else { s with cal.part := 3, cal.hot := false }.close b

/-- The averaged frame of a boundary (R253): its paddle samples, where Average runs and wants a frame more. -/
def State.avgTake (s : State) (kept : Bool) : State × Option (Nat × Nat) :=
  if s.get CAL_STATUS.CYCLE = 3 ∧ kept ∧ s.cal.avg.taken < s.cal.avg.want then
    ({ s with cal.avg := { s.cal.avg with taken := s.cal.avg.taken + 1 } },
     some (s.get CAL_PADDLE_T.SHA, s.get CAL_PADDLE_T.SHB))
  else (s, none)

/-- An offset-disturbing epoch during Average discards the frames already summed (R253). -/
def State.avgRestart (s : State) : State :=
  if s.get CAL_STATUS.CYCLE = 3 then
    { s with cal.avg := { want := s.cal.avg.want }, fpl.frames := s.fpl.frames.map fun r => { r with avg := none } }
  else s

/-- The period since the last opening has passed by `b`: a periodic cycle falls due (R252). -/
def State.periodDue (s : State) (b : Nat) : State :=
  match s.cal.openAt with
  | some o =>
    if s.on CAL_SHUT_CTRL.AUTO_EN && s.sys.mode == .stare && s.sys.run && s.get CAL_STATUS.CYCLE == 0 && s.cal.due.isNone &&
        !s.cal.blocked && decide (o + s.get CAL_SHUT_PERIOD.S * sec ≤ b) then
      let every := s.get CAL_SHUT_CTRL.TWO_PT_EVERY
      { s with cal.due := some 1, cal.dueTwo := decide (0 < every) && decide (every ≤ s.cal.periodic + 1) }
    else s
  | none => s

/-- SHUTTER_PERIOD_DUE (R252). -/
def shutterPeriodDue (s : State) : State := s.periodDue s.now

/-- PADDLE_CLOSED (R253): the position sensor confirms closed. -/
def State.paddleClosed (s : State) : State :=
  if s.get CAL_STATUS.CYCLE = 1 then
    { (s.set CAL_STATUS.SHUT_STATE 2).set CAL_STATUS.CYCLE 2 with cal.closeFails := 0, cal.stepAt := s.now }
  else s

/-- Settle has ended by `b`, 20 ms after the closing was confirmed (R253). -/
def State.settleEnd (s : State) (b : Nat) : State :=
  if s.get CAL_STATUS.CYCLE = 2 ∧ s.cal.stepAt + 20 * msec ≤ b then
    { s.set CAL_STATUS.CYCLE 3 with cal.avg := { want := s.get CAL_SHUT_FRAMES.N } }
  else s

/-- SHUTTER_SETTLE_END (R253). -/
def shutterSettleEnd (s : State) : State := s.settleEnd s.now

/-- The opening command. -/
def State.openPaddle (s : State) : State :=
  { (s.set CAL_STATUS.SHUT_STATE 3).set CAL_STATUS.CYCLE 4 with cal.stepAt := s.now }.emit (.paddle "open")

/-- SHUTTER_AVERAGE_END (R253): the last row of the Nth frame has been integrated; its readout completes. -/
def shutterAverageEnd (s : State) : State :=
  if s.get CAL_STATUS.CYCLE = 3 ∧ s.cal.avg.taken = s.cal.avg.want ∧ s.cal.stepAt ≤ s.now then { s.openPaddle with cal.update := true }
  else s

/-- The paddle heater turns off. -/
def State.heaterOff (s : State) : State :=
  if s.cal.heating then { s with cal.heating := false }.emit (.paddle "heater off") else s

/-- PADDLE_OPENED (R253, R255, R259): the sensor confirms open. -/
def State.paddleOpened (s : State) : State :=
  if s.get CAL_STATUS.SHUT_STATE = 3 ∨ s.get CAL_STATUS.SHUT_STATE = 4 then
    let s := { (s.set CAL_STATUS.SHUT_STATE 0).unfault 0x0702 with cal.openAt := some s.now, cal.stepAt := s.now }.heaterOff
    if s.get CAL_STATUS.CYCLE = 4 then s.set CAL_STATUS.CYCLE (if s.sys.run then 5 else 0) else s
  else s

/-- The two-point update is abandoned before or while heating (R259, R413). -/
def State.heatFail (s : State) : State :=
  { ((s.heaterOff.fault 0x0706).abandon).set CAL_STATUS.CYCLE 0 with cal.part := 0, cal.hot := false }

/-- Resume has ended by `b`, 20 ms after the opening was confirmed (R253): the cycle ends; a two-point cycle heats the paddle
(R259). -/
def State.resumeEnd (s : State) (b : Nat) : State :=
  if s.get CAL_STATUS.CYCLE = 5 ∧ s.cal.stepAt + 20 * msec ≤ b then
    let s := s.set CAL_STATUS.CYCLE 0
    if s.cal.part = 1 ∧ s.cal.ambientSet ≠ [] then
      if s.mon.fail.contains 16 || s.mon.fail.contains 17 then s.heatFail
      else { s.set CAL_STATUS.CYCLE 6 with
          cal.part := 2, cal.heating := true, cal.heatTarget := s.cal.ambientTb + 960, cal.stepAt := s.cal.stepAt + 20 * msec }.emit
        (.paddle "heat")
    else if s.cal.update then s else { s with cal.part := 0 }
  else s

/-- SHUTTER_RESUME_END (R253). -/
def shutterResumeEnd (s : State) : State := s.resumeEnd s.now

/-- The paddle is within ±0.25 K of its target, and each sensor has changed by at most 0.05 K over 10 s (R259). -/
def State.paddleSteady (s : State) : Bool :=
  decide (((s.get CAL_PADDLE_T.SHA + s.get CAL_PADDLE_T.SHB : Nat) - (2 * s.cal.heatTarget : Nat) : Int).natAbs ≤ 32) &&
    s.sensorSteady s.now 16 && s.sensorSteady s.now 17

/-- PADDLE_HEAT_STABLE (R259): stable within 120 s, and the hot closure follows at the next boundary. -/
def paddleHeatStable (s : State) : State :=
  if s.get CAL_STATUS.CYCLE = 6 ∧ s.cal.part = 2 ∧ s.now ≤ s.cal.stepAt + 120 * sec ∧ s.paddleSteady then { s with cal.hot := true } else s

/-- PADDLE_HEAT_TIMEOUT (R259, R262): not stable within 120 s. -/
def paddleHeatTimeout (s : State) : State :=
  if s.get CAL_STATUS.CYCLE = 6 ∧ s.cal.part = 2 ∧ !s.cal.hot ∧ s.cal.stepAt + 120 * sec ≤ s.now then s.heatFail else s

/-- PADDLE_CLOSE_TIMEOUT (R255): closing is not confirmed within 300 ms. -/
def paddleCloseTimeout (s : State) : State :=
  if s.get CAL_STATUS.CYCLE = 1 ∧ s.cal.stepAt + 300 * msec ≤ s.now then
    let n := s.cal.closeFails + 1
    let s := (((s.fault 0x0701).set CAL_EVENTS.SHUT_FAULT 1).openPaddle).abandon
    { s with cal.closeFails := n, cal.blocked := s.cal.blocked || decide (2 ≤ n), cal.part := 0, cal.update := false,
             cal.retryAt := if s.cal.kind = 0 then some (s.now + 10 * sec) else s.cal.retryAt }
  else s

/-- PADDLE_OPEN_TIMEOUT (R255): opening is not confirmed within 300 ms, and the paddle is driven open again. -/
def paddleOpenTimeout (s : State) : State :=
  if s.get CAL_STATUS.SHUT_STATE = 3 ∧ s.cal.stepAt + 300 * msec ≤ s.now then
    let s : State := { s with cal.stepAt := s.cal.stepAt + 300 * msec }
    (((s.set CAL_STATUS.SHUT_STATE 4).set CAL_EVENTS.SHUT_FAULT 1).fault 0x0702).emit (.paddle "open")
  else s

/-- PADDLE_OPEN_RETRY (R255): the paddle is driven open again every 1 s. -/
def paddleOpenRetry (s : State) : State :=
  if s.get CAL_STATUS.SHUT_STATE = 4 ∧ s.cal.stepAt + sec ≤ s.now then
    { s with cal.stepAt := s.cal.stepAt + sec }.emit (.paddle "open")
  else s

/-- SHUTTER_RETRY_TIMER (R255): the forced cycle that closing failed comes due again. -/
def shutterRetryTimer (s : State) : State :=
  match s.cal.retryAt with
  | some r =>
    if r ≤ s.now then
      let s := { s with cal.retryAt := none }
      if s.cal.blocked || !s.sys.run then s else s.forceCycle
    else s
  | none => s

/-- A write of CAL_SHUT_CMD (R252, R255, R259): refused in SWEEP, of 0 too (DESIGN CHOICE, log entry 923: R252 against R553); a host
cycle falls due at the next boundary of a run where no cycle is in progress, and stands in for an automatic one that waits or
is barred, a forced one that may start apart. -/
def calShutCmdWrite (v : Nat) (s : State) : State × WRes :=
  if s.sys.mode = .sweep then (s, .refuse 1 0x03)
  else
    let s := if bit v 2 = 1 then { s with cal.blocked := false, cal.closeFails := 0 } else s
    if (bit v 0 = 1 ∨ bit v 1 = 1) ∧ s.sys.mode = .stare ∧ s.sys.run ∧ s.get CAL_STATUS.CYCLE = 0 ∧ !s.forcedDue then
      ({ s with cal.due := some 2, cal.dueTwo := bit v 1 == 1 || (s.cal.due.isSome && s.cal.dueTwo) }, .ok)
    else (s, .ok)

/-- The cycle checks of R261 over an average, one-point. -/
def cycleOk (s : State) (a : AvgS) : Bool :=
  !s.mon.fail.contains 16 && !s.mon.fail.contains 17 &&
  a.paddle.all (fun p => p.1 ≤ p.2 + 32 && p.2 ≤ p.1 + 32) &&
  spread (a.paddle.map fun p => p.1 + p.2) * 10 ≤ 128 &&
  a.tiles.all fun n => spread (perTile n a.temps) * 5 ≤ 128

/-- TB′ of an average (R257). -/
def AvgS.tb (a : AvgS) : Nat :=
  if a.paddle = [] then 0 else (rhe ((a.paddle.map fun p => p.1 + p.2).sum : Nat) (2 * a.paddle.length)).toNat

/-- A rejected update (R262). -/
def State.rejectUpdate (s : State) : State := (s.inc CAL_REJECT_COUNT.COUNT).set CAL_EVENTS.UPDATE_REJECT 1

/-- A failed cycle check rejects the update of every averaged tile (R261). -/
def State.rejectCycle (s : State) (a : AvgS) (kind : Nat) : State :=
  (a.tiles.foldl (fun (s : State) n => s.tileOutcome n 0 kind false) s).rejectUpdate.fault 0x0703

/-- A cycle has committed: the first update of a run lets the rotation of the spare start (R198). -/
def State.cycleDone (s : State) : State :=
  ((s.inc CAL_CYCLE_COUNT.COUNT).set CAL_EVENTS.CYCLE_DONE 1).rotationStart

/-- The tiles of an update folded: the accepted sets, and whether a tile was rejected. -/
def State.updateTiles (s : State) (f : State → Nat → State × Option TileSet) (ts : List Nat) : State × List (Nat × TileSet) :=
  ts.foldl (fun (p : State × List (Nat × TileSet)) n =>
    match f p.1 n with
    | (s, some c) => (s, p.2 ++ [(n, c)])
    | (s, none) => (s, p.2)) (s, [])

/-- The one-point update committed or rejected (R256 to R263). -/
def State.onePointUpdate (s : State) (a : AvgS) : State :=
  if !cycleOk s a then { s.rejectCycle a 0 with cal.part := 0 }
  else
    let tb := a.tb
    let r := s.updateTiles (fun s n => if radRange tb then s.onePointTile a tb n else (s.tileLast n 0 0 false, none)) a.tiles
    let s := if r.2.length = a.tiles.length then r.1 else r.1.rejectUpdate
    if r.2 = [] then { s with cal.part := 0 }
    else
      let s := (s.commitGen 1 r.2).cycleDone
      let s := if s.cal.part = 1 then
          { s with cal.ambientSet := s.cal.newest.tiles, cal.ambientTb := tb,
                   cal.ambientT := a.tiles.map fun n => (n, a.tBar n), cal.ambientGain := a.gain,
                   cal.ambient := a.px.map fun e => (e.1, e.2.1, (e.2.2.2.1 : Int), e.2.2.1) }
        else s
      s.qualify a tb (r.2.map (·.1))

/-- A two-point history entry (R264). -/
def State.hist2Add (s : State) (a : AvgS) (tb n : Nat) (qs : List (Nat × Nat)) : State :=
  if a.unsettled || s.blindTile n then s
  else
    let h : List HistEnt := ⟨s.secs, a.gainOf n, a.ftBar n, [a.tBar n], tb, qs⟩ :: histOf s.cal.hist2 n
    { s with cal.hist2 := putKey n (h.take 16) s.cal.hist2 }

/-- The two-point update of the hot closure (R260, R261). The closure is an event of its own: its codes enter the history of every
tile averaged, whether its gains were accepted or not (R264). -/
def State.twoPointUpdate (s : State) (a : AvgS) : State :=
  let tb := a.tb
  let s := { s with cal.part := 0 }
  if s.mon.fail.contains 16 || s.mon.fail.contains 17 || tb < s.cal.ambientTb + 928 || s.cal.ambientTb + 992 < tb ||
      !radRange tb || !radRange s.cal.ambientTb then
    s.rejectCycle a 1
  else
    let r := a.tiles.foldl (fun (p : State × List (Nat × TileSet)) n =>
      match p.1.twoPointTile a tb n with
      | (s, some c, qs) => (s.hist2Add a tb n qs, p.2 ++ [(n, c)])
      | (s, none, _) => (s, p.2)) (s, [])
    let s := if r.2.length = a.tiles.length then r.1 else r.1.rejectUpdate
    let s := if r.2 = [] then s else (s.commitGen 2 r.2).cycleDone
    let s := { s with cal.ambient := [], cal.ambientSet := [] }
    s.qualify a tb a.tiles

/-- SHUTTER_UPDATE_COMMIT (R253, R256 to R263): the update of the averaged frames, once all have been read out. -/
def shutterUpdateCommit (s : State) : State :=
  let a := s.cal.avg
  if s.cal.update ∧ a.done = a.want ∧ 0 < a.want then
    let s := { s with cal.update := false }
    if s.cal.part = 3 then s.twoPointUpdate a else { s with cal.ambientSet := [] }.onePointUpdate a
  else s

/-- A run's end during a cycle: the paddle opens at once; an average that had ended is still updated in READY,
otherwise the cycle is abandoned ("A stop command during a shutter cycle"). -/
def State.cycleStop (s : State) : State :=
  let c := s.get CAL_STATUS.CYCLE
  let s := { s with cal.due := none, cal.dueTwo := false, cal.retryAt := none, cal.hot := false }
  if c = 0 then s
  else if c = 6 then { s.heaterOff.abandon.set CAL_STATUS.CYCLE 0 with cal.part := 0 }
  else if c ≤ 3 then
    let done := c == 3 && s.cal.avg.taken == s.cal.avg.want
    let s := if done then { s with cal.update := true } else { s.abandon with cal.part := 0 }
    s.openPaddle
  else if c = 5 then { s.set CAL_STATUS.CYCLE 0 with cal.part := if s.cal.update then s.cal.part else 0 }
  else s


def execShutterPeriodDue (t : Nat) (s : State) : Host.Outcome State Fault Refusal := .next (shutterPeriodDue (s.at t))
def execShutterSettleEnd (t : Nat) (s : State) : Host.Outcome State Fault Refusal := .next (shutterSettleEnd (s.at t))
def execShutterAverageEnd (t : Nat) (s : State) : Host.Outcome State Fault Refusal := .next (shutterAverageEnd (s.at t))
def execShutterResumeEnd (t : Nat) (s : State) : Host.Outcome State Fault Refusal := .next (shutterResumeEnd (s.at t))
def execShutterUpdateCommit (t : Nat) (s : State) : Host.Outcome State Fault Refusal := .next (shutterUpdateCommit (s.at t))
def execPaddleCloseTimeout (t : Nat) (s : State) : Host.Outcome State Fault Refusal := .next (paddleCloseTimeout (s.at t))
def execPaddleOpenTimeout (t : Nat) (s : State) : Host.Outcome State Fault Refusal := .next (paddleOpenTimeout (s.at t))
def execPaddleOpenRetry (t : Nat) (s : State) : Host.Outcome State Fault Refusal := .next (paddleOpenRetry (s.at t))
def execShutterRetryTimer (t : Nat) (s : State) : Host.Outcome State Fault Refusal := .next (shutterRetryTimer (s.at t))
def execPaddleHeatStable (t : Nat) (s : State) : Host.Outcome State Fault Refusal := .next (paddleHeatStable (s.at t))
def execPaddleHeatTimeout (t : Nat) (s : State) : Host.Outcome State Fault Refusal := .next (paddleHeatTimeout (s.at t))
def execCalShutNow (t : Nat) (s : State) : Host.Outcome State Fault Refusal :=
  .next (State.hostWrite 0x7001C (calShutCmdWrite 1) (s.at t))
def execCalShutNowTwoPt (t : Nat) (s : State) : Host.Outcome State Fault Refusal :=
  .next (State.hostWrite 0x7001C (calShutCmdWrite 2) (s.at t))
def execCalShutReset (t : Nat) (s : State) : Host.Outcome State Fault Refusal :=
  .next (State.hostWrite 0x7001C (calShutCmdWrite 4) (s.at t))

end Sys2Proof.Machine
end

