-- ==== Sys2Proof/Machine/Swp.lean ====
section
/-!
DEFINITION. Sweep acquisition (R278 to R299) below the line boundary, the heaters of the strip assembly (R305, R544)
and the reference-strip measurement (R306 to R312).
-/
namespace Sys2Proof.Machine

/-! ### Position and direction (R279 to R285) -/

/-- The position (R281). -/
def State.encPos (s : State) : Int := signed 64 (s.get64 SWP_ENC_POS_LO.POS SWP_ENC_POS_HI.POS)

/-- The position set. -/
def State.setPos64 (s : State) (p : Int) : State := s.set64 SWP_ENC_POS_LO.POS SWP_ENC_POS_HI.POS (unsigned 64 p)

/-- A scan is in progress: STRIPS or OBJECT. -/
def State.scanning (s : State) : Bool := s.get SWP_SCAN_STATE.STATE == 2 || s.get SWP_SCAN_STATE.STATE == 4

/-- Origin O of the present scan. -/
def State.scanO (s : State) : Int := signed 64 (s.get64 SWP_SCAN_O_LO.POS SWP_SCAN_O_HI.POS)

/-- The last raw line index of the scan (R290). -/
def State.lastIndex (s : State) : Nat :=
  if s.get SWP_SCAN_OBJ_COUNT.COUNT = 0 then 2 ^ 32 - 1
  else s.get SWP_SCAN_OBJ_START.START + s.get SWP_SCAN_OBJ_COUNT.COUNT + 23

/-- A forward run ends: every row in the delay lines is discarded (R297). -/
def State.runStop (s : State) : State :=
  { s.set SWP_ALIGN_STATUS.DEPTH 0 with swp.run := false, swp.rows := [], swp.top := none }

/-- A forward run begins; its first output line begins a new filter history (R382). -/
def State.runBegin (s : State) : State :=
  { s with swp.run := true, swp.runNo := s.swp.runNo + 1, swp.top := none, swp.rows := [] }.set SWP_ALIGN_STATUS.DEPTH 0

/-- The direction state after a count (R285). -/
def State.direction (s : State) : State :=
  let p := s.encPos
  let h : Int := s.get SWP_ENC_CTRL.HYST
  if s.get SWP_ENC_STATUS.DIR = 0 then
    let e := max s.swp.ext p
    if p < e - h then
      let s := { s.set SWP_ENC_STATUS.DIR 1 with swp.ext := p, swp.bottom := s.swp.lastFwd }
      if s.scanning then
        let s := (s.inc SWP_REV_COUNT.COUNT).set SWP_EVENTS.REVERSAL 1
        { s with swp.scan := { s.swp.scan with reversals := s.swp.scan.reversals + 1 } }.runStop
      else s
    else { s with swp.ext := e }
  else
    let e := min s.swp.ext p
    if e + h < p then
      let s := { s.set SWP_ENC_STATUS.DIR 0 with swp.ext := p, swp.bottom := none }
      if s.scanning then s.runBegin else s
    else { s with swp.ext := e }

/-- A boundary is requested (R286); after a host END it ends the scan instead (R293). -/
def State.request (s : State) (i : Nat) (fwd : Bool) : State :=
  if s.swp.hostEnd.isSome then { s with swp.endDue := some 2, swp.hostEnd := none }
  else { s with swp.reqs := s.swp.reqs ++ [(i, s.now, fwd)] }

/-- The line request of a position (R286). -/
def State.lineRequest (s : State) : State :=
  if s.scanning && s.sys.run && s.swp.endDue.isNone then
    let cpl := s.get SWP_LINE_CPL.CPL
    let d := s.encPos - s.scanO
    if cpl = 0 ∨ d < 0 ∨ d % (cpl : Int) ≠ 0 ∨ (s.lastIndex : Int) < d / cpl then s
    else
      let i := (d / cpl).toNat
      if s.get SWP_ENC_STATUS.DIR = 0 then
        if !s.swp.run then s
        else if s.swp.top.elim true (· < i) then { s with swp.top := some i, swp.lastFwd := some i }.request i true else s
      else if s.swp.bottom.elim false (i < ·) then { s with swp.bottom := some i }.request i false else s
  else s

/-- An armed scan's origin is reached by forward travel in RUN (R291, START_SRC 0 and 2). -/
def State.originCheck (s : State) (up : Bool) : State :=
  if s.get SWP_SCAN_STATE.STATE = 1 ∧ s.sys.run ∧ s.get SWP_ENC_STATUS.DIR = 0 ∧ up ∧ s.swp.armSrc ≠ 1 ∧
      s.swp.startAt.isNone then
    let o := if s.swp.armSrc = 0 then s.swp.armO
      else signed 64 (s.get64 SWP_SCAN_ORIGIN_LO.POS SWP_SCAN_ORIGIN_HI.POS)
    if s.encPos = o then { s with swp.startAt := some (o, s.now) } else s
  else s

/-- The encoder counts: White or Pearl, and both signals present (R281, R282). -/
def State.encLive (s : State) : Bool := s.get PWR_STATUS.STATE ≤ 1 && s.on SWP_ENC_STATUS.SIG_OK

/-- The accepted levels of A and B after an edge in a quadrature sense, A leading forward. -/
def quadNext (levels : Nat) (up : Bool) : Nat :=
  let a := bit levels 0
  let b := bit levels 1
  let i := levels / 4 * 4
  if up then (if a = b then i + (1 - a) + 2 * b else i + a + 2 * (1 - b))
  else (if a = b then i + a + 2 * (1 - b) else i + (1 - a) + 2 * b)

/-- Counts of the last 1 ms kept for SWP_ENC_RATE. -/
def State.rateKeep (s : State) : List (Nat × Bool) := s.swp.recent.filter fun e => s.now < e.1 + msec

/-- SWP_ENC_RATE: counts of the last 1 ms, per second. -/
def State.encRate (s : State) : Int := ((s.rateKeep.map fun e => if e.2 then (1 : Int) else -1).sum) * 1000

/-- A new level of a channel may be accepted: FILT equal samples, one a phase, since the last change accepted on it (R279). -/
def State.filtOk (s : State) (at_ : Option Nat) : Bool := at_.all fun a => decide (a + s.get SWP_ENC_CTRL.FILT ≤ s.now)

/-- The edge of a count is one of A: A leads forward. -/
def countOnA (levels : Nat) (up : Bool) : Bool := up == (bit levels 0 == bit levels 1)

/-- ENCODER_COUNT (R279): `up` where the edge follows the quadrature sense that counts up at DIR_INV 0. -/
def encoderCount (up : Bool) (s : State) : State :=
  let onA := countOnA (s.get SWP_ENC_STATUS.LEVELS) up
  if !s.encLive || !s.filtOk (if onA then s.swp.aAt else s.swp.bAt) then s
  else
    let s : State := if onA then { s with swp.aAt := some s.now } else { s with swp.bAt := some s.now }
    let s := s.set SWP_ENC_STATUS.LEVELS (quadNext (s.get SWP_ENC_STATUS.LEVELS) up)
    let up := up != s.on SWP_ENC_CTRL.DIR_INV
    let s := s.setPos64 (if up then s.encPos + 1 else s.encPos - 1)
    let s := { s with swp.recent := (s.now, up) :: s.rateKeep }
    let s := if s.scanning && !s.swp.run && s.get SWP_ENC_STATUS.DIR == 0 && s.swp.scan.trouble then s.runBegin else s
    (s.direction.lineRequest).originCheck up

/-- The present run ends by an error of the encoder; the scan goes on (R282). -/
def State.encTrouble (s : State) : State :=
  let s := s.set SWP_ENC_STATUS.REFERENCED 0
  if s.scanning then { s with swp.scan := { s.swp.scan with trouble := true } }.runStop else s

/-- ENCODER_QERR (R282): both A and B change on one phase. -/
def encoderQerr (s : State) : State :=
  if !s.encLive || !s.filtOk s.swp.aAt || !s.filtOk s.swp.bAt then s
  else
    let s : State := { s.set SWP_ENC_STATUS.LEVELS (s.get SWP_ENC_STATUS.LEVELS ^^^ 3) with
      swp.aAt := some s.now, swp.bAt := some s.now }
    (((s.inc SWP_ENC_QERR_COUNT.COUNT).set SWP_EVENTS.QERR 1).encTrouble).fault 0x0801

/-- ENCODER_SIGNAL_LOSS (R282). -/
def encoderSignalLoss (s : State) : State :=
  if s.on SWP_ENC_STATUS.SIG_OK then
    ((({ s with swp.lossAt := some s.now }.set SWP_ENC_STATUS.SIG_OK 0).set SWP_EVENTS.SIGLOSS 1).encTrouble).fault 0x0802
  else s.level true 0x0802

/-- ENCODER_SIGNAL_RESTORED (R282): present for 1 ms, so at least 1 ms after the loss. -/
def encoderSignalRestored (s : State) : State :=
  if s.swp.lossAt.any fun a => decide (s.now < a + msec) then s else (s.set SWP_ENC_STATUS.SIG_OK 1).unfault 0x0802

/-- The effect of an index edge on the position (R283) and on an armed scan (R291); `true` where the edge counted. -/
def State.indexEdge (s : State) : State × Bool :=
  if s.get PWR_STATUS.STATE ≤ 1 ∧ s.get SWP_ENC_STATUS.DIR = 0 then
    let st := s.get SWP_SCAN_STATE.STATE
    let m := s.get SWP_ENC_CTRL.INDEX_MODE
    let s := if m = 1 ∨ m = 2 then s.set64 SWP_ENC_INDEX_LO.POS SWP_ENC_INDEX_HI.POS (unsigned 64 s.encPos) else s
    let s := if m = 2 ∧ st ≤ 1 then { (s.setPos64 0).set SWP_ENC_STATUS.REFERENCED 1 with swp.ext := 0 } else s
    let s := if st = 1 ∧ s.sys.run ∧ s.swp.armSrc = 1 ∧ s.swp.startAt.isNone then
        { s with swp.startAt := some (s.encPos, s.now) } else s
    (s, true)
  else (s, false)

/-- A write of 1 to SWP_ENC_CMD.ZERO (R283). -/
def encZeroWrite (s : State) : State × WRes :=
  if s.get SWP_SCAN_STATE.STATE ≤ 1 then ({ (s.setPos64 0).set SWP_ENC_STATUS.REFERENCED 1 with swp.ext := 0 }, .ok)
  else (s, .refuse 1 0)

/-- A write of SWP_LINE_CPL (R284). -/
def lineCplWrite (v : Nat) (s : State) : State × WRes :=
  s.loadGuard fun s =>
  if s.sys.run then (s, .refuse 1 0x0C)
  else if v % 2 ^ 16 = 0 then (s, .refuse 1 0x0D)
  else (s.set SWP_LINE_CPL.CPL v, .ok)

/-! ### Scans (R290 to R293) -/

/-- The layout that ARM judges (R290). -/
def State.layoutOk (s : State) : Bool :=
  let d := s.get SWP_SCAN_DARK.START
  let dn := s.get SWP_SCAN_DARK.COUNT
  let b := s.get SWP_SCAN_BRIGHT.START
  let bn := s.get SWP_SCAN_BRIGHT.COUNT
  16 ≤ dn && dn ≤ 1023 && 16 ≤ bn && bn ≤ 1023 && (d + dn ≤ b || b + bn ≤ d) &&
  max (d + dn - 1) (b + bn - 1) + 25 ≤ s.get SWP_SCAN_OBJ_START.START && s.get SWP_LINE_CPL.CPL ≠ 0

/-- An ARM refused for a reason (R291). -/
def State.armRefuse (s : State) (r : Nat) : State × WRes :=
  ((s.set SWP_SCAN_STATE.ARM_REFUSE r).set SWP_EVENTS.ARM_REFUSED 1, .refuse 1 (if r = 1 then 0x03 else 0))

/-- A write of 1 to SWP_SCAN_CMD.ARM (R291): it fixes the origin source, and the origin of START_SRC 0. -/
def scanArmWrite (s : State) : State × WRes :=
  if s.sys.mode ≠ .sweep then s.armRefuse 1
  else if s.get SWP_SCAN_STATE.STATE ≠ 0 then s.armRefuse 3
  else if !s.layoutOk then s.armRefuse 2
  else
    ({ s.set SWP_SCAN_STATE.STATE 1 with
        swp.startAt := none, swp.hostEnd := none, swp.endDue := none
        swp.armSrc := s.get SWP_SCAN_CTRL.START_SRC
        swp.armO := signed 64 (unsigned 64 (s.encPos + s.get SWP_LINE_CPL.CPL)) }, .ok)

/-- A write of 1 to SWP_SCAN_CMD.END (R293). -/
def scanEndWrite (s : State) : State × WRes :=
  if s.get SWP_SCAN_STATE.STATE = 1 then
    ({ ((s.set SWP_SCAN_STATE.STATE 0).set SWP_SCAN_STATE.LAST_END 4).set SWP_EVENTS.SCAN_DONE 1 with swp.startAt := none }, .ok)
  else if s.scanning && s.swp.hostEnd.isNone && s.swp.endDue.isNone then ({ s with swp.hostEnd := some s.now }, .ok)
  else (s, .ok)

/-- SCAN_START (R291): the armed scan starts at its origin; raw line 0 is requested. -/
def scanStart (s : State) : State :=
  match s.swp.startAt with
  | some (o, at_) =>
    if s.get SWP_SCAN_STATE.STATE = 1 ∧ s.sys.run then
      let s := (s.inc SWP_SCAN_NO.NUMBER).set64 SWP_SCAN_O_LO.POS SWP_SCAN_O_HI.POS (unsigned 64 o)
      let s := ((s.set SWP_SCAN_STATE.STATE 2).set SWP_HIGHWATER.INDEX 0).set SWP_LINE_INDEX.INDEX 0
      let s := { s with swp.startAt := none, swp.high := none, swp.dropped := [], swp.seen := [], swp.dark := {},
                        swp.bright := {}, swp.computeDue := false, swp.computed := false,
                        swp.fitDue := s.swp.fitDue.map fun (d : Nat × Option ScanS) => (d.1, some (d.2.getD s.swp.scan)),
                        swp.scan := { no := s.get SWP_SCAN_NO.NUMBER, origin := o, cpl := s.get SWP_LINE_CPL.CPL }, swp.reqs := [],
                        swp.bottom := none, swp.lastFwd := some 0 }.runBegin
      let s := s.set SWP_REF_STATUS.PASS 0
      { s with swp.top := some 0, swp.reqs := [(0, at_, true)] }
    else s
  | none => s

/-- A scan ends with an outcome (R293); its record and fits follow (R321, R323). -/
def State.scanFinish (s : State) (code : Nat) : State :=
  let s : State := ((s.set SWP_SCAN_STATE.STATE 0).set SWP_SCAN_STATE.LAST_END code).set SWP_EVENTS.SCAN_DONE 1
  let pass := s.get SWP_REF_STATUS.PASS
  let s : State := { s.runStop with
                            swp.reqs := [], swp.hostEnd := none, swp.endDue := none, swp.startAt := none, swp.bottom := none,
                            swp.computeDue := (decide (pass = 3) && s.swp.computeDue),
                            swp.fitDue := some (code, none) }
  if pass = 3 then s else s.set SWP_REF_STATUS.PASS 0

/-- SWP_CLR.CLR_COUNTS (R12): 0x001C and 0x0048 to 0x0058. -/
def swpClrCounts (s : State) : State :=
  s.setAll [SWP_ENC_QERR_COUNT.COUNT, SWP_REV_COUNT.COUNT, SWP_REVLINE_COUNT.COUNT, SWP_SKIP_COUNT.COUNT,
    SWP_REPEAT_COUNT.COUNT, SWP_GAPLINE_COUNT.COUNT] 0

/-! ### Heaters (R304, R305, R544) -/

/-- The mean of a strip's two sensors in 1/128 K; one failed sensor leaves the other (R310). -/
def State.stripT (s : State) (bright : Bool) : Nat :=
  let a := if bright then s.get SWP_REF_TBR.RS2 else s.get SWP_REF_TDK.RS0
  let b := if bright then s.get SWP_REF_TBR.RS3 else s.get SWP_REF_TDK.RS1
  let i := if bright then 20 else 18
  if s.mon.fail.contains i then 2 * b else if s.mon.fail.contains (i + 1) then 2 * a else a + b

/-- Both sensors of a strip have failed (R304). -/
def State.stripBlind (s : State) (bright : Bool) : Bool :=
  let i := if bright then 20 else 18
  s.mon.fail.contains i && s.mon.fail.contains (i + 1)

/-- The heaters may be driven (R305). -/
def State.heatMay (s : State) : Bool := s.sys.mode == .sweep && s.get PWR_STATUS.STATE ≤ 1 && s.on SWP_REF_CTRL.HEAT_EN

/-- The drives after any change that R305 names: HB and HD on or off, the start of driving, READY. The duty that the
servo gives a driven heater is not stated. -/
def State.heatUpdate (s : State) : State :=
  let hb := s.heatMay && !s.stripBlind true && !s.swp.offBr
  let hd := s.heatMay && s.on SWP_REF_CTRL.DK_HOLD && s.get SWP_REF_DK_SET.T ≠ 0 && !s.stripBlind false && !s.swp.offDk
  let s : State := if !s.heatMay then { s with swp.drivenAt := none, swp.heatJudged := false }
    else { s with swp.drivenAt := some (s.swp.drivenAt.getD s.now) }
  let s := (s.setb SWP_REF_STATUS.HEAT_BR hb).setb SWP_REF_STATUS.HEAT_DK hd
  let s := (s.set SWP_REF_HEAT.DUTY_BR (if hb then Config.freeValue 3 s.free else 0)).set SWP_REF_HEAT.DUTY_DK
    (if hd then Config.freeValue 3 (s.free + 1) else 0)
  let s := s.nextFree.nextFree
  let near := fun (v t : Nat) => decide (v ≤ t + 32) && decide (t ≤ v + 32)
  let steady := fun (l : List Nat) => decide (spread l * 20 ≤ 128)
  let ready := s.heatMay && (!hb || near (s.stripT true) (s.stripT false + 2 * s.get SWP_REF_DT.DT)) &&
    (!hd || near (s.stripT false) (2 * s.get SWP_REF_DK_SET.T)) && s.swp.means ≠ [] &&
    steady (s.swp.means.map (·.2.1)) && steady (s.swp.means.map (·.2.2))
  let s := s.setb SWP_REF_STATUS.READY ready
  if ready then { s with swp.heatJudged := true }.unfault 0x0813 else s

/-- A new sample of a strip sensor: the means of the last 10 s (R305). -/
def State.stripSample (s : State) : State :=
  { s with swp.means := (s.now, s.stripT false, s.stripT true) ::
      s.swp.means.filter fun e => s.now ≤ e.1 + 10 * sec }.heatUpdate

/-- REF_HEATER_TIMEOUT (R305): READY has not been reached within 300 s of the heaters being driven; judged once. -/
def refHeaterTimeout (s : State) : State :=
  if (s.swp.drivenAt.any fun a => decide (a + 300 * sec ≤ s.now)) && !s.swp.heatJudged then
    ({ s with swp.heatJudged := true }.set SWP_REF_EVENTS.NOT_READY 1).fault 0x0813
  else s

/-- HEATER_OVERCURRENT (R544): the drive is off for 1 s. -/
def heaterOvercurrent (bright : Bool) (s : State) : State :=
  if bright then
    if s.on SWP_REF_STATUS.HEAT_BR then { s with swp.offBr := true, swp.brOffAt := s.now }.heatUpdate else s
  else if s.on SWP_REF_STATUS.HEAT_DK then { s with swp.offDk := true, swp.dkOffAt := s.now }.heatUpdate else s

/-- HEATER_RESTART (R544): a drive that an overcurrent turned off is restarted once it has been off for 1 s. -/
def heaterRestart (bright : Bool) (s : State) : State :=
  if bright then
    if s.swp.offBr && decide (s.swp.brOffAt + sec ≤ s.now) then { s with swp.offBr := false }.heatUpdate else s
  else if s.swp.offDk && decide (s.swp.dkOffAt + sec ≤ s.now) then { s with swp.offDk := false }.heatUpdate else s

/-! ### The strip measurement (R306) -/

/-- Index `j` lies in the averaged span of a strip region. -/
def State.inStrip (s : State) (bright : Bool) (j : Nat) : Bool :=
  let st := if bright then s.get SWP_SCAN_BRIGHT.START else s.get SWP_SCAN_DARK.START
  let n := if bright then s.get SWP_SCAN_BRIGHT.COUNT else s.get SWP_SCAN_DARK.COUNT
  let m := s.get SWP_REF_CTRL.MARGIN
  st + m ≤ j && j + m + 1 ≤ st + n

/-- Index `j` lies in a strip region. -/
def State.inRegion (s : State) (bright : Bool) (j : Nat) : Bool :=
  let st := if bright then s.get SWP_SCAN_BRIGHT.START else s.get SWP_SCAN_DARK.START
  let n := if bright then s.get SWP_SCAN_BRIGHT.COUNT else s.get SWP_SCAN_DARK.COUNT
  st ≤ j && j < st + n

/-- The last index of the later strip region. -/
def State.lastStrip (s : State) : Nat :=
  max (s.get SWP_SCAN_DARK.START + s.get SWP_SCAN_DARK.COUNT) (s.get SWP_SCAN_BRIGHT.START + s.get SWP_SCAN_BRIGHT.COUNT) - 1

/-- The paddle place of an average holds the strip's sensors: a failed one is replaced by the other. -/
def State.stripPair (s : State) (bright : Bool) : Nat × Nat :=
  let a := if bright then s.get SWP_REF_TBR.RS2 else s.get SWP_REF_TDK.RS0
  let b := if bright then s.get SWP_REF_TBR.RS3 else s.get SWP_REF_TDK.RS1
  let i := if bright then 20 else 18
  if s.mon.fail.contains i then (b, b) else if s.mon.fail.contains (i + 1) then (a, a) else (a, b)

/-- The line counts and strip temperatures of the scan record follow the sums (R323). -/
def State.stripCounts (s : State) : State :=
  { s with swp.scan := { s.swp.scan with
      darkLines := s.swp.dark.done, tdk := s.swp.dark.tb, brightLines := s.swp.bright.done, tbr := s.swp.bright.tb } }

/-- A new settings epoch discards the sums of the earlier one, unless the computation has started (R306). -/
def State.stripEpoch (s : State) : State :=
  if s.scanning && !s.swp.computed then { s with swp.dark := {}, swp.bright := {} }.stripCounts else s

/-- A complete strip output line averaged the first time its index completes (R306), until the computation starts; `ts` its t
by `tile × 4 + band`. -/
def State.stripLine (s : State) (bright : Bool) (j : Nat) (r : FrameRec) (ts : List (Nat × Int)) : State :=
  if s.inStrip bright j && !s.swp.seen.contains j && r.drop == .kept && !s.swp.computed then
    let a := if bright then s.swp.bright else s.swp.dark
    let a := { a.add true r (s.stripPair bright) with ts := a.ts ++ [ts] }
    let s := s.set SWP_REF_STATUS.PASS (if bright then 2 else 1)
    (if bright then { s with swp.bright := a } else { s with swp.dark := a }).stripCounts
  else s

/-- STRIP_COMPUTE_START (R307). -/
def stripComputeStart (s : State) : State :=
  if s.swp.computeDue && !s.swp.computed && s.get SWP_REF_STATUS.PASS != 3 then
    { s.set SWP_REF_STATUS.PASS 3 with swp.computed := true, swp.computeDue := false, swp.startGen := s.cal.newest }
  else s

/-! ### The update of a pass (R308 to R311) -/

/-- T̄ of a band of a tile over a strip's lines (R308). -/
def AvgS.bandT (a : AvgS) (tile band : Nat) : Int := a.tBar (tile * 4 + band)

/-- Strip means of a tile: per pixel index the count, sum, sum of squares. -/
def bandOf (i : Nat) : Nat := i / 4096

/-- One pixel of the dark update: R256 and R261 with the band's T̄. -/
def darkPixels (c : TileSet) (a : AvgS) (n : Nat) : List PixUpd :=
  (a.tilePx n).map fun e => onePixel c c (a.gainOf n) (a.bandT n (bandOf e.1)) e

/-- y of a strip mean through a set, a bad pixel taking its good neighbours' mean (R233, R303, R309); none for an
orphan. -/
def stripSignal (f : Mem) (tile : Nat) (c : TileSet) (a : AvgS) (px : List (Nat × Nat × Nat × Nat)) (i : Nat) : Option (Int × Nat) :=
  let own := fun j => (px.find? (·.1 == j)).map fun e =>
    meanSignal f tile c j e.2.1 e.2.2.1 (a.bandT tile (bandOf j)) (a.gainOf tile)
  if stageFor f 0x13 tile && c.bad.contains i then
    match (neighbours true (i / 4096) (i % 4096)).filterMap fun p =>
        if c.bad.contains (pixIdx true p.1 p.2) then none else own (pixIdx true p.1 p.2) with
    | [] => none
    | ys => some (qMean ys)
  else own i

/-- A reference value of one pixel (R309). -/
def refValue (ped : Nat) (y : Int × Nat) : Nat := (clampI 0 (2 ^ 24 - 1) (rhe (256 * ((ped : Int) * y.2 + y.1)) y.2)).toNat

/-- Reference values of the columns of a tile: the rhe of the mean of the group members that have one. -/
def refColumns (xa : Nat) (vs : List (Nat × Nat)) : List (Nat × Nat) :=
  let key := fun (i : Nat) => i / 4096 * 4096 + i % 4096 / max 1 xa
  (vs.map fun v => key v.1).eraseDups.map fun k =>
    let m := (vs.filter fun v => key v.1 == k).map (·.2)
    (k, (rhe (m.sum : Nat) m.length).toNat)

/-- Columns newly measured laid over those a tile held. -/
def RefLines.over (old new : List (Nat × Nat)) : List (Nat × Nat) := new ++ old.filter fun e => !new.any fun u => u.1 == e.1

/-- The reference lines that a tile holds for an image; identity (nothing listed) where R312 says so. -/
def heldRefs (c : TileSet) (xa span : Nat) : RefLines :=
  match c.refs with
  | some r => if r.xavg = xa ∧ r.span = span then r else { xavg := xa, span := span }
  | none => { xavg := xa, span := span }

/-- What a pass makes of one tile: the new set, pixels failing dark and bright, whether each strip passed, and whether a strip
with lines enough was rejected. -/
structure StripTile where
  set : TileSet
  dkFail : Nat
  brFail : Nat
  darkOk : Bool
  brightOk : Bool
  rejected : Bool
  dark : List PixUpd
  dIdx : List Nat
  wIdx : List Nat

/-- A strip has fewer averaged lines than MINLINES (R307). -/
def State.fewLines (s : State) (bright : Bool) : Bool :=
  decide ((if bright then s.swp.bright.done else s.swp.dark.done) < s.get SWP_REF_CTRL.MINLINES)

/-- One tile of a pass (R308 to R310); `tb` is TB′. A strip with too few lines changes nothing (R307). -/
def State.stripTile (s : State) (tb n : Nat) : StripTile :=
  let f := s.image
  let ped := s.get COR_PEDESTAL.PED
  let xa := imgXavg f
  let span := imgSpan f
  let dk := s.swp.dark
  let br := s.swp.bright
  let c := tileSet s.swp.startGen.tiles n
  let darkUse := !s.fewLines false
  let brightUse := !s.fewLines true
  -- dark
  let ps := if darkUse then darkPixels c dk n else []
  let base := { c with cdrift := dk.gainOf n }.rebase tb
  let upd := base.1.withPx (ps.map fun p => (p.idx, p.coef))
  let darkOk := darkUse && (ps.filter (·.fail)).length * 100 ≤ 16384 && meanOk ps && base.2 && setOk upd
  let new := if darkOk then upd else c
  let held := heldRefs c xa span
  let dpx := dk.tilePx n
  let dvals := ps.filterMap fun p => if p.fail then none else (stripSignal f n new dk dpx p.idx).map fun y => (p.idx, refValue ped y)
  let dcols := if darkOk then RefLines.over held.d (refColumns xa dvals) else held.d
  -- bright
  let bpx := if brightUse then br.tilePx n else []
  let key := fun (i : Nat) => i / 4096 * 4096 + i % 4096 / max 1 xa
  let dOf := fun (i : Nat) => match (if darkOk then dvals.find? (·.1 == i) else none) with
    | some e => e.2
    | none => ((dcols.find? (·.1 == key i)).map (·.2)).getD (256 * ped)
  let bvals := bpx.filterMap fun e => (stripSignal f n new br bpx e.1).map fun y => (e, refValue ped y)
  let ok1 := fun (e : (Nat × Nat × Nat × Nat) × Nat) =>
    devOk 60 e.1.2.1 e.1.2.2.1 e.1.2.2.2 && dOf e.1.1 + 131072 ≤ e.2
  let checked := bvals.filter fun e => !c.bad.contains e.1.1
  let pass1 := checked.filter ok1
  let bandMean := fun b => let l := (pass1.filter fun e => bandOf e.1.1 == b).map fun e => e.2 - dOf e.1.1
    (l.sum, l.length)
  let near := fun (e : (Nat × Nat × Nat × Nat) × Nat) =>
    let m := bandMean (bandOf e.1.1)
    let d := (e.2 - dOf e.1.1) * m.2
    d * 5 ≤ m.1 * 6 && m.1 * 4 ≤ d * 5
  let pass2 := pass1.filter near
  let brFail := checked.length - pass2.length
  let brightOk := decide (brFail * 100 ≤ 16384) && !bpx.isEmpty
  let wvals := (bvals.filter fun e => c.bad.contains e.1.1 || (ok1 e && near e)).map fun e => (e.1.1, e.2)
  let wcols := if brightOk then RefLines.over held.w (refColumns xa wvals) else held.w
  ⟨{ new with refs := if darkOk || brightOk then some { xavg := xa, span := span, d := dcols, w := wcols } else c.refs },
   (ps.filter (·.fail)).length, brFail, darkOk, brightOk, (darkUse && !darkOk) || (brightUse && !brightOk), ps, if darkOk then dvals.map (·.1) else [],
   if brightOk then wvals.map (·.1) else []⟩

/-- The pass checks of R310; `tb` and `tw` the strip temperatures. -/
def State.passOk (s : State) (tb tw : Nat) : Bool :=
  let pair := fun (p : Nat × Nat) => decide (p.1 ≤ p.2 + 32) && decide (p.2 ≤ p.1 + 32)
  let d := s.swp.dark
  let b := s.swp.bright
  let dt := s.get SWP_REF_DT.DT
  !s.stripBlind false && !s.stripBlind true && d.paddle.all pair && b.paddle.all pair &&
  spread (d.paddle.map fun p => p.1 + p.2) * 10 ≤ 128 && spread (b.paddle.map fun p => p.1 + p.2) * 10 ≤ 128 &&
  (d.tiles.all fun n => spread (perTile n d.temps ++ perTile n b.temps) * 5 ≤ 128) &&
  (d.done = 0 || b.done = 0 || (tw ≤ tb + dt + 32 && tb + dt ≤ tw + 32)) && (s.fewLines false || radRange tb)

/-- Per pixel q of a tile between the strips (R311). -/
def State.stripQ (s : State) (c : TileSet) (tb tw n : Nat) : List (Nat × Nat) :=
  let f := s.image
  let dpx := s.swp.dark.tilePx n
  let bpx := s.swp.bright.tilePx n
  let dL := dSub (radL c.file tw) (radL c.file tb)
  bpx.filterMap fun e => match stripSignal f n c s.swp.dark dpx e.1, stripSignal f n c s.swp.bright bpx e.1 with
    | some yd, some yw => some (e.1, toF32 (qDiv (qSub yw yd) dL))
    | _, _ => none

/-- The result of a pass in SWP_REF_LAST. -/
def State.refLast (s : State) (r : Nat) : State :=
  (((s.set SWP_REF_LAST.DARK_LINES s.swp.dark.done).set SWP_REF_LAST.BRIGHT_LINES s.swp.bright.done).set
    SWP_REF_LAST.RESULT r).set SWP_REF_STATUS.PASS 0

/-- Registers and faults of a tile's outcome in a pass (R310), and its auto-bad counts (R263). -/
def State.stripTileShow (s : State) (n : Nat) (r : StripTile) : State :=
  let s := (s.set (SWP_REF_FAILn.DK_FAIL n) r.dkFail).set (SWP_REF_FAILn.BR_FAIL n) r.brFail
  let s := if r.darkOk then { s with cal.badRun := s.badRuns n r.dark } else s
  if r.rejected then (s.set SWP_REF_EVENTS.TILE_REJECT 1).fault 0x0811 n else s

/-- The set of a tile with the pixels that R263 adds to its map. -/
def State.autoBad (s : State) (n : Nat) (c : TileSet) : State × TileSet :=
  let new := if s.on CAL_CTRL.AUTO_BAD then
      (s.cal.badRun.filter fun e => e.1 == n && 3 ≤ e.2.2 && !c.bad.contains e.2.1).map (·.2.1) else []
  (s.add (CAL_AUTOBADn.COUNT n) new.length, { c with bad := c.bad ++ new })

/-- STRIP_PASS_COMMIT (R307, R310, R311): checked and committed as a generation of source 4, or rejected. A strip with fewer than
MINLINES lines yields no update; the other strip's update goes on. Where a short strip sampled nothing, the check of the bright
mean against the dark mean has no value to take and is not made (DESIGN CHOICE, log entry 1101). -/
def stripPassCommit (s : State) : State :=
  if s.get SWP_REF_STATUS.PASS ≠ 3 then s
  else
    let few := s.fewLines false || s.fewLines true
    let s := if few then (s.set SWP_REF_EVENTS.FEW_LINES 1).fault 0x0812 else s
    if s.fewLines false && s.fewLines true then s.refLast 3
    else
      let tb := s.swp.dark.tb
      let tw := s.swp.bright.tb
      if !s.passOk tb tw then
        (((s.refLast 2).inc SWP_REF_REJECT_COUNT.COUNT).set SWP_REF_EVENTS.PASS_REJECT 1).fault 0x0810
      else
        let rs := (if s.fewLines false then s.swp.bright else s.swp.dark).tiles.map fun n => (n, s.stripTile tb n)
        let s := rs.foldl (fun s r => s.stripTileShow r.1 r.2) s
        let dm := maskOf ((rs.filter (·.2.darkOk)).map (·.1))
        let bm := maskOf ((rs.filter (·.2.brightOk)).map (·.1))
        let s := (s.set SWP_REF_TILES.DARK_OK dm).set SWP_REF_TILES.BRIGHT_OK bm
        let upd := rs.filter fun r => r.2.darkOk || r.2.brightOk
        if upd.isEmpty then s.refLast (if few then 3 else 2)
        else
          let p := upd.foldl (fun (p : State × List (Nat × TileSet)) r =>
            let q := if r.2.darkOk then p.1.autoBad r.1 r.2.set else (p.1, r.2.set)
            (q.1, p.2 ++ [(r.1, q.2)])) (s, [])
          let uncal := clearBits (p.1.get CAL_STATUS.UNCAL_MASK) dm
          let s := (p.1.commitGen 4 p.2).set CAL_STATUS.UNCAL_MASK uncal
          let s := ((s.refLast 1).set SWP_REF_EVENTS.PASS_DONE 1)
          let dIdx := upd.map fun (r : Nat × StripTile) => (r.1, r.2.dIdx)
          let wIdx := upd.map fun (r : Nat × StripTile) => (r.1, r.2.wIdx)
          let s := { s.rotationStart with
            swp.keptDark := s.swp.dark
            swp.keptBright := s.swp.bright
            swp.keptD := dIdx
            swp.keptW := wIdx
            swp.scan := { s.swp.scan with stripOk := true, darkOk := dm, brightOk := bm, gen := s.cal.newest.no } }
          if s.swp.dark.unsettled || s.swp.bright.unsettled then s
          else
            let dark := (upd.filter (·.2.darkOk)).map (·.1)
            let dark := dark.filter fun n => !s.blindTile n
            let a := s.swp.dark
            let s := dark.foldl (fun s n => s.histAdd n ⟨s.secs, a.gainOf n, a.ftBar n, (List.range 4).map (a.bandT n), tb,
              (a.tilePx n).map fun e => (e.1, toF32 (e.2.2.1, e.2.1))⟩) s
            let s := (upd.filter fun r => r.2.brightOk && r.2.darkOk && !s.blindTile r.1).foldl (fun s r =>
              let h : List HistEnt := ⟨s.secs, a.gainOf r.1, a.ftBar r.1, (List.range 4).map (a.bandT r.1), tb,
                s.stripQ r.2.set tb tw r.1⟩ :: histOf s.cal.hist2 r.1
              { s with cal.hist2 := putKey r.1 (h.take 16) s.cal.hist2 }) s
            let s := { s with cal.refits := s.cal.refits ++ dark.filter fun n => !s.cal.refits.contains n && s.refitTile != some n }
            s.refitNext

/-- A register that a scan locks may be written (STATE IDLE). -/
def State.refFree (s : State) : Bool := s.get SWP_SCAN_STATE.STATE == 0

/-- A value of COR's reference lines as SWP_REFLINE_WORDi shows it. -/
def State.refWord (s : State) (i : Nat) : Nat :=
  let f := s.image
  let xa := imgXavg f
  if 4096 / max 1 xa ≤ i then 0
  else
    let v := refLine (tileSet s.cal.force.tiles (s.get SWP_REFLINE_SEL.TILE)).refs (imgSpan f) xa (s.get COR_PEDESTAL.PED)
      (s.get SWP_REFLINE_SEL.BAND) i
    if s.get SWP_REFLINE_SEL.LINE = 0 then v.1 else v.2

def execEncoderCount (t : Nat) (up : Bool) (s : State) : Host.Outcome State Fault Refusal := .next (encoderCount up (s.at t))
def execEncoderQerr (t : Nat) (s : State) : Host.Outcome State Fault Refusal := .next (encoderQerr (s.at t))
def execEncoderSignalLoss (t : Nat) (s : State) : Host.Outcome State Fault Refusal := .next (encoderSignalLoss (s.at t))
def execEncoderSignalRestored (t : Nat) (s : State) : Host.Outcome State Fault Refusal := .next (encoderSignalRestored (s.at t))
def execEncoderZero (t : Nat) (s : State) : Host.Outcome State Fault Refusal :=
  .next (State.hostWrite 0x80020 encZeroWrite (s.at t))
def execSwpLineCplWrite (t v : Nat) (s : State) : Host.Outcome State Fault Refusal :=
  .next (State.hostWrite 0x80040 (lineCplWrite v) (s.at t))
def execScanArm (t : Nat) (s : State) : Host.Outcome State Fault Refusal := .next (State.hostWrite 0x8011C scanArmWrite (s.at t))
def execScanStart (t : Nat) (s : State) : Host.Outcome State Fault Refusal := .next (scanStart (s.at t))
def execScanEndCmd (t : Nat) (s : State) : Host.Outcome State Fault Refusal := .next (State.hostWrite 0x8011C scanEndWrite (s.at t))
def execSwpClrCounts (t : Nat) (s : State) : Host.Outcome State Fault Refusal := .next (State.hostDo 0x80138 swpClrCounts (s.at t))
def execStripComputeStart (t : Nat) (s : State) : Host.Outcome State Fault Refusal := .next (stripComputeStart (s.at t))
def execStripPassCommit (t : Nat) (s : State) : Host.Outcome State Fault Refusal := .next (stripPassCommit (s.at t))
def execRefHeaterTimeout (t : Nat) (s : State) : Host.Outcome State Fault Refusal := .next (refHeaterTimeout (s.at t))
def execHeaterOvercurrent (t : Nat) (bright : Bool) (s : State) : Host.Outcome State Fault Refusal :=
  .next (heaterOvercurrent bright (s.at t))
def execHeaterRestart (t : Nat) (bright : Bool) (s : State) : Host.Outcome State Fault Refusal :=
  .next (heaterRestart bright (s.at t))

end Sys2Proof.Machine
end

