-- ==== Sys2Proof/Machine/Refit.lean ====
section
/-!
DEFINITION. Drift refits and gain-drift fits (R264 to R269), with the reference lines they change (R312).
-/
namespace Sys2Proof.Machine

/-- t of an entry for a pixel: by band on a line tile. -/
def HistEnt.tOf (e : HistEnt) (i : Nat) : Int := if e.t.length ≤ 1 then nth 0 e.t 0 else nth 0 e.t (i / 4096)

/-- The word of a pixel in an entry. -/
def HistEnt.word (e : HistEnt) (i : Nat) : Option Nat := (e.px.find? (·.1 == i)).map (·.2)

/-- rhe of the mean of some temperatures. -/
def meanFt (l : List Nat) : Nat := if l = [] then 0 else (rhe (l.sum : Nat) l.length).toNat

/-- A tau of R266, in K. -/
def tauOf (ft tref : Nat) : Int × Nat := ((ft : Int) - tref, 64)

/-- A design row of powers of τ up to an order, as binary32 words. -/
def tauRow (order : Nat) (q : Int × Nat) : List Nat :=
  (List.range (order + 1)).map fun k => toF32 ((List.replicate k q).foldl qMul (1, 1))

/-- The RMS residual of a system of `m` rows is at most `lim` (R373). -/
def rmsOk (o : SolOut) (m lim : Nat) : Bool := o.status == 0 && f32Fin o.res && qLe (dDiv (f32q o.res) (dSqrt (dInt m))) (lim, 1)

/-- z of one event and pixel (R266), rounded once to binary32. -/
def driftZ (f : Mem) (tile : Nat) (c : TileSet) (co : Coef) (e new : HistEnt) (i w : Nat) : Nat :=
  let g := gainG (terms f tile 0 co) (e.tOf i)
  let dl := dSub (radL c.file e.tb) (radL c.file new.tb)
  toF32 (qSub (f32q w) (qDiv (qMul (qMul (f32q c.respL) dl) (2 ^ (24 + e.gain), 2 ^ c.cref)) (g, 1)))

/-- Previous o1 and o2 of a failing pixel carried to another reference and gain code (R267). -/
def keepDrift (c : TileSet) (co : Coef) (tref gain : Nat) : Coef :=
  let o1 := co.o1 + rhe (co.o2 * ((tref : Int) - c.tref)) 512
  { co with o1 := if gain = c.cdrift then clampS16 o1 else rescale o1 gain c.cdrift,
            o2 := if gain = c.cdrift then co.o2 else rescale co.o2 gain c.cdrift }

/-- A value fits S16. -/
def fitsS16 (v : Int) : Bool := clampS16 v == v

/-- The drift fit of one pixel (R266, R267): new coefficients and whether it passes. -/
def driftPixel (f : Mem) (tile tier order tref : Nat) (c : TileSet) (u : List HistEnt) (new : HistEnt) (i : Nat) : Coef × Bool × Bool :=
  let co := c.coef i
  let ms := u.map fun e => e.word i
  let kept := keepDrift c co tref new.gain
  if ms.contains none then (kept, false, true)
  else
    let zs := (u.zip ms).map fun p => driftZ f tile c co p.1 new i (p.2.getD 0)
    let o := lsqJob (modPar tier) u.length (order + 1) (u.flatMap fun e => tauRow order (tauOf e.ft tref)) zs none
    let o1 := qRhe (qMul (256, 1) (f32q (nth 0 o.x 1)))
    let o2 := if order = 2 then qRhe (qMul (4096, 1) (f32q (nth 0 o.x 2))) else 0
    let m := f32q ((new.word i).getD 0)
    let t := new.tOf i + 4 * ((c.tref : Int) - tref)
    let o0 := qRhe (qSub m (16 * o1 * t + o2 * dt2 t, 2 ^ 20))
    if rmsOk o u.length 3 && fitsS16 o0 && fitsS16 o1 && fitsS16 o2 then ({ co with o0 := o0, o1 := o1, o2 := o2 }, true, true)
    else (kept, false, o.status == 0)

/-- The gain-drift fit of one pixel (R269): g1′ where it fits. -/
def gainPixel (tier tref : Nat) (co : Coef) (u : List HistEnt) (i : Nat) : Option Int × Bool :=
  let ms := u.map fun e => e.word i
  if ms.contains none then (none, true)
  else
    let o := lsqJob (modPar tier) u.length 2 (u.flatMap fun e => tauRow 1 (tauOf e.ft tref)) (ms.map fun w => w.getD 0) none
    let u0 := f32q (nth 0 o.x 0)
    let u1 := f32q (nth 0 o.x 1)
    if o.status ≠ 0 ∨ u0.1 = 0 then (none, o.status == 0)
    else
      let g1 := qRhe (qSub (qI co.g1) (qMul (4 * co.g0, 1) (qDiv u1 u0)))
      (if fitsS16 g1 then some g1 else none, true)

/-- What a refit makes of one pixel. -/
structure RefitPx where
  idx : Nat
  coef : Coef
  fail : Bool
  systems : Nat
  notOk : Nat
  deriving Repr

/-- Both fits of one pixel. A pixel that fails keeps its previous values. -/
def refitPixel (f : Mem) (tile tier order tref : Nat) (c : TileSet) (u u2 : List HistEnt) (new : HistEnt) (i : Nat) : RefitPx :=
  let d := driftPixel f tile tier order tref c u new i
  if u2 = [] then ⟨i, d.1, !d.2.1, 1, b2n (!d.2.2)⟩
  else
    let g := gainPixel tier tref (c.coef i) u2 i
    match d.2.1, g.1 with
    | true, some g1 => ⟨i, { d.1 with g1 := g1 }, false, 2, b2n (!d.2.2) + b2n (!g.2)⟩
    | _, _ => ⟨i, keepDrift c (c.coef i) tref new.gain, true, 2, b2n (!d.2.2) + b2n (!g.2)⟩

/-- The two-point events that a refit uses (R269): at least 3 of the events' gain code that span at least 0.5 K. -/
def twoPointUse (h2 : List HistEnt) (gain : Nat) : List HistEnt :=
  let u := h2.filter (·.gain == gain)
  if 3 ≤ u.length && 32 ≤ ftSpan u then u else []

/-- D and W of a refit line tile evaluated afresh from the newest pass; identity lines stay (R312). -/
def State.refitRefs (s : State) (n : Nat) (c : TileSet) : TileSet :=
  match c.refs with
  | none => c
  | some r =>
    if identityRef (some r) (imgSpan s.image) (imgXavg s.image) then c else
    let f := s.image
    let ped := s.get COR_PEDESTAL.PED
    let idx := fun (l : List (Nat × List Nat)) => ((l.find? (·.1 == n)).map (·.2)).getD []
    let vals := fun (a : AvgS) (is : List Nat) =>
      let px := a.tilePx n
      is.filterMap fun i => (stripSignal f n c a px i).map fun y => (i, refValue ped y)
    { c with refs := some { r with
        d := RefLines.over r.d (refColumns r.xavg (vals s.swp.keptDark (idx s.swp.keptD)))
        w := RefLines.over r.w (refColumns r.xavg (vals s.swp.keptBright (idx s.swp.keptW))) } }

/-- The refit of a tile evaluated: its new set and its pixels. -/
def State.refitTileSet (s : State) (n order : Nat) : TileSet × List RefitPx × Bool :=
  let c := tileSet s.cal.newest.tiles n
  let u := usable (histOf s.cal.hist n)
  match u with
  | [] => (c, [], false)
  | new :: _ =>
    let tref := meanFt (u.map (·.ft))
    let u2 := twoPointUse (histOf s.cal.hist2 n) new.gain
    let ps := new.px.map fun p => refitPixel s.image n s.cal.refitTier order tref c u u2 new p.1
    let set := { c with tref := tref, cdrift := new.gain }.withPx (ps.map fun (p : RefitPx) => (p.idx, p.coef))
    (set, ps, u2 ≠ [])

/-- DRIFT_REFIT_DONE (R267 to R269): the refit in progress is checked and commits, or is rejected. -/
def driftRefitDone (s : State) : State :=
  match s.cal.refit with
  | none => s
  | some (n, order, start) =>
    let r := s.refitTileSet n order
    let c := tileSet s.cal.newest.tiles n
    let fails := (r.2.1.filter fun p => p.fail && !c.bad.contains p.idx).length
    let ok := decide (fails * 100 ≤ tilePixels s.lineImage) && setOk r.1
    let ms := (s.now - start) / msec
    let s := s.modBatch 1 n (r.2.1.map (·.systems)).sum (r.2.1.map (·.notOk)).sum ms
    let s := (s.modBatchJob (if r.2.2 then 2 else 1)).add SOL_MOD_BATCHES.COUNT
      (ceilDiv r.2.1.length 65536 * (if r.2.2 then 2 else 1) - 1)
    let s := ({ s with cal.refit := none }.set (CAL_TILEn_LAST.FAILPIX n) fails).set (CAL_TILEn_LAST.KIND n) 2
    let s := s.set (CAL_TILEn_LAST.RESULT n) (if ok then 1 else 2)
    let s :=
      if ok then
        let s := (s.commitGen 3 [(n, s.refitRefs n r.1)]).set CAL_EVENTS.REFIT_DONE 1
        let s := (s.set (CAL_TILEn_STATE.DRIFT_SRC n) order).driftShow
        if r.2.2 then s.set (CAL_TILEn_STATE.G1_SRC n) 1 else s
      else (s.set CAL_EVENTS.REFIT_REJECT 1).fault 0x0705 n
    s.refitNext

def execDriftRefitDone (t : Nat) (s : State) : Host.Outcome State Fault Refusal := .next (driftRefitDone (s.at t))

end Sys2Proof.Machine
end

