-- ==== Sys2Proof/Machine/Store.lean ====
section
/-!
DEFINITION. The NAND store below the operations (R490 to R500): blocks and their map, erases, page and journal programs,
the tally cells and log (R505 to R509), and the panel's refreshes (R512 to R517).
-/
namespace Sys2Proof.Machine

/-! ### Blocks (R490 to R492) -/

/-- First logical blocks of the regions of R490, in the table's order. -/
def regionStarts : List Nat := [0, 64, 128, 192, 200, 208, 464, 976, 1008, 2032, 2544, 3056, 5104]

/-- REGION of a logical block: its row of R490, from 0. -/
def regionOf (b : Nat) : Nat := (regionStarts.filter (· ≤ b)).length - 1

/-- The physical block of a logical one (R492). -/
def State.phys (s : State) (b : Nat) : Nat := ((s.nv.map.find? (·.1 == b)).map (·.2)).getD b

/-- The erase count of a physical block. -/
def State.erases (s : State) (b : Nat) : Nat := ((s.nv.erases.find? (·.1 == b)).map (·.2)).getD 0

/-- Spare blocks in all. -/
def spareBlocks : Nat := 11280

/-- The payload of ERASE_INTENT and ERASE_DONE. -/
def erasePayload (s : State) (j : EraseJ) : List Nat :=
  leBytes 4 j.phys ++ leBytes 2 j.region ++ [0, 0] ++ leBytes 4 (s.erases j.phys + 1)

/-- The journal records queued after the first `n` programs are those of a compaction. -/
def State.compFrom (s : State) (n : Nat) : State :=
  { s with nvs.progs := s.nvs.progs.take n ++ (s.nvs.progs.drop n).map fun p =>
      match p with
      | .journal r k => .journal { r with comp := true } k
      | .page k => .page k }

/-- A record of an erase of a block; erases of the journal's blocks are a compaction's (R496). -/
def State.eraseRec (s : State) (type : Nat) (j : EraseJ) : State :=
  let n := s.nvs.progs.length
  let s := s.journal type (erasePayload s j)
  if j.region = 5 then s.compFrom n else s

/-- An erase begins, or waits while the power-fail warning is active (R497, R136). -/
def State.eraseStart (s : State) (j : EraseJ) : State :=
  if s.pfw then { s with nvs.eraseWait := s.nvs.eraseWait ++ [j] }
  else { s.eraseRec 0x01 j with nvs.erasing := s.nvs.erasing ++ [j] }

/-- Erases that waited for the warning to clear begin (R136). -/
def State.eraseResume (s : State) : State :=
  s.nvs.eraseWait.foldl (fun s j => s.eraseStart j) { s with nvs.eraseWait := [] }

/-- Another key's value in a keyed list. -/
def setKey {α : Type} (k : Nat) (v : α) (l : List (Nat × α)) : List (Nat × α) := (k, v) :: l.filter fun e => e.1 ≠ k

/-- A block retired and replaced by the lowest free spare block (R492); the replacement, if there is one. -/
def State.retire (s : State) (j : EraseJ) (cause : Nat) : State × Option EraseJ :=
  let s := (s.journal 0x61 (leBytes 4 j.phys ++ [cause])).set NVS_EVENTS.RETIRED 1
  let s := { s with nv.retired := j.phys :: s.nv.retired, nv.dirty := s.nv.dirty.filter (· ≠ j.phys) }.fault 0x0E0B
  if spareBlocks ≤ s.nv.spareUsed then (s.fault 0x0E0C, none)
  else
    let new := 5104 + s.nv.spareUsed
    let s := { s with nv.spareUsed := s.nv.spareUsed + 1 }
    let s := if spareBlocks < s.nv.spareUsed + 256 then s.fault 0x0E04 else s
    match j.logical with
    | some b =>
      let s := { s with nv.map := setKey b new s.nv.map }.journal 0x60
        (leBytes 2 j.region ++ [0, 0] ++ leBytes 4 b ++ leBytes 4 new)
      (s, some { j with phys := new })
    | none => (s, some { j with phys := new })

/-- Erased and blank: ERASE_DONE, the count, the block no longer dirty; a block at 100,000 erases is retired, and its
replacement is to be erased in its place (R491, R492, R497). -/
def State.eraseOk (s : State) (j : EraseJ) : State × Option EraseJ :=
  let s := s.eraseRec 0x02 j
  let n := s.erases j.phys + 1
  let s := { s with nv.erases := setKey j.phys n s.nv.erases, nv.dirty := s.nv.dirty.filter (· ≠ j.phys) }
  if 100000 ≤ n then s.retire j 4 else (s, none)

/-! ### Work of an operation: erases, then pages -/

/-- The next step of an operation's write: an erase, or a page program. -/
def State.writeNext (s : State) (slot : Nat) : State :=
  let x := s.opx slot
  match x.todo with
  | b :: rest =>
    let s := s.opMod slot fun x => { x with todo := rest }
    s.eraseStart { phys := s.phys b, logical := some b, region := regionOf b, slot := some slot }
  | [] =>
    if x.pages = 0 then s else { s with nvs.progs := s.nvs.progs ++ [.page slot] }

/-- An operation's write begins: logical blocks to erase and pages to program. -/
def State.writeJob (s : State) (slot : Nat) (blocks : List Nat) (pages : Nat) : State :=
  (s.opMod slot fun x => { x with todo := blocks, pages := pages, first := nth 0 blocks 0, total := pages }).writeNext slot

/-- Nothing of an operation's write is left to erase or program. -/
def State.writeIdle (s : State) (slot : Nat) : Bool :=
  let x := s.opx slot
  x.todo.isEmpty && x.pages == 0 && s.nvs.erasing.all (fun j => j.slot != some slot) &&
    s.nvs.eraseWait.all (fun j => j.slot != some slot)

/-- An operation's work dropped when it ends: what waits is forgotten, an erase in progress completes. -/
def State.writeDrop (s : State) (slot : Nat) : State :=
  let s := s.opMod slot fun x => { x with todo := [], pages := 0 }
  { s with nvs.eraseWait := s.nvs.eraseWait.filter fun j => j.slot != some slot
           nvs.progs := s.nvs.progs.filter fun p => p != .page slot }

/-- Logical blocks of a file of `n` bytes placed at a first block (256 KiB each), and its 4 KiB pages. -/
def blocksOf (first bytes : Nat) : List Nat := (List.range (ceilDiv bytes 262144)).map (first + ·)
def pagesOf (bytes : Nat) : Nat := ceilDiv bytes 4096

/-! ### The tally (R505 to R509) -/

/-- First cell and total of a setting (R505). -/
def tallyField : Nat → Nat × Nat
  | 1 => (0, 64)
  | 2 => (64, 8)
  | 3 => (72, 4)
  | 4 => (76, 255)
  | 5 => (331, 2)
  | _ => (333, 0)

/-- The count of a setting: the index of its highest burnt cell plus 1 (R505, R508). -/
def tallyCount (cells : Nat) (setting : Nat) : Nat :=
  let f := tallyField setting
  ((List.range f.2).filter fun i => bit cells (f.1 + i) == 1).getLast?.elim 0 (· + 1)

/-- The module's count of a setting. -/
def State.tally (s : State) (setting : Nat) : Nat := tallyCount s.nv.cells setting

/-- The total of a setting. -/
def tallyTotal (setting : Nat) : Nat := (tallyField setting).2

/-- The module's anti-rollback epoch (R505). -/
def State.arbEpoch (s : State) : Nat := s.tally 4

/-- The bytes of a tally record (R507). -/
def TRec.bytes (r : TRec) : List Nat :=
  let b := leBytes 4 0x474C5454 ++ [r.kind, r.setting] ++ leBytes 2 r.cell ++ leBytes 2 r.count ++ [0, 0] ++ leBytes 4 r.boot ++
    leBytes 4 r.ms ++ leBytes 4 r.session ++ leBytes 2 r.keyId ++ leBytes 2 r.request.length ++ padTo 0 24 r.request ++
    List.replicate 8 0
  b ++ leBytes 4 (crc32 b)

/-- A tally record of a kind appended to both copies (R506). -/
def State.tallyLog (s : State) (kind : Nat) (b : BurnS) : State :=
  let r : TRec := ⟨kind, b.setting, b.cell, b.count, s.get NVS_BOOT_COUNT.COUNT, s.ms, b.session, b.keyId, b.request⟩
  { s with nv.tlog0 := r :: s.nv.tlog0, nv.tlog1 := r :: s.nv.tlog1 }

/-- A counted change begins with its INTENT, and the burn starts (R506); it waits while the power-fail warning is active or
another burn runs. -/
def State.burnStart (s : State) (b : BurnS) : State :=
  if s.pfw || s.nvs.burn.isSome then { s with nvs.burnWait := s.nvs.burnWait ++ [b] }
  else if b.intent then { s with nvs.burn := some b }
  else { s.tallyLog 1 b with nvs.burn := some { b with intent := true } }

/-- A counted change of a setting asked for: its cell is the setting's next. -/
def State.counted (s : State) (setting session keyId : Nat) (request : List Nat) (slot : Option Nat) : State :=
  let n := s.tally setting
  s.burnStart ⟨setting, (tallyField setting).1 + n, n + 1, session, keyId, request, slot, false⟩

/-- The first burn that waits starts, where none runs and no warning is active (R136, R506). -/
def State.burnResume (s : State) : State :=
  match s.nvs.burnWait with
  | b :: rest => if s.pfw || s.nvs.burn.isSome then s else { s with nvs.burnWait := rest }.burnStart b
  | [] => s

/-- A session's pending token of a setting with a request and its next count (R12, R115, R478). -/
def State.tokenFor (s : State) (sess setting : Nat) (request : List Nat) : Option Token :=
  match s.tmp.sessions.find? (fun e => e.no == sess && e.role == 2) with
  | some e => e.token.filter fun k => k.setting == setting && k.request == request && k.count == s.tally setting + 1
  | none => none

/-- The token that a burn has spent is gone from its session (R478). -/
def State.tokenSpent (s : State) (sess : Nat) : State :=
  { s with tmp.sessions := s.tmp.sessions.map fun e => if e.no = sess then { e with token := none } else e }

/-- The refusal of a counted change: no custodian session with a matching token (COUNTED), or no count left (R478,
R509). -/
def State.countedRefusal (s : State) (sess setting : Nat) (request : List Nat) : Option (Nat × Nat) :=
  if tallyTotal setting ≤ s.tally setting then some (1, 0x0304)
  else if (s.tokenFor sess setting request).isNone then some (1, 0x02)
  else none

/-- The DONE records of a setting in order of count (R508). -/
def State.doneRecs (s : State) (setting : Nat) : List TRec := (s.nv.tlog0.filter fun r => r.kind == 2 && r.setting == setting).reverse

/-- The facility identity (R508, R511). -/
def State.facility (s : State) : List Nat := ((s.doneRecs 5).getLast?.map (·.request)).getD (List.replicate 16 0)

/-- The binding of every position (R113, R116): the DONE records in order, each of which also removes the serial elsewhere. -/
def State.bindings (s : State) : List (Option Nat) :=
  (s.doneRecs 1).foldl (fun (l : List (Option Nat)) r =>
    let serial := leVal (r.request.drop 1)
    let l := l.map fun b => if b = some serial then none else b
    modNth (fun (_ : Option Nat) => some serial) l (nth 0xFF r.request 0)) (List.replicate 8 none)

/-- The serial bound at a position. -/
def State.boundAt (s : State) (pos : Nat) : Option Nat := nth none s.bindings pos

/-- The table of a binding that has taken effect (R115, R116): the copy that its TABLE record names; a position whose binding has been
replaced or removed keeps nothing of the old tile's, and the bank entry of the position counts no more (R247). -/
def State.tableTake (s : State) (pos copy : Nat) : State :=
  let keep := fun (i : Nat) => (s.boundAt (i / 2)).isSome && (i != 2 * pos + (1 - copy))
  { s with nv.tableAt := modNth (fun (_ : Nat) => copy) s.nv.tableAt pos
           nv.tables := (List.range 16).map fun i => if keep i then nth {} s.nv.tables i else {}
           nv.unbank := pos :: s.nv.unbank.filter (· ≠ pos) }

/-! ### The panel (R512 to R517) -/

/-- What the panel shows of the module at work, but its stamp, as numbers (R512). The layout within a row is not the model's concern. -/
def State.panelWork (s : State) : List Nat :=
  let e := s.engStatus
  s.facility.take 8 ++ [bits e 0 5, bits e 5 3, bits e 16 3] ++
    (if s.img.active.isSome then hdrName s.image ++ [hdrImageVer s.image] else []) ++
    [s.get IMG_STATUS.SRC, b2n (s.on IMG_STATUS.FALLBACK), s.get CAL_GEN.GEN, s.get CAL_STATUS.UNCAL_MASK, s.get CAL_STATUS.FACT_DRIFT_MASK,
     s.get VFE_SPARE_STATE.HELD_CHAN] ++
    (s.alm.active.take 4).map (·.code) ++ [s.alm.active.length] ++ [1, 2, 3, 4, 5].map (fun k => tallyTotal k - s.tally k) ++ s.nvs.text

/-- SHUTDOWN in the state field. -/
def shutMark : Nat := 0x53

/-- What the panel shows: the state field reads SHUTDOWN from the record of SHUTDOWN on, until SHUT_OK falls (R504, R512; DEDUCED, log
entry 1823). -/
def State.panelFields (s : State) : List Nat :=
  let shut := s.on NVS_STATUS.SHUT_OK || s.nvs.progs.any fun p => match p with | .journal r _ => r.type == 0x42 | .page _ => false
  if shut then shutMark :: s.panelWork else s.panelWork

/-- NVS_PNL_STATE.STATE (R517). -/
def State.panelState (s : State) : Nat :=
  match s.nvs.drive with
  | some d => if d.kind = 2 then 4 else 3
  | none =>
    if s.nvs.stale then 5 else if s.nv.panelCount = 0 then 0 else if s.nv.panelShown = s.panelFields then 1 else 2

/-- The driving of a refresh begins (R513): its content is stored with its SEQ, and PANEL_BEGIN is appended. -/
def State.driveNow (s : State) (d : DriveJ) : State :=
  let full := d.kind = 0 ∧ (s.nvs.afterClear ∨ (s.nv.panelCount + 1) % 16 = 0)
  let d : DriveJ := { d with seq := s.nv.panelSeq + 1, kind := if full then 1 else d.kind }
  let text := if d.purpose = 1 then (List.range 20).map (fun j => s.get (NVS_PNL_TEXTj.CHARS j)) else s.nvs.text
  let s := { s with nv.panelSeq := d.seq, nvs.drive := some d, nvs.text := text, nvs.lastKind := d.kind }
  let shown := if d.purpose = 2 ∨ d.purpose = 3 then shutMark :: s.panelWork else s.panelFields
  { s.journal 0x30 (leBytes 4 d.seq ++ [d.kind]) with nvs.shown := shown }

/-- The next refresh that waits begins, where none runs and no warning is active. A stale panel is cleared first and
then refreshed in full (R515, R516). -/
def State.drivePump (s : State) : State :=
  if s.nvs.drive.isSome || s.pfw then s
  else
    match s.nvs.driveWait with
    | [] => s
    | d :: rest =>
      if s.nvs.stale && d.kind != 2 then s.driveNow { kind := 2, purpose := 4 }
      else { s with nvs.driveWait := rest }.driveNow (if s.nvs.afterClear && d.kind != 2 then { d with kind := 1 } else d)

/-- A refresh asked for. -/
def State.driveAsk (s : State) (d : DriveJ) : State := { s with nvs.driveWait := s.nvs.driveWait ++ [d] }.drivePump

/-- A refresh whose PANEL_END is durable (R513): the panel's content, and the state after a clearing. -/
def State.driveEnd (s : State) (d : DriveJ) : State :=
  { s with nvs.drive := none, nv.panelCount := s.nv.panelCount + 1,
           nv.panelShown := if d.kind = 2 then s.nv.panelShown else s.nvs.shown,
           nvs.afterClear := d.kind == 2, nvs.stale := false }

/-- SHUT_OK follows the records programmed (R504). -/
def State.showShut (s : State) : State := s.setb NVS_STATUS.SHUT_OK (shutOk s.nv.journal)

/-- A journal record whose program has completed is durable (R493, R504). -/
def State.durable (s : State) (r : JRec) : State := { s with nv.journal := r :: s.nv.journal }.showShut

end Sys2Proof.Machine
end

