-- ==== Sys2Proof/Machine/Char.lean ====
section
/-!
DEFINITION. Characterisation, CAL_REVERT and the bank writes of both (R247 to R251, R270 to R277).
-/
namespace Sys2Proof.Machine

/-- CAL_CHAR_STATE and the phase word (R270). -/
def State.charShow (s : State) (c : CharS) (st phase : Nat) : State :=
  ((s.set CAL_CHAR_STATE.STATE st).set CAL_CHAR_STATE.POINTS c.points.length).result c.slot 1 (c.points.length + 2 ^ 8 * phase)

/-- A characterisation that stops at a failed check. -/
def State.charFail (s : State) (c : CharS) (reason : Nat) : State :=
  { (s.opFail c.slot reason).set CAL_CHAR_STATE.STATE 0 with cal.char := none, cal.avg := {} }

/-- The bound positions of the active image. -/
def State.boundMask (s : State) : Nat := s.tileMask &&& maskOf ((List.range 8).filter fun n => (s.pos n).state == 1)

/-- The argument check of CAL_CHARACTERISE (R270). -/
def charCheck (slot : Nat) (s : State) : Option (Nat × Nat) :=
  let w := s.opArg slot 2
  if w ≠ 0 ∧ (w < 30 ∨ 3600 < w) then some (1, 0x0D) else none

/-- CAL_CHARACTERISE accepted (R270): the mode is CHARACTERISE at once, at Tier 0 (R63). -/
def charBegin (sess slot : Nat) (s : State) : State :=
  let mask := s.opArg slot 0
  let s := s.opAccept sess slot 0x0701 2 0
  if mask = 0 ∨ clearBits mask s.boundMask ≠ 0 then s.opFail slot 2
  else
    let w := s.opArg slot 2
    let c : CharS := { mask := mask, drift := bit (s.opArg slot 1) 0 == 1, slot := slot, timeout := (if w = 0 then 600 else w) * sec }
    let s := { s.set GOV_STATE.TIER 0 with sys.back := s.sys.mode, sys.mode := .characterise, cal.char := some c, cal.avg := {} }
    s.charShow c 1 1

def calCharacteriseStart (sess slot : Nat) (s : State) : State × WRes := s.opStart slot 0x0701 (charCheck slot) (charBegin sess slot)

def calCharacterise (sess slot a0 a1 a2 a3 : Nat) (s : State) : State :=
  if slot < 8 then
    State.hostWrite (opAddr slot) (fun s => calCharacteriseStart sess slot (s.opArgs slot (some a0) (some a1) (some a2) (some a3))) s
  else s

/-- The points end (R271, R272): the fit begins, or the operation fails with reason 3. -/
def State.charPointsEnd (s : State) (c : CharS) : State :=
  let tbbs := c.points.map (·.tbb)
  let far := decide (640 ≤ spread tbbs)
  let fts := fun n => c.points.filterMap fun p => (p.tiles.find? (·.1 == n)).map (·.2.1)
  let gains := c.points.flatMap fun p => p.tiles.map fun t => (t.1, t.2.2)
  let one := gains.all fun g => gains.all fun h => g.1 != h.1 || g.2 == h.2
  let drift := !c.drift || (decide (6 ≤ c.points.length) && (tilesOf c.mask).all fun n => decide (128 ≤ spread (fts n)))
  if far && drift && one then s.charShow c 4 2 else s.charFail c 3

/-- A write of CAL_CHAR_CMD (R271). -/
def calCharCmdWrite (v : Nat) (s : State) : State × WRes :=
  match s.cal.char with
  | none => (s, .ok)
  | some c =>
    let st := s.get CAL_CHAR_STATE.STATE
    if bit v 1 = 1 ∧ 1 ≤ st ∧ st ≤ 3 then ({ s with cal.avg := {} }.charPointsEnd c, .ok)
    else if bit v 0 = 1 ∧ st = 1 then
      let c := { c with tbb := s.get CAL_CHAR_POINT.TBB, goAt := s.now }
      ({ s with cal.char := some c }.charShow c 2 1, .ok)
    else (s, .ok)

/-- CHAR_POINT_STABLE (R271): every tile of the mask has changed by at most 0.05 K over 10 s, and averaging begins. -/
def charPointStable (s : State) : State :=
  match s.cal.char with
  | some c =>
    if s.get CAL_CHAR_STATE.STATE = 2 ∧ s.tilesSteady s.now c.mask then { s.charShow c 3 1 with cal.avg := { want := s.get CAL_CHAR_FRAMES.N } } else s
  | none => s

/-- The point that an average makes (R271). -/
def charPointOf (c : CharS) (a : AvgS) : CharPt :=
  let ts := (tilesOf c.mask).filter fun n => a.tiles.contains n
  { tbb := c.tbb, tiles := ts.map fun n => (n, a.ftBar n, a.gainOf n),
    px := (a.px.filter fun e => ts.contains e.1).map fun e => (e.1, e.2.1, (e.2.2.2.1 : Int), e.2.2.1) }

/-- CHAR_POINT_DONE (R271): the average is complete; a point whose tile temperature moved by more than 0.1 K is discarded,
and the 16th point ends the points. -/
def charPointDone (s : State) : State :=
  match s.cal.char with
  | some c =>
    let a := s.cal.avg
    if s.get CAL_CHAR_STATE.STATE = 3 ∧ a.done = a.want ∧ 0 < a.want then
      let s := { s with cal.avg := {} }
      if (tilesOf c.mask).any fun n => decide (128 < spread (perTile n a.temps) * 10) then s.charShow c 2 1
      else
        let c := { c with points := c.points ++ [charPointOf c a] }
        let s := { s with cal.char := some c }
        if c.points.length = 16 then s.charPointsEnd c else s.charShow c 1 1
    else s
  | none => s

/-- CHAR_POINT_TIMEOUT (R271): the point's timeout has passed. -/
def charPointTimeout (s : State) : State :=
  match s.cal.char with
  | some c =>
    let st := s.get CAL_CHAR_STATE.STATE
    if (st = 2 ∨ st = 3) ∧ c.goAt + c.timeout ≤ s.now then s.charFail c 4 else s
  | none => s

/-! ### The fit (R273, R274) -/

/-- A pixel's solution: a0, a1, a2, b0, b1 as fractions, its RES and status. -/
structure CharPx where
  idx : Nat
  a : List (Int × Nat)
  res : Nat
  ok : Bool
  deriving Repr

/-- The unknowns of the fit: whether a2 is fitted. -/
def charOrder (s : State) (c : CharS) : Nat := if !c.drift then 0 else if stageParam s.image 0x12 0 1 = 2 then 2 else 1

/-- One pixel's system (R273). -/
def charSolve (tier order : Nat) (l : List (Int × Nat)) (taus : List (Int × Nat)) (ms : List Nat) (i : Nat) : CharPx :=
  let m := ms.length
  let row := fun (k : Nat) =>
    let t := nth ((0, 1) : Int × Nat) taus k
    let x := nth ((0, 1) : Int × Nat) l k
    if order = 0 then [0x3F800000, toF32 x] else tauRow order t ++ [toF32 x, toF32 (qMul t x)]
  let n := if order = 0 then 2 else order + 3
  let o := if m < n then ({} : SolOut) else lsqJob (modPar tier) m n ((List.range m).flatMap row) ms none
  let x := fun k => f32q (nth 0 o.x k)
  let a := match order with
    | 0 => [x 0, (0, 1), (0, 1), x 1, (0, 1)]
    | 1 => [x 0, x 1, (0, 1), x 2, x 3]
    | _ => [x 0, x 1, x 2, x 3, x 4]
  ⟨i, a, o.res, o.status == 0 && o.x.all f32Fin && rmsOk o m 3⟩

/-- The integers of a pixel from its solution and b̄0 (R273). -/
def charCoef (drift : Bool) (old : Coef) (bbar : Int × Nat) (p : CharPx) : Coef × Bool :=
  let q := fun k => nth ((0, 1) : Int × Nat) p.a k
  let b0 := q 3
  let g0 := qRhe (qMul (16384, 1) (qDiv bbar b0))
  let g1 := qRhe (qMul (-4 * g0, 1) (qDiv (q 4) b0))
  let o0 := qRhe (q 0)
  let o1 := qRhe (qMul (256, 1) (q 1))
  let o2 := qRhe (qMul (4096, 1) (q 2))
  let ok := decide (0 < b0.1) && decide (0 ≤ g0) && decide (g0 ≤ 65535) && fitsS16 o0 && (!drift || (fitsS16 g1 && fitsS16 o1 && fitsS16 o2))
  (if drift then ⟨o0, o1, o2, g0.toNat, g1⟩ else { old with o0 := o0, g0 := g0.toNat }, ok)

/-- What a fit makes of a tile: its set, pixels fitted and failed, its RMS residual in 1/256 count, accepted. -/
structure CharTile where
  tile : Nat
  set : TileSet
  fitted : Nat
  failed : Nat
  rms : Nat
  ok : Bool
  deriving Repr

/-- One tile of the fit (R273, R274): b̄0 is the mean over the pixels whose values lie in their formats against the mean of every
candidate. -/
def State.charTile (s : State) (c : CharS) (n : Nat) : CharTile :=
  let old := tileSet s.cal.base n
  let order := charOrder s c
  let pts := c.points.filter fun p => p.tiles.any (·.1 == n)
  let ft := fun (p : CharPt) => ((p.tiles.find? (·.1 == n)).map (·.2.1)).getD 0
  let gain := ((pts.head?.bind fun p => p.tiles.find? (·.1 == n)).map (·.2.2)).getD 0
  let tref := meanFt (pts.map ft)
  let tb := (pts.head?.map (·.tbb)).getD 0
  let l0 := radL old.file tb
  let ls := pts.map fun p => dSub (radL old.file p.tbb) l0
  let taus := pts.map fun p => tauOf (ft p) tref
  let idx := ((pts.head?.map fun p => (p.px.filter (·.1 == n)).map (·.2.1)).getD [])
  let sols := idx.map fun i =>
    let ms := pts.filterMap fun p => (p.px.find? fun e => e.1 == n && e.2.1 == i).map fun e => toF32 (e.2.2.1, e.2.2.2)
    charSolve 0 order ls taus ms i
  let mean := fun (l : List CharPx) => if l = [] then ((0, 1) : Int × Nat) else qMean (l.map fun p => nth (0, 1) p.a 3)
  let cand := sols.filter fun p => p.ok && decide (0 < (nth ((0, 1) : Int × Nat) p.a 3).1) && !old.bad.contains p.idx
  let bbar := mean (cand.filter fun p => (charCoef c.drift (old.coef p.idx) (mean cand) p).2)
  let done := sols.map fun p => (p, charCoef c.drift (old.coef p.idx) bbar p)
  let pass := done.filter fun d => d.1.ok && d.2.2
  let fail := done.filter fun d => !(d.1.ok && d.2.2)
  let resp := toF32 bbar
  let set0 : TileSet := { old with tref := tref, cref := gain, cdrift := gain, tb := tb, lb := toF32 l0, respL := resp, kr := krOf resp,
                                   kt := (ktOf old.file resp tb).toNat, bad := fail.map (·.1.idx), refs := none, px := [] }
  let set := set0.withPx (pass.map fun d => (d.1.idx, d.2.1))
  let sq := pass.foldl (fun acc d => qAdd acc (qMul (f32q d.1.res) (f32q d.1.res))) ((0, 1) : Int × Nat)
  let rms := if pass = [] then 0 else (qRhe (qMul (256, 1) (dSqrt (qDiv sq ((pass.length * pts.length : Nat), 1))))).toNat
  ⟨n, set, done.length, fail.length, rms,
   pts.all (fun p => radRange p.tbb) && decide (fail.length * 100 ≤ tilePixels s.lineImage) && f32Pos resp && setOk set && decide (1 ≤ ktOf old.file resp tb)⟩

/-! ### Bank writes (R249) -/

/-- Bytes that an entry of a tile takes in a bank: its per-tile values and planes. -/
def entryBytes (line : Bool) : Nat := 64 + 10 * tilePixels line + tilePixels line / 8

/-- A bank write begins with the entries it is to hold (R249). -/
def State.bankBegin (s : State) (slot entries : Nat) : State :=
  let k := match s.newestBank with | some b => 1 - b | none => 0
  let seq := (s.newestBank.elim 0 fun b => (nth ({} : BankS) s.nv.banks b).seq) + 1
  let s := s.journal 0x20 ([k, 0, 0, 0] ++ leBytes 4 seq)
  let s := { s with nv.banks := modNth (fun (b : BankS) => { b with state := 2 }) s.nv.banks k, cal.bankJob := some (k, seq) }
  let bytes := entries * entryBytes s.lineImage
  s.showBanks.writeJob slot (blocksOf (2032 + 512 * k) bytes) (pagesOf bytes)

/-- Entries of other positions that a bank write carries over: those that count (R247, R275). -/
def State.carryEntries (s : State) (mask : Nat) : List (Nat × BankEnt) :=
  s.bankEntries.filter fun e => bit mask e.1 == 0 && s.entryCounts e

/-- CHAR_FIT_DONE (R274, R275): tiles accepted or rejected; the bank write begins. -/
def charFitDone (s : State) : State :=
  match s.cal.char with
  | some c =>
    if s.get CAL_CHAR_STATE.STATE ≠ 4 then s
    else
      let ts := (tilesOf c.mask).map (s.charTile c)
      let s := ts.foldl (fun s r => s.results c.slot (2 + 4 * r.tile) [r.fitted, r.failed, r.rms, if r.ok then 1 else 2]) s
      let s := ts.foldl (fun (s : State) r =>
        (s.modBatch 3 r.tile r.fitted r.failed 0).add SOL_MOD_BATCHES.COUNT (ceilDiv r.fitted 65536 - 1)) s
      let made := (ts.filter (·.ok)).map fun r => (r.tile, r.set)
      if made = [] then s.charFail c 5
      else
        let c := { c with made := made }
        let s := { s with cal.char := some c }.charShow c 5 3
        s.bankBegin c.slot (made.length + (s.carryEntries (maskOf (made.map (·.1)))).length)
  | none => s

/-- CAL_REVERT accepted (R277). -/
def revertBegin (sess slot : Nat) (s : State) : State :=
  let s := s.opAccept sess slot 0x0702 2 0
  let keep := s.carryEntries (s.opArg slot 0)
  let bytes := keep.length * entryBytes s.lineImage
  let s := s.opMod slot fun x =>
    { x with bound := 3 * msec * (blocksOf 0 bytes).length + 300 * us * pagesOf bytes + 50 * msec }
  s.bankBegin slot keep.length

def calRevertStart (sess slot : Nat) (s : State) : State × WRes := s.opStart slot 0x0702 (fun _ => none) (revertBegin sess slot)

def calRevert (sess slot a0 : Nat) (s : State) : State :=
  if slot < 8 then State.hostWrite (opAddr slot) (fun s => calRevertStart sess slot (s.opArgs slot (some a0) none none none)) s else s

/-- CAL_TILEn_STATE.CHAR of every position. -/
def State.showChar (s : State) : State :=
  (List.range 8).foldl (fun (s : State) n =>
    s.setb (CAL_TILEn_STATE.CHAR n) (s.bankEntries.any fun e => e.1 == n && s.entryCounts e)) s

/-- The drift of a tile is that of its base set again (R125, R267). -/
def State.driftBase (s : State) (n : Nat) : State :=
  ((s.set (CAL_TILEn_STATE.DRIFT_SRC n) 0).set (CAL_TILEn_STATE.G1_SRC n) 0).driftShow

/-- The set of a tile in a generation of source 5 (R243, R275): the values that the result replaces, from the new base set; all others,
the reference lines and without DRIFT o1, o2 and g1 among them, from the generation before. -/
def State.charGen (s : State) (drift : Bool) (n : Nat) : TileSet :=
  let b := s.baseSet n
  let p := tileSet s.cal.newest.tiles n
  if drift then { b with refs := p.refs }
  else
    let idx := (b.px.map (·.1) ++ p.px.map (·.1)).eraseDups
    { b with refs := p.refs, px := idx.map fun i => (i, { p.coef i with o0 := (b.coef i).o0, g0 := (b.coef i).g0 }) }

/-- The operation whose bank write runs. -/
def State.bankSlot (s : State) : Option Nat :=
  match s.slotOf 0x0701 with
  | some k => some k
  | none => s.slotOf 0x0702

/-- BANK_DONE is durable: the bank as committed, and the base sets and the generation it makes (R249, R275, R277). -/
def State.bankCommit (s : State) (slot k seq : Nat) : State :=
  let made := (s.cal.char.map (·.made)).getD []
  let drift := (s.cal.char.map (·.drift)).getD false
  let char := s.get (OP_CMD.CMD slot) == 0x0701
  let mask := if char then maskOf (made.map (·.1)) else s.opArg slot 0
  let tiles := s.carryEntries mask ++
    (if char then made.map fun (e : Nat × TileSet) => (e.1, ({ serial := (s.pos e.1).bound, drift := drift, set := e.2 } : BankEnt)) else [])
  let s := { s with nv.banks := modNth (fun _ => { seq := seq, state := 1, tiles := tiles }) s.nv.banks k, nv.unbank := [], cal.bankJob := none }
  let s := s.showBanks.showChar
  let ch := (List.range 8).filter fun n => bit mask n == 1 && s.cal.base.any (·.1 == n)
  let new := ch.map fun n => (n, s.baseSet n)
  let s := { s with cal.base := new ++ s.cal.base.filter fun (e : Nat × TileSet) => !ch.contains e.1 }
  let gen := (new.filter fun e => bit s.tileMask e.1 == 1).map fun e => (e.1, if char then s.charGen drift e.1 else e.2)
  let s := s.commitGen (if char then 5 else 6) gen
  let s := ch.foldl (fun (s : State) n => if char && !drift then s.histDrop n else (s.histDrop n).driftBase n) s
  { ((s.set CAL_EVENTS.BANK_WRITTEN 1).result slot 0 0).set CAL_CHAR_STATE.STATE 0 with cal.char := none }

/-- BANK_WRITE_DONE (R249): the entries have been read back; BANK_DONE is the commit step. -/
def bankWriteDone (same : Bool) (s : State) : State :=
  match s.cal.bankJob, s.bankSlot with
  | some (k, seq), some slot =>
    if !s.writeIdle slot || (s.opx slot).commit then s
    else if same then
      (s.journal 0x21 ([k, 0, 0, 0] ++ leBytes 4 seq) (some slot)).opMod slot fun x => { x with commit := true }
    else
      let s := { (s.fault 0x0708).set CAL_CHAR_STATE.STATE 0 with cal.bankJob := none, cal.char := none }
      s.opFail slot 6
  | _, _ => s

/-- An abort that wins against either operation (R276): no bank, base set or generation changes. -/
def State.charAbort (s : State) (slot : Nat) : State :=
  { (s.writeDrop slot).set CAL_CHAR_STATE.STATE 0 with cal.char := none, cal.bankJob := none, cal.avg := {} }

def calCharGo (s : State) : State := State.hostWrite 0x70304 (calCharCmdWrite 1) s
def calCharFit (s : State) : State := State.hostWrite 0x70304 (calCharCmdWrite 2) s

def execCalCharacterise (t sess slot a0 a1 a2 a3 : Nat) (s : State) : Host.Outcome State Fault Refusal :=
  .next (calCharacterise sess slot a0 a1 a2 a3 (s.at t))
def execCalCharGo (t : Nat) (s : State) : Host.Outcome State Fault Refusal := .next (calCharGo (s.at t))
def execCalCharFit (t : Nat) (s : State) : Host.Outcome State Fault Refusal := .next (calCharFit (s.at t))
def execCharPointStable (t : Nat) (s : State) : Host.Outcome State Fault Refusal := .next (charPointStable (s.at t))
def execCharPointDone (t : Nat) (s : State) : Host.Outcome State Fault Refusal := .next (charPointDone (s.at t))
def execCharPointTimeout (t : Nat) (s : State) : Host.Outcome State Fault Refusal := .next (charPointTimeout (s.at t))
def execCharFitDone (t : Nat) (s : State) : Host.Outcome State Fault Refusal := .next (charFitDone (s.at t))
def execCalRevert (t sess slot a0 : Nat) (s : State) : Host.Outcome State Fault Refusal := .next (calRevert sess slot a0 (s.at t))
def execBankWriteDone (t : Nat) (same : Bool) (s : State) : Host.Outcome State Fault Refusal := .next (bankWriteDone same (s.at t))

end Sys2Proof.Machine
end

