-- ==== Sys2Proof/Machine/Edge.lean ====
section
/-!
DEFINITION. EDGE (R317 to R322) and the scan record (R323, R324).
-/
namespace Sys2Proof.Machine

/-! ### Object columns and edges of one output line -/

/-- W_out of the active image. -/
def State.wOut (s : State) : Nat := s.lineLayout.2.toNat

/-- A code of RAD32 read as a sign-magnitude number (R318). -/
def signMag (w : Nat) : Int := if wNeg w then -(wMag w : Int) else (wMag w : Int)

/-- An object column (R318). -/
def isObject (rad : Bool) (pol thr : Nat) (p : OutPix) : Bool :=
  !p.orphan &&
    (if rad then (if pol = 0 then decide (signMag thr ≤ signMag p.v) else decide (signMag p.v ≤ signMag thr))
     else if pol = 0 then decide (thr ≤ p.v) else decide (p.v ≤ thr))

/-- First column of segment s. -/
def segFirst (w k : Nat) : Nat := k * w / 64

/-- h_s of a segment. -/
def segHalf (w k : Nat) : Nat := (segFirst w (k + 1) - segFirst w k + 1) / 2

/-- n_s of every segment for a list of object columns. -/
def segCounts (w : Nat) (obj : List Nat) : List Nat :=
  (List.range 64).map fun k => (obj.filter fun c => decide (segFirst w k ≤ c) && decide (c < segFirst w (k + 1))).length

/-- Columns ascending. -/
def insertNat (c : Nat) : List Nat → List Nat
  | [] => [c]
  | d :: l => if c ≤ d then c :: d :: l else d :: insertNat c l

/-- Runs of successive columns of an ascending list: (first, last). -/
def colRuns : List Nat → List (Nat × Nat)
  | [] => []
  | c :: l =>
    match colRuns l with
    | (a, b) :: rs => if c + 1 = a then (c, b) :: rs else (c, c) :: (a, b) :: rs
    | [] => [(c, c)]

/-- The left and the right edge of a line (R320). -/
def sideEdges (runLen : Nat) (obj : List Nat) : Option Nat × Option Nat :=
  let rs := (colRuns obj).filter fun r => decide (runLen ≤ r.2 + 1 - r.1)
  (rs.head?.map (·.1), rs.getLast?.map (·.2))

/-- E_s in binary32 (R319). -/
def edgeValue (j h n0 n1 : Nat) : Nat :=
  let ar : Arith := {}
  let f := fun (x : Int) => toF32 (x, 1)
  let q := (ar.div (f ((h : Int) - n0)) (f ((n1 : Int) - n0))).1
  (ar.add (f ((j : Int) - 1)) q).1

/-- The scan's data while its lines complete: of the scan in progress, or of the one whose record is due. -/
def State.scanData (s : State) : ScanS :=
  match s.swp.fitDue with
  | some (_, some d) => d
  | _ => s.swp.scan

/-- One emitted object line judged by EDGE (R318 to R320). E_s of a clipped segment is an open value. -/
def ScanS.edge (d : ScanS) (free w runLen j : Nat) (obj : List Nat) : ScanS :=
  let ns := segCounts w obj
  let before : Option (List Nat) := match d.prev with
    | some p => if p.1 + 1 = j then some p.2 else none
    | none => none
  let found := (List.range 64).filter fun k => decide (segHalf w k ≤ nth 0 ns k) && decide (0 < segHalf w k)
  let new := (found.filter fun k => !d.lead.any (·.1 == k)).map fun k =>
    match before with
    | some b => (k, edgeValue j (segHalf w k) (nth 0 b k) (nth 0 ns k), false)
    | none => (k, Config.freeValue 5 (free + k), true)
  let e := sideEdges runLen obj
  { d with prev := some (j, ns), lead := d.lead ++ new, trail := if found = [] then d.trail else some j,
           sides := if d.sides.length < 65536 then (j, e.1, e.2) :: d.sides else d.sides }

/-- EDGE on an emitted object line of a format, where the image has the stage. -/
def State.edgeLine (s : State) (format j : Nat) (px : List OutPix) : State :=
  if (stageOf s.image 0x25).isNone then s
  else
    let rad := format == 2
    let obj := ((px.filter fun p => p.row == s.get SWP_EDGE_CTRL.BAND &&
      isObject rad (s.get SWP_EDGE_CTRL.POL) (s.get SWP_EDGE_THR.THR) p).map (·.col)).foldr insertNat []
    let d := s.swp.scan.edge s.free s.wOut (s.get SWP_EDGE_CTRL.RUNLEN) j obj
    { s with swp.scan := d, free := s.free + 64 }

/-! ### Positions (R317) -/

/-- Plane position of column m of a tile, in pitches. -/
def tilePos (x : Int) (xa m : Nat) : Int × Nat := (2 * x + 2000 * (xa * m : Nat) + 1000 * ((xa : Int) - 1), 2000)

/-- Position of a seam column between two tiles. -/
def seamPos (xa w : Nat) (a b : Nat × Int) (xs : List (Nat × Int)) (c : Int) : Int × Nat :=
  let x := fun n => ((xs.find? (·.1 == n)).map (·.2)).getD 0
  let p := tilePos (x a.1) xa (w - 1)
  let q := tilePos (x b.1) xa 0
  qAdd p (qMul (qSub q p) (c - (a.2 + w) + 1, (b.2 - (a.2 + w)).toNat + 1))

/-- Position of an output column. -/
def colPos (xa w : Nat) (xs : List (Nat × Int)) (c : Nat) : List (Nat × Int) → Int × Nat
  | [] => (0, 1)
  | [a] => tilePos (((xs.find? (·.1 == a.1)).map (·.2)).getD 0) xa ((c : Int) - a.2).toNat
  | a :: b :: l =>
    if (c : Int) < a.2 + w then tilePos (((xs.find? (·.1 == a.1)).map (·.2)).getD 0) xa ((c : Int) - a.2).toNat
    else if (c : Int) < b.2 then seamPos xa w a b xs c
    else colPos xa w xs c (b :: l)

/-- Position of an output column on the present carrier. -/
def State.colX (s : State) (c : Nat) : Int × Nat :=
  let xa := imgXavg s.image
  colPos xa (4096 / max 1 xa) s.tileOrder c s.lineLayout.1

/-! ### atan in binary64 (R322) -/

/-- The scale of the fixed-point evaluation. -/
def fixOne : Int := 2 ^ 160

/-- atan of a fixed-point argument by its series, ascending powers: `k` is the next odd divisor, `p` the power. -/
def atanSeries (x2 : Int) : Nat → Int → Int → Int
  | 0, _, _ => 0
  | n + 1, k, p => p / k - atanSeries x2 n (k + 2) (p * x2 / fixOne)

/-- tan of half an angle from its tan. -/
def halfTan (x : Int) : Int :=
  let r : Int := isqrt (fixOne * fixOne + x * x).toNat
  x * fixOne / (fixOne + r)

/-- atan of a fraction in fixed point, after four halvings. -/
def atanFix (q : Int × Nat) : Int :=
  let x := (q.1.natAbs : Int) * fixOne / (q.2 : Int)
  let y := halfTan (halfTan (halfTan (halfTan x)))
  let a := 16 * atanSeries (y * y / fixOne) 40 1 y
  if q.1 < 0 then -a else a

/-- atan rounded to binary64. -/
def atanD (q : Int × Nat) : D := dRound (atanFix q, (2 ^ 160 : Nat))

/-- An angle in binary64 microradians. -/
def micro (a : D) : D := dMul (dInt 1000000) a

/-! ### The fits (R321) -/

/-- A fit's result: words, RMS word, count, valid. -/
structure FitOut where
  words : List Nat := []
  rms : Nat := 0
  n : Nat := 0
  valid : Bool := false
  deriving DecidableEq, Repr

/-- RES / √M in binary64 is at most 2 (R321), and the binary32 word of it. -/
def rmsOf (res m : Nat) : D := dDiv (f32q res) (dSqrt (dInt m))

/-- The leading fit over (position, E_s). -/
def leadFit (tier : Nat) (pts : List ((Int × Nat) × Nat)) : FitOut × SolOut :=
  let m := pts.length
  if m < 2 then ({ n := m }, {})
  else
    let o := lsqJob (modPar tier) m 2 (pts.flatMap fun p => [0x3F800000, toF32 p.1]) (pts.map (·.2)) none
    let rms := rmsOf o.res m
    ({ words := o.x, rms := toF32 rms, n := m,
       valid := decide (8 ≤ m) && o.status == 0 && f32Fin o.res && qLe rms (2, 1) }, o)

/-- The sums of the side fit in binary64: G, h and SS over the unknowns a_L, a_R and b. -/
structure SideSums where
  nl : Nat := 0
  nr : Nat := 0
  jl : D := (0, 1)
  jr : D := (0, 1)
  jj : D := (0, 1)
  xl : D := (0, 1)
  xr : D := (0, 1)
  jx : D := (0, 1)
  xx : D := (0, 1)
  deriving DecidableEq, Repr

/-- One edge added. -/
def SideSums.add (u : SideSums) (right : Bool) (j : Nat) (x : D) : SideSums :=
  let dj := dInt j
  let u := { u with jj := dAdd u.jj (dMul dj dj), jx := dAdd u.jx (dMul dj x), xx := dAdd u.xx (dMul x x) }
  if right then { u with nr := u.nr + 1, jr := dAdd u.jr dj, xr := dAdd u.xr x }
  else { u with nl := u.nl + 1, jl := dAdd u.jl dj, xl := dAdd u.xl x }

/-- The side fit. -/
def sideFit (tier : Nat) (u : SideSums) : FitOut × SolOut :=
  let m := u.nl + u.nr
  if m = 0 then ({}, {})
  else
    let z : D := (0, 1)
    let r := normalJob tier 3 [dInt u.nl, z, u.jl, z, dInt u.nr, u.jr, u.jl, u.jr, u.jj] [u.xl, u.xr, u.jx] u.xx [0, 1]
    let rms := rmsOf r.2.res m
    ({ words := (r.1.getD []).map toF32, rms := toF32 rms, n := m,
       valid := decide (64 ≤ m) && r.2.status == 0 && f32Fin r.2.res && qLe rms (2, 1) }, r.2)

/-- Segments with an unclipped edge. -/
def ScanS.unclipped (d : ScanS) : List (Nat × Nat) := (d.lead.filter fun e => !e.2.2).map fun e => (e.1, e.2.1)

/-- The greatest of some fractions. -/
def qMaxL : List (Int × Nat) → Option (Int × Nat)
  | [] => none
  | q :: l => match qMaxL l with
    | some m => some (if qLe m q then q else m)
    | none => some q

/-- The window of the side fit: first and last line (R320). -/
def ScanS.sideWindow (d : ScanS) : Option (Int × Int) :=
  match qMaxL (d.unclipped.map fun e => f32q e.2), d.trail with
  | some e, some t => some (-((-e.1) / (e.2 : Int)) + 16, (t : Int) - 16)
  | _, _ => none

/-- The recorded edges that the side fit uses, ascending (R320). -/
def ScanS.sideUsed (d : ScanS) (w : Nat) : List (Nat × Option Nat × Option Nat) :=
  match d.sideWindow with
  | none => []
  | some (a, b) =>
    (d.sides.reverse.filter fun e => decide (a ≤ e.1) && decide ((e.1 : Int) ≤ b)).map fun e =>
      (e.1, e.2.1.filter (fun c => c ≠ 0 && c + 1 ≠ w), e.2.2.filter fun c => c ≠ 0 && c + 1 ≠ w)

/-- The side window reaches beyond the last recorded line (R320). -/
def ScanS.truncated (d : ScanS) : Bool :=
  match d.sideWindow, d.sides.head? with
  | some (_, b), some e => decide ((e.1 : Int) < b) && d.sides.length == 65536
  | _, _ => false

/-- What EDGE found, as fields of the record (R323): angles and fits. -/
structure EdgeRec where
  flags : Nat := 0
  lead : FitOut := {}
  side : FitOut := {}
  angles : List Nat := [0x80000000, 0x80000000, 0x80000000]
  deriving DecidableEq, Repr

/-- The fits and angles of a scan (R321, R322). -/
def State.edgeFits (s : State) (d : ScanS) : EdgeRec × List SolOut :=
  let w := s.wOut
  let tier := s.get GOV_STATE.TIER
  let l := leadFit tier (d.unclipped.map fun e =>
    (qMul (1, 2) (qAdd (s.colX (segFirst w e.1)) (s.colX (segFirst w (e.1 + 1) - 1))), e.2))
  let u := (d.sideUsed w).foldl (fun (u : SideSums) e =>
    let u := match e.2.1 with | some c => u.add false e.1 (dRound (s.colX c)) | none => u
    match e.2.2 with | some c => u.add true e.1 (dRound (s.colX c)) | none => u) {}
  let r := sideFit tier u
  let tl := micro (atanD (f32q (nth 0 l.1.words 1)))
  let ts := micro (atanD (qNeg (f32q (nth 0 r.1.words 2))))
  let mean := if l.1.valid && r.1.valid then some (dDiv (dAdd tl ts) (2, 1)) else if l.1.valid then some tl
    else if r.1.valid then some ts else none
  let show_ := fun (v : Option D) => match v with | some q => unsigned 32 (qRhe q) | none => 0x80000000
  let flags := 2 * b2n l.1.valid + 4 * b2n r.1.valid + 16 * b2n (d.lead == []) +
    32 * b2n (d.trail.isSome && d.trail == d.last) + 256 * b2n d.truncated
  ({ flags := flags, lead := l.1, side := r.1,
     angles := [show_ (if l.1.valid then some tl else none), show_ (if r.1.valid then some ts else none), show_ mean] },
   (if 2 ≤ l.1.n then [l.2] else []) ++ (if r.1.n = 0 then [] else [r.2]))

/-! ### The scan record (R323) -/

/-- The 384 bytes of a scan record. -/
def scanRecordBytes (xa code : Nat) (noStage : Bool) (d : ScanS) (e : EdgeRec) : List Nat :=
  let flags := b2n d.stripOk + e.flags + 8 * b2n noStage + 64 * b2n (0 < d.reversals) + 128 * b2n d.trouble
  let u32 := leBytes 4
  let u16 := leBytes 2
  let clip := (d.lead.map fun l => if l.2.2 then 2 ^ l.1 else 0).sum
  u32 0x52435354 ++ u16 1 ++ u16 384 ++ u32 d.no ++ [code, xa] ++ u16 flags ++ leBytes 8 (unsigned 64 d.origin) ++ u32 d.cpl ++
    u32 d.gen ++ [d.darkOk, d.brightOk] ++ u16 d.darkLines ++ u16 d.brightLines ++ u16 d.tdk ++ u16 d.tbr ++ u16 0 ++
    u32 (d.first.getD 0xFFFFFFFF) ++ u32 (d.last.getD 0xFFFFFFFF) ++ u32 d.emitted ++ u32 d.skipped ++ u32 d.reversals ++
    u32 (nth 0 e.lead.words 1) ++ u32 (nth 0 e.lead.words 0) ++ u32 e.lead.rms ++
    u32 (nth 0 e.side.words 2) ++ u32 (nth 0 e.side.words 0) ++ u32 (nth 0 e.side.words 1) ++ u32 e.side.rms ++
    e.angles.flatMap u32 ++ u32 (if noStage then 0 else d.trail.getD 0xFFFFFFFF) ++ u16 e.lead.n ++ u16 0 ++ u32 e.side.n ++
    leBytes 8 clip ++ u32 0 ++
    (List.range 64).flatMap fun k =>
      u32 (if noStage then 0 else ((d.lead.find? (·.1 == k)).map (·.2.1)).getD 0x7FC00000)

/-- EDGE_FIT_DONE (R321, R322): both fits of the ended scan, its skew and its record. -/
def edgeFitDone (s : State) : State :=
  match s.swp.fitDue with
  | none => s
  | some (code, _) =>
    if (stageOf s.image 0x25).isNone then s
    else
      let d := s.scanData
      let r := s.edgeFits d
      let s := (List.range r.2.length).foldl (fun s k =>
        let o := nth {} r.2 k
        s.modBatch (if r.2.length = 1 ∧ r.1.side.n ≠ 0 then 5 else 4 + k) 0 1 (b2n (o.status != 0)) 0) s
      let s := ((s.setb SWP_EDGE_STATUS.LEAD_VALID r.1.lead.valid).setb SWP_EDGE_STATUS.SIDE_VALID r.1.side.valid).setb
        SWP_EDGE_STATUS.NO_OBJECT (d.lead == [])
      let s := (s.set SWP_EDGE_STATUS.N_LEAD r.1.lead.n).set SWP_SKEW.SKEW (nth 0x80000000 r.1.angles 2)
      { s with swp.fitDue := none, swp.recDue := some (scanRecordBytes (imgXavg s.image) code false d r.1) }

/-- The record that is due, built here where the image has no EDGE stage (R323). -/
def State.recordDue (s : State) : Option (List Nat) :=
  match s.swp.recDue with
  | some b => some b
  | none =>
    match s.swp.fitDue with
    | some (code, _) =>
      if (stageOf s.image 0x25).isNone then some (scanRecordBytes (imgXavg s.image) code true s.scanData {}) else none
    | none => none

/-- The record in SWP_SCANREC_WORDi (R324). -/
def State.showRecord (s : State) (b : List Nat) : State :=
  let s := (List.range 96).foldl (fun s i => s.set (SWP_SCANREC_WORDi.BYTES i) (leVal ((b.drop (4 * i)).take 4))) s
  { s with swp.recDue := none, swp.fitDue := if s.swp.recDue.isSome then s.swp.fitDue else none }

def execEdgeFitDone (t : Nat) (s : State) : Host.Outcome State Fault Refusal := .next (edgeFitDone (s.at t))

end Sys2Proof.Machine
end

