-- ==== Sys2Proof/Machine/Ilv.lean ====
section
/-!
DEFINITION. The interleave estimation of station 4: the closing of a window, its solve and its late solve (R193 to
R195, R374, R375).
-/
namespace Sys2Proof.Machine

/-- The window of a front-end closes at a boundary that finds it full (R193). -/
def State.ilvClose (s : State) (fe : Nat) : State :=
  let w := s.window fe
  if 2 ^ s.get VFE_ILV_WIN.WIN ≤ w.n then
    { s with vfe.window := s.vfe.window.filter (·.1 ≠ fe)
             vfe.solving := s.vfe.solving ++ [{ fe := fe, sums := w, since := s.now, tier := s.get GOV_STATE.TIER }] }
  else s

/-- Every full window closes, at a boundary. -/
def State.ilvCloseAll (s : State) : State := (List.range 33).foldl State.ilvClose s

/-- The terms that a window's data fits (R193): c1 and c2. -/
def IlvSums.fits (w : IlvSums) : Bool × Bool := (spreadAtLeast w.n w.m w.mm 4096, spreadAtLeast w.n w.d w.dd 512)

/-- The normal form of a window over the terms it fits (R192, R193). -/
def IlvSums.solve (w : IlvSums) (tier : Nat) : Option (List (Int × Nat)) × SolOut :=
  let f := w.fits
  let n : Int := w.n
  let keep := [true, f.1, f.2]
  let idx := (List.range 3).filter fun i => nth false keep i
  let g := [[n, w.m, w.d], [w.m, w.mm, w.md], [w.d, w.md, w.dd]]
  let h := [w.e, w.em, w.ed]
  normalJob tier idx.length (idx.flatMap fun i => idx.map fun j => qI (nth 0 (nth [] g i) j))
    (idx.map fun i => qI (nth 0 h i)) (qI w.ee) [0]

/-- The estimates of a solve (R194): OFS_e, G_e and K_e, the last two where their terms were fitted. -/
def ilvEstimates (f : Bool × Bool) (c : List (Int × Nat)) : Option (Int × Option Int × Option Int) :=
  let c1 := nth ((0, 1) : Int × Nat) c 1
  let c2 := nth ((0, 1) : Int × Nat) c (if f.1 then 2 else 1)
  let one := qAdd (1, 1) c1
  if f.1 ∧ one.1 = 0 then none
  else
    some (qRhe (nth (0, 1) c 0),
      if f.1 then some (qRhe (qMul (2 ^ 20, 1) (qDiv (qNeg c1) one))) else none,
      if f.2 then some (qRhe (qMul (2 ^ 20, 1) c2)) else none)

/-- The estimates are plausible (R194). -/
def ilvPlausible (e : Int × Option Int × Option Int) : Bool :=
  decide (e.1.natAbs ≤ 8192) && decide ((e.2.1.getD 0).natAbs ≤ 20972) && decide ((e.2.2.getD 0).natAbs ≤ 8389)

/-- One value moved toward its estimate (R195). -/
def ilvMove (alpha : Nat) (lim v e : Int) : Int := v + clampI (-lim) lim (rhe (e - v) (2 ^ alpha))

/-- The updated set (R195). -/
def ilvUpdate (alpha : Nat) (v : IlvSet) (e : Int × Option Int × Option Int) : IlvSet :=
  { ofs := ilvMove alpha 64 v.ofs e.1
    g := (match e.2.1 with | some g => ilvMove alpha 210 v.g g | none => v.g)
    k := (match e.2.2 with | some k => ilvMove alpha 42 v.k k | none => v.k) }

/-- The solve of a front-end's window ends (R193 to R196). -/
def ilvSolveDone (fe : Nat) (s : State) : State :=
  match s.vfe.solving.find? (·.fe == fe) with
  | none => s
  | some v =>
    let f := v.sums.fits
    let r := v.sums.solve v.tier
    let ok := r.2.status = 0
    let s := { s with vfe.solving := s.vfe.solving.erase v }
    let s := s.modBatch 0 0 1 (b2n (r.2.status != 0)) ((s.now - v.since) / msec)
    let s := (s.setb (VFE_ILVn_STAT.HELD_G fe) (!f.1)).setb (VFE_ILVn_STAT.HELD_K fe) (!f.2)
    match if ok then r.1 else none with
    | none => s
    | some c =>
      match (ilvEstimates f c).filter ilvPlausible with
      | none =>
        let s := (s.set VFE_EVENTS.ILV_REJECT 1).incSat (VFE_ILVn_STAT.REJECTS fe)
        if s.get (VFE_ILVn_STAT.REJECTS fe) = 4 then s.fault 0x0501 fe else s
      | some e =>
        if !s.on VFE_ILV_CTRL.EST_EN ∨ s.on VFE_ILV_CTRL.FREEZE then s
        else
          let s := (s.set (VFE_ILVn_STAT.REJECTS fe) 0).unfault 0x0501 fe
          { s with vfe.next := putKey fe (ilvUpdate (s.get VFE_ILV_CTRL.ALPHA) (s.ilv fe) e) s.vfe.next }

/-- A solve of a front-end marked late. -/
def markLate (fe : Nat) (w : IlvSolve) : IlvSolve := if w.fe = fe then { w with late := true } else w

/-- A solve has not ended 5 ms after its window closed at Tier 0, or 10 ms at any tier (R375). -/
def ilvSolveLate (fe : Nat) (s : State) : State :=
  match s.vfe.solving.find? (fun v => v.fe == fe && !v.late) with
  | none => s
  | some v =>
    if v.since + (if v.tier = 0 then 5 else 10) * msec ≤ s.now then
      let s := { s with vfe.solving := s.vfe.solving.map (markLate fe) }
      ((s.inc SOL_MOD_LATE.COUNT).set SOL_EVENTS.MOD_LATE 1).fault 0x0901
    else s

def execIlvSolveDone (t fe : Nat) (s : State) : Host.Outcome State Fault Refusal := .next (ilvSolveDone fe (s.at t))
def execIlvSolveLate (t fe : Nat) (s : State) : Host.Outcome State Fault Refusal := .next (ilvSolveLate fe (s.at t))

end Sys2Proof.Machine
end

