-- ==== Sys2Proof/Machine/Mon.lean ====
section
/-!
DEFINITION. The monitor converter (R403 to R428): correction and units, failures and their consequences, alarms, the
regular and the injected sequence, self-calibration.
-/
namespace Sys2Proof.Machine

/-! ### Entries (R404, R406) -/

def entInput (e : Nat × Nat) : Nat := bits e.1 0 5
def entSpan (e : Nat × Nat) : Nat := bits e.1 8 5
def entGain (e : Nat × Nat) : Nat := bits e.1 16 3
def entAvg (e : Nat × Nat) : Nat := bits e.1 20 4

/-- The REFTICKs that an entry takes (R406). -/
def entTime (e : Nat × Nat) : Nat := 2 ^ entAvg e * (e.2 + 6)

/-- An entry lies within R406. -/
def entOk (injected : Bool) (e : Nat × Nat) : Bool :=
  bits e.1 5 3 == 0 && bits e.1 13 3 == 0 && bits e.1 19 1 == 0 && e.1 < 2 ^ 24 && entInput e ≤ 23 && 1 ≤ entSpan e &&
  entInput e + entSpan e ≤ 24 && entGain e ≤ 4 && entAvg e ≤ 8 && 4 ≤ e.2 && e.2 ≤ 4096 && (!injected || entSpan e == 1)

/-- The cycle time (R407), and the cycle interval (R418). -/
def MonSeq.time (q : MonSeq) : Nat := (q.reg.map entTime).sum
def MonSeq.interval (q : MonSeq) : Nat := if q.period = 0 then q.time else q.period

/-- The inputs that the module needs (R418). -/
def neededInputs (tileMask : Nat) (line : Bool) : List Nat :=
  22 :: ((tilesOf tileMask).flatMap fun n => [2 * n, 2 * n + 1]) ++ (if line then [18, 19, 20, 21] else [16, 17])

/-- An entry serves an input. -/
def entServes (e : Nat × Nat) (n : Nat) : Bool := entInput e ≤ n && n < entInput e + entSpan e

/-- The check of R418: 0, or the REFUSE code of R419. -/
def MonSeq.check (q : MonSeq) (tileMask : Nat) (line : Bool) : Nat :=
  let need := neededInputs tileMask line
  if !(1 ≤ q.reg.length && q.reg.length ≤ 16 && q.inj.length ≤ 4 && q.trig < 16 && q.reg.all (entOk false) && q.inj.all (entOk true))
  then 1
  else if (q.period ≠ 0 && q.period < q.time) || 1000000 < max q.period q.time then 2
  else if need.any fun n => !q.reg.any fun e => entServes e n then 3
  else if need.any fun n => !q.reg.any fun e => entServes e n && q.interval * entSpan e ≤ 1000000 then 4
  else if 40960 < (q.inj.map entTime).sum then 5
  else 0

/-- The boot sequence (R420). -/
def bootSeq : MonSeq :=
  let w := fun (input span gain avg : Nat) => input + 256 * span + 65536 * gain + 2 ^ 20 * avg
  { reg := ((List.range 8).map fun n => (w (2 * n) 2 3 4, 40)) ++ [(w 16 2 3 4, 40), (w 18 4 3 4, 40), (w 22 1 1 2, 20), (w 23 1 1 2, 4)],
    period := 10000 }

/-- The sequence that the shadow registers hold (R419). -/
def State.shadowSeq (s : State) : MonSeq :=
  { reg := (List.range (min 16 (s.get MON_SEQ_CTRL.REG_LEN))).map fun i => (s.get (MON_SEQi_W0.W0 i), s.get (MON_SEQi_W1.SAMPT i)),
    inj := (List.range (min 4 (s.get MON_SEQ_CTRL.INJ_LEN))).map fun j => (s.get (MON_ISEQj_W0.W0 j), s.get (MON_ISEQj_W1.SAMPT j)),
    trig := s.get MON_SEQ_CTRL.INJ_TRIG, period := s.get MON_SEQ_PERIOD.PERIOD }

/-- The lengths of the shadow lie within R417. -/
def State.shadowLens (s : State) : Bool :=
  1 ≤ s.get MON_SEQ_CTRL.REG_LEN && s.get MON_SEQ_CTRL.REG_LEN ≤ 16 && s.get MON_SEQ_CTRL.INJ_LEN ≤ 4

/-- The REFUSE code of the shadow against the active image; 0 for a valid shadow. -/
def State.shadowRefuse (s : State) : Nat :=
  if s.sys.mode = .load then 6 else if !s.shadowLens then 1 else s.shadowSeq.check s.tileMask s.lineImage

/-- A sequence in force: the MON_ACT registers show it, and every rotation restarts (R419). -/
def State.seqSet (s : State) (q : MonSeq) : State :=
  let ent := fun (l : List (Nat × Nat)) (i : Nat) => nth (0, 0) l i
  let s := (List.range 16).foldl (fun s i => (s.set (MON_ACT_SEQi_W0.W0 i) (ent q.reg i).1).set (MON_ACT_SEQi_W1.SAMPT i) (ent q.reg i).2) s
  let s := (List.range 4).foldl (fun s j => (s.set (MON_ACT_ISEQj_W0.W0 j) (ent q.inj j).1).set (MON_ACT_ISEQj_W1.SAMPT j) (ent q.inj j).2) s
  let s := (s.set MON_ACT_CTRL.ALL (q.reg.length + 2 ^ 8 * q.inj.length + 2 ^ 16 * q.trig)).set MON_ACT_PERIOD.PERIOD q.period
  { s.set MON_CYCLE.TIME q.time with mon.act := q, mon.rot := List.replicate 16 0 }

/-- The regular sequence is to start a new cycle at entry 0 now. -/
def State.seqRestart (s : State) : State :=
  { s.set MON_STATUS.ENTRY 0 with mon.cycling := false, mon.due := s.tick, mon.ended := s.tick, mon.lastEnd := s.tick }

/-! ### Units (R405, R409, R410) -/

/-- The corrected code c of R409 in quarter codes, rounded and limited: VALUE. `sum` over 2^avg codes. -/
def corrCode (sum avg : Nat) (ofs : Int) (gain : Nat) (hofs : Int) (hgain : Nat) : Nat :=
  let m := qSub (sum, 2 ^ avg) (ofs, 16)
  let c := qMul (qSub (qMul m (gain, 2 ^ 15)) (hofs, 16)) (hgain, 2 ^ 15)
  (clampI 0 65535 (qRhe (qMul (4, 1) c))).toNat

/-- The input-referred code c1 of a result VALUE at a gain code. -/
def code1 (value gain : Nat) : Int × Nat := (value, 4 * 2 ^ gain)

/-- R of R405 in ohms: c1 × 25,000 / 32,768. -/
def ohms (value gain : Nat) : Int × Nat := qMul (code1 value gain) (25000, 32768)

def ptA : D := dRound (39083, 10 ^ 7)
def ptB : D := dRound (-5775, 10 ^ 10)
def ptC : D := dRound (-4183, 10 ^ 15)

/-- The root of R410 for a resistance; none where the expression under the root is negative. -/
def ptRoot (r : D) : Option D :=
  let u := dSub (dMul ptA ptA) (dMul (dMul (dInt 4) ptB) (dSub (dInt 1) (dDiv r (dInt 1000))))
  if u.1 < 0 then none else some (dDiv (dAdd (qNeg ptA) (dSqrt u)) (dMul (dInt 2) ptB))

/-- A Newton step on the full curve at `t`: the step. -/
def ptStep (r t : D) : D :=
  let t2 := dMul t t
  let t3 := dMul t2 t
  let f := dMul (dInt 1000) (dAdd (dAdd (dAdd (dInt 1) (dMul ptA t)) (dMul ptB t2)) (dMul (dMul ptC (dSub t (dInt 100))) t3))
  let d := dMul (dInt 1000) (dAdd (dAdd ptA (dMul (dMul (dInt 2) ptB) t))
    (dMul ptC (dSub (dMul (dInt 4) t3) (dMul (dInt 300) t2))))
  dDiv (dSub f r) d

/-- At most `n` Newton steps from `t`; none where no step falls below 10^-6 K. -/
def ptNewton (r : D) : Nat → D → Option D
  | 0, _ => none
  | n + 1, t =>
    let h := ptStep r t
    if qLt (qAbs h) (1, 10 ^ 6) then some (dSub t h) else ptNewton r n (dSub t h)

/-- The temperature of R410 in °C. -/
def ptTemp (r : Int × Nat) : Option D :=
  let r := dRound r
  match ptRoot r with
  | none => none
  | some t => if qLe (1000, 1) r then some t else ptNewton r 16 t

/-- 273.15 in binary64. -/
def zeroC : D := dRound (27315, 100)

/-- What a sample comes to: state (1 valid, 2 OPEN, 3 SHORT, 4 RANGE), value, and t of R410 for a resistive input. -/
structure Sample where
  state : Nat
  value : Nat := 0
  t : D := (0, 1)
  deriving DecidableEq, Repr

/-- The sample of input `n` from VALUE at a gain (R405, R410, R412); `full` if a raw code was 16,383. -/
def State.sample (s : State) (n value gain : Nat) (full : Bool) : Sample :=
  if n < 22 then
    if full then ⟨2, 0, (0, 1)⟩
    else
      let r := ohms value gain
      if qLt r (100, 1) then ⟨3, 0, (0, 1)⟩
      else match ptTemp r with
        | none => ⟨4, 0, (0, 1)⟩
        | some t =>
          let k := dAdd t zeroC
          if qLt k (200, 1) || qLt (360, 1) k then ⟨4, 0, (0, 1)⟩
          else ⟨1, (qRhe (dMul (dInt 64) k)).toNat, t⟩
  else if n = 22 then
    let v := qRhe (qAdd ((s.get MON_DIE_K0.K0 : Int), 1) (qMul (s.geti MON_DIE_K1.K1, 2 ^ 16) (code1 value gain)))
    if v ≤ 14281 ∨ 27082 ≤ v then ⟨4, 0, (0, 1)⟩ else ⟨1, v.toNat, (0, 1)⟩
  else ⟨1, (qRhe (qMul (code1 value gain) (25000, 16384))).toNat % 2 ^ 16, (0, 1)⟩

/-- The corrected tile temperature of R411 from t of R410. -/
def tileTemp (t : D) (gain : Nat) (ofs : Int) : Nat :=
  let k := dAdd zeroC (dDiv (dMul t (dInt gain)) (dInt 32768))
  (clampI 0 65535 (qRhe (dAdd (dMul (dInt 64) k) (ofs, 4)))).toNat

/-! ### Failures (R412, R413) and the tile sensors (R158, R411) -/

/-- The module judges an input (R412). -/
def State.judged (s : State) (n : Nat) : Bool :=
  if n < 16 then bit (s.get FPL_CARRIER.PRESENT_MASK) (n / 2) == 1
  else if 18 ≤ n ∧ n ≤ 21 then s.get FPL_CARRIER.TYPE == 2 else true

/-- The fault of a failed input. -/
def inputFault (n : Nat) : Nat := if 18 ≤ n ∧ n ≤ 21 then 0x0814 else 0x0B02

/-- SENS_OK follows the strip sensors (R304), and the heaters with it. -/
def State.sensOk (s : State) (n : Nat) : State :=
  if 18 ≤ n ∧ n ≤ 21 then
    (s.set SWP_REF_STATUS.SENS_OK (((List.range 4).map fun i =>
      if s.mon.fail.contains (18 + i) || s.get (MON_VALn.STATE (18 + i)) == 0 then 0 else 2 ^ i).sum)).heatUpdate
  else s

/-- A failed sample (R412). -/
def State.sampleFail (s : State) (n st tick : Nat) : State :=
  let new := !s.mon.fail.contains n
  let s := (s.set (MON_VALn.STATE n) st).set MON_FAIL_STATUS.INPUTS (s.get MON_FAIL_STATUS.INPUTS ||| 2 ^ n)
  let s := { s with mon.good := modNth (fun (_ : Nat) => 0) s.mon.good n,
                    mon.fail := if new then n :: s.mon.fail else s.mon.fail,
                    mon.failAt := (n, tick) :: s.mon.failAt.filter (·.1 ≠ n) }
  let s := if new && inputFault n == 0x0814 then s.set SWP_REF_EVENTS.SENS_FAULT 1 else s
  let s := if new then (s.set MON_EVENTS.INPUT_FAIL 1).fault (inputFault n) n else s
  s.sensOk n

/-- A sample that is not failed: the value, the tick, and the end of a failure after the fourth (R412). -/
def State.sampleGood (s : State) (n value tick : Nat) : State :=
  let g := min 4 (nth 0 s.mon.good n + 1)
  let s := (s.set (MON_VALn.VALUE n) value).set (MON_VALn_TICK.TICK n) tick
  let s := { s with mon.good := modNth (fun (_ : Nat) => g) s.mon.good n }
  let s := if s.mon.fail.contains n then
      if g = 4 then
        { (s.set (MON_VALn.STATE n) 1).set MON_FAIL_STATUS.INPUTS (s.get MON_FAIL_STATUS.INPUTS ^^^ 2 ^ n) with
          mon.fail := s.mon.fail.filter (· ≠ n), mon.failAt := s.mon.failAt.filter (·.1 ≠ n) }.unfault (inputFault n) n
      else s
    else s.set (MON_VALn.STATE n) 1
  s.sensOk n

/-- The tile is in disagreement (R158). -/
def State.apart (s : State) (n : Nat) : Bool :=
  s.isActive 0x0409 n || s.alm.unheld.contains (0x0409, n)

/-- Both sensors of a tile are in use and agree within 2.0 K. -/
def State.agrees (s : State) (n : Nat) : Bool :=
  let a := s.get (FPL_TEMPn.TSA n)
  let b := s.get (FPL_TEMPn.TSB n)
  nth 0 s.fpl.sensor n == 0 && !s.mon.fail.contains (2 * n) && !s.mon.fail.contains (2 * n + 1) && a ≤ b + 128 && b ≤ a + 128

/-- The sensor nearer the mean of the other biased tiles that agree: 1 TSA, 2 TSB; TSA on a tie and with no such tile
(R158). -/
def State.nearer (s : State) (n : Nat) : Nat :=
  let others := (tilesOf s.bring.biasMask).filter fun m => m ≠ n && s.agrees m
  if others = [] then 1
  else
    let sum := (others.map fun m => s.get (FPL_TEMPn.TSA m) + s.get (FPL_TEMPn.TSB m)).sum
    let k := 2 * others.length
    let da := ((s.get (FPL_TEMPn.TSA n) * k : Nat) : Int) - (sum : Nat)
    let db := ((s.get (FPL_TEMPn.TSB n) * k : Nat) : Int) - (sum : Nat)
    if db.natAbs < da.natAbs then 2 else 1

/-- The sensor in use of a tile, its disagreement and 0x0B03 (R158, R413). -/
def State.tileSensor (s : State) (n : Nat) : State :=
  let fa := s.mon.fail.contains (2 * n)
  let fb := s.mon.fail.contains (2 * n + 1)
  let use := fun (s : State) (k : Nat) => { s with fpl.sensor := modNth (fun (_ : Nat) => k) s.fpl.sensor n }
  if fa && fb then s.level true 0x0B03 n
  else
    let s := s.level false 0x0B03 n
    if fa then use s 2
    else if fb then use s 1
    else if s.get (MON_VALn.STATE (2 * n)) = 0 ∨ s.get (MON_VALn.STATE (2 * n + 1)) = 0 then s
    else
      let a := s.get (FPL_TEMPn.TSA n)
      let b := s.get (FPL_TEMPn.TSB n)
      let d := if a ≤ b then b - a else a - b
      let s := if 128 < d ∧ !s.apart n then (s.set FPL_EVENTS.TS_DISAGREE 1).fault 0x0409 n
        else if d ≤ 96 then s.unfault 0x0409 n else s
      if s.apart n then use s (s.nearer n) else use s 0

/-- The value of a tile or paddle sensor joins those of the last 11 s (R128, R259, R271). -/
def State.tempKeep (s : State) (n v : Nat) : State :=
  { s with bring.temps := (s.now, n, v) :: s.bring.temps.filter fun e => s.now ≤ e.1 + 11 * sec }

/-- The consequences of a sample of a sensor (R158, R253, R304, R411, R413, R128). -/
def State.sensorTake (s : State) (n : Nat) (v : Sample) : State :=
  if n < 16 then
    let m := n / 2
    let id := (s.pos m).ident
    let s := if v.state = 1 ∧ id ≠ [] then
        let off := if n % 2 = 0 then 0x44 else 0x48
        let tt := tileTemp v.t (identLe id (off + 2) 2) (signed 16 (identLe id off 2))
        let s := s.set (if n % 2 = 0 then FPL_TEMPn.TSA m else FPL_TEMPn.TSB m) tt
        s.tempKeep n tt
      else s
    s.tileSensor m
  else if v.state ≠ 1 then s
  else match n with
    | 16 => (s.set CAL_PADDLE_T.SHA v.value).tempKeep 16 v.value
    | 17 => (s.set CAL_PADDLE_T.SHB v.value).tempKeep 17 v.value
    | 18 => (s.set SWP_REF_TDK.RS0 v.value).stripSample
    | 19 => (s.set SWP_REF_TDK.RS1 v.value).stripSample
    | 20 => (s.set SWP_REF_TBR.RS2 v.value).stripSample
    | 21 => (s.set SWP_REF_TBR.RS3 v.value).stripSample
    | _ => s

/-! ### The die (R65, R424) -/

/-- 0x0104 clears: comparator released and 16 consecutive DIE values at or below 105 °C (R526). -/
def State.heatClear (s : State) : State :=
  if s.mon.dieCool = 16 ∧ s.get MON_STATUS.OT_COMP = 0 then { s.unfaultAwake 0x0104 with alm.heatSince := none, alm.escHeat := false } else s

/-- Die over temperature (R65): 0x0104, and from White to Silver TIER_MAX at the next boundary. -/
def State.dieOver (s : State) : State :=
  let s := s.faultAwake 0x0104
  let s : State := if s.asleep then s else { s with alm.heatSince := some (s.alm.heatSince.getD s.now) }
  if s.get PWR_STATUS.STATE ≤ 2 then
    { s.tierForce (s.get GOV_CTRL.TIER_MAX) with gov.hot := true, gov.cool := 0 }
  else s

/-- A DIE value in 1/64 K. -/
def State.dieTake (s : State) (v : Nat) : State :=
  let hot := decide (24522 ≤ v)
  let crossing := hot && s.mon.dieHot != some true
  let s := { s with mon.dieHot := some hot, mon.dieTop := decide (25162 ≤ v), mon.dieCool := if v ≤ 24201 then min 16 (s.mon.dieCool + 1) else 0 }
  let s := if v ≤ 24201 then s else { s with gov.cool := 0 }
  let s := if crossing then s.dieOver else s
  s.heatClear

/-! ### The core rail (R426) -/

/-- The set point in force, in 0.1 mV. -/
def State.vcoreSet (s : State) : Nat :=
  match s.get PWR_STATUS.STATE with
  | 0 => 7200 + 100 * s.get GOV_STATE.VCODE
  | 1 => 7200 + 100 * s.get GOV_VLIMIT.VSTART
  | _ => 7200

/-- A VCORE sample whose first conversion began at tick `t0` (R426). -/
def State.vcoreTake (s : State) (v t0 : Nat) : State :=
  if 16 * t0 < s.mon.vAt + 50 * us then s
  else
    let p := s.vcoreSet
    if p + 200 < v ∨ v + 200 < p then
      let n := min 4 (s.mon.vBad + 1)
      let s := { s with mon.vBad := n, mon.vGood := 0 }
      if n = 4 ∧ s.alm.coreSince.isNone then
        { (s.set MON_EVENTS.VCORE 1).fault 0x0B05 with alm.coreSince := some s.now }
      else s
    else
      let n := min 4 (s.mon.vGood + 1)
      let s := { s with mon.vGood := n, mon.vBad := 0 }
      if n = 4 then { s.unfault 0x0B05 with alm.coreSince := none, alm.escCore := false } else s

/-! ### Alarms (R425) -/

/-- One side of an input's alarm after a sample: `out` beyond the threshold, `back` back behind it. -/
def State.alarmSide (s : State) (n : Nat) (high en out back : Bool) : State :=
  let f := if high then MON_VALn.ALM_HI n else MON_VALn.ALM_LO n
  let w := if high then MON_ALM_HI_STATUS.INPUTS else MON_ALM_LO_STATUS.INPUTS
  let put := fun (s : State) (k : Nat) =>
    if high then { s with mon.hi := modNth (fun (_ : Nat) => k) s.mon.hi n }
    else { s with mon.lo := modNth (fun (_ : Nat) => k) s.mon.lo n }
  let run := nth 0 (if high then s.mon.hi else s.mon.lo) n
  let q := s.get (MON_ALMn_CTRL.QUAL n)
  if s.on f then
    if !back then put s 0
    else if run + 1 < q then put s (run + 1)
    else
      let s := ((put s 0).set f 0).set w (s.get w ^^^ 2 ^ n)
      if s.on (MON_VALn.ALM_HI n) || s.on (MON_VALn.ALM_LO n) then s else s.unfault 0x0B04 n
  else if !(en && out) then put s 0
  else if run + 1 < q then put s (run + 1)
  else ((((put s 0).set f 1).set w (s.get w ||| 2 ^ n)).set MON_EVENTS.ALARM 1).fault 0x0B04 n

/-- The alarms of an input after a sample that did not fail. -/
def State.alarmTake (s : State) (n value : Nat) : State :=
  let h := s.get (MON_ALMn_CTRL.HYST n)
  let hi := s.get (MON_ALMn_HI.HI n)
  let lo := s.get (MON_ALMn_LO.LO n)
  let s := s.alarmSide n true (s.on (MON_ALMn_CTRL.EN_HI n)) (hi < value) (value + h ≤ hi)
  s.alarmSide n false (s.on (MON_ALMn_CTRL.EN_LO n)) (value < lo) (lo + h ≤ value)

/-- Every run of every alarm restarts (R425, R428). -/
def State.alarmRuns (s : State) : State :=
  { s with mon.hi := List.replicate 24 0, mon.lo := List.replicate 24 0 }

/-- Every alarm clears and every run restarts: an image commit (R425). -/
def State.alarmReset (s : State) : State :=
  (List.range 24).foldl (fun s n => ((s.set (MON_VALn.ALM_HI n) 0).set (MON_VALn.ALM_LO n) 0).unfault 0x0B04 n)
    ((s.alarmRuns.set MON_ALM_HI_STATUS.INPUTS 0).set MON_ALM_LO_STATUS.INPUTS 0)

/-- A write of an alarm register (R425): the input's runs restart. -/
def monAlarmWrite (addr v : Nat) (s : State) : State × WRes :=
  s.loadGuard fun s =>
  match fieldsAt addr with
  | none => (s, .refuse 1 0)
  | some fs =>
    let n := (addr - 0xB0380) / 16
    if addr < 0xB0380 ∨ 0xB0500 ≤ addr then (s, .refuse 1 0)
    else if addr % 16 = 0 ∧ (MON_ALMn_CTRL.QUAL n).ofWord v = 0 then (s, .refuse 1 0x0D)
    else
      let s := fs.foldl (fun s f => s.set f (f.ofWord v)) s
      ({ s with mon.hi := modNth (fun (_ : Nat) => 0) s.mon.hi n, mon.lo := modNth (fun (_ : Nat) => 0) s.mon.lo n }, .ok)

/-! ### Ages (R427) -/

/-- The age in REFTICKs of a needed input's last sample; a failed input's from its last failed sample. -/
def State.inputAge (s : State) (n : Nat) : Nat :=
  match s.mon.failAt.find? (·.1 == n) with
  | some e => s.tick - e.2
  | none => (s.tick + 2 ^ 32 - s.get (MON_VALn_TICK.TICK n)) % 2 ^ 32

/-- The needed inputs that R427 counts. -/
def State.needed (s : State) : List Nat :=
  (neededInputs s.tileMask s.lineImage).filter fun n => s.judged n

/-- 0x0B06 clears when every needed input is fresh. -/
def State.freshClear (s : State) : State :=
  if s.needed.all fun n => s.inputAge n ≤ 2000000 then (List.range 24).foldl (fun s n => s.unfault 0x0B06 n) s else s

/-- MON_INPUT_STARVED (R427). -/
def monInputStarved (n : Nat) (s : State) : State :=
  if s.on MON_STATUS.RUNNING && s.needed.contains n && decide (2000000 < s.inputAge n) then
    (s.set MON_EVENTS.STARVED 1).level true 0x0B06 n
  else s

/-! ### A completed entry (R408) -/

/-- A result word of MON_RSLT or MON_IRSLT. -/
def State.rsltSet (s : State) (inj : Bool) (i value input : Nat) (ovr fail : Bool) : State :=
  if inj then
    ((((((s.set (MON_IRSLT_j.VALUE i) value).set (MON_IRSLT_j.INPUT i) input).set (MON_IRSLT_j.CYCLE i) s.mon.cycles).setb
      (MON_IRSLT_j.OVR i) ovr).setb (MON_IRSLT_j.FAIL i) fail)).set (MON_IRSLT_j.VALID i) 1
  else
    ((((((s.set (MON_RSLT_ii.VALUE i) value).set (MON_RSLT_ii.INPUT i) input).set (MON_RSLT_ii.CYCLE i) s.mon.cycles).setb
      (MON_RSLT_ii.OVR i) ovr).setb (MON_RSLT_ii.FAIL i) fail)).set (MON_RSLT_ii.VALID i) 1

/-- The result of an entry for one input: result register, value, failure, sensors, alarms (R408 to R413, R425, R426).
`t0` and `t1` are the ticks at which the entry began and ended. -/
def State.entryTake (s : State) (inj : Bool) (i input : Nat) (e : Nat × Nat) (codes : List Nat) (t0 t1 : Nat) : State :=
  let g := entGain e
  let value := corrCode codes.sum (entAvg e) (s.geti (MON_CAL_g.OFS g)) (s.get (MON_CAL_g.GAIN g))
    (s.geti (MON_HCORn.HOFS input)) (s.get (MON_HCORn.HGAIN input))
  let v := s.sample input value g (codes.contains 16383)
  let s := s.rsltSet inj i value input (codes.any fun c => c == 0 || c == 16383) (v.state ≠ 1)
  if !s.judged input then s
  else
    let s := s.set (MON_VALn.STALE input) 0
    let s := if v.state = 1 then s.sampleGood input v.value t1 else s.sampleFail input v.state t1
    let s := s.sensorTake input v
    let s := if v.state = 1 then s.alarmTake input v.value else s
    let s := if v.state = 1 ∧ input = 22 then s.dieTake v.value else if input = 23 then s.vcoreTake v.value t0 else s
    s.freshClear

/-- An injected sequence starts at entry 0 (R415). -/
def State.injStart (s : State) (src : Nat) : State :=
  let s := ((s.set MON_STATUS.INJ_RUN 1).set MON_INJ_STATUS.SRC src).set64 MON_INJ_TICK_LO.TICK MON_INJ_TICK_HI.TICK s.tick
  { s with mon.inj := some (src, 0, s.tick) }

/-- MON_ENTRY_COMPLETE (R408) without the escalation of R527: the injected entry that runs, else the regular one. -/
def State.entryComplete (s : State) (codes : List Nat) : State :=
  let codes := codes.map (· % 2 ^ 14)
  if !s.on MON_STATUS.RUNNING then s
  else match s.mon.inj with
    | some (src, j, t0) =>
      match s.mon.act.inj[j]? with
      | none => s
      | some e =>
        let t1 := t0 + entTime e
        if codes.length ≠ 2 ^ entAvg e ∨ s.tick < t1 then s
        else { s.entryTake true j (entInput e) e codes t0 t1 with mon.inj := some (src, j + 1, t1) }
    | none =>
      let i := s.get MON_STATUS.ENTRY
      match s.mon.act.reg[i]? with
      | none => s
      | some e =>
        let t1 := s.mon.entryAt + entTime e
        if !s.mon.cycling ∨ codes.length ≠ 2 ^ entAvg e ∨ s.tick < t1 then s
        else
          let r := nth 0 s.mon.rot i
          let s := s.entryTake false i (entInput e + r % entSpan e) e codes s.mon.entryAt t1
          let s := { s with mon.rot := modNth (fun (_ : Nat) => (r + 1) % max 1 (entSpan e)) s.mon.rot i, mon.entryAt := t1 }
          if i + 1 < s.mon.act.reg.length then s.set MON_STATUS.ENTRY (i + 1)
          else { s.set MON_STATUS.ENTRY 0 with mon.cycling := false, mon.ended := t1, mon.lastEnd := t1, mon.cycles := s.mon.cycles + 1 }

/-! ### Cycles, triggers, sequences (R407, R414 to R420) -/

/-- The pending shadow takes effect (R419). -/
def State.seqTake (s : State) : State :=
  match s.mon.pendSeq with
  | none => s
  | some q => { ((s.seqSet q).set MON_SEQ_STATE.PENDING 0).set MON_EVENTS.SEQ_APPLIED 1 with mon.pendSeq := none }

/-- A regular cycle may start: the sequences run, none is in progress, its tick has come. -/
def State.cycleReady (s : State) : Bool :=
  s.on MON_STATUS.RUNNING && !s.mon.cycling && s.mon.inj.isNone && decide (max s.mon.due s.mon.ended ≤ s.tick)

/-- MON_SEQ_TAKE_EFFECT (R419): an applied shadow takes effect at the start of the next regular cycle. -/
def monSeqTakeEffect (s : State) : State := if s.cycleReady then s.seqTake else s

/-- MON_CYCLE_START (R407, R415): a cycle that starts late because the one before it had not ended is counted. -/
def monCycleStart (s : State) : State :=
  if !s.cycleReady then s
  else
    let s := s.seqTake
    let t := max s.mon.due s.mon.ended
    let s := if s.mon.act.period ≠ 0 ∧ s.mon.due < s.mon.lastEnd then s.inc MON_OVERRUN_COUNT.COUNT else s
    { s.set MON_STATUS.ENTRY 0 with
      mon.cycling := true, mon.entryAt := t,
      mon.due := if s.mon.act.period = 0 then t else s.mon.due + s.mon.act.period }

/-- A trigger lost (R416). -/
def State.injLost (s : State) : State := (s.inc MON_INJ_LOST.COUNT).set MON_EVENTS.INJ_LOST 1

/-- A trigger of the injected sequence (R414 to R416): 0 SHUTTER, 1 INDEX, 2 HOST, 3 OVERTEMP. -/
def State.monTrigger (s : State) (src : Nat) : State :=
  if s.mon.act.inj = [] ∨ bit s.mon.act.trig src = 0 ∨ !(s.on MON_STATUS.RUNNING || s.on MON_STATUS.CALIBRATING) then s
  else if s.mon.inj.isSome || s.on MON_STATUS.CALIBRATING then
    if s.mon.heldTrig.isSome then s.injLost
    else { s.set MON_STATUS.INJ_PENDING 1 with mon.heldTrig := some src }
  else s.injStart src

def monInjectTrigger (src : Nat) (s : State) : State := if src < 4 then s.monTrigger src else s

/-- A held trigger starts its sequence (R416). -/
def State.heldStart (s : State) : State :=
  match s.mon.heldTrig with
  | some src => { (s.set MON_STATUS.INJ_PENDING 0) with mon.heldTrig := none }.injStart src
  | none => s

/-- MON_INJ_GO (R414). -/
def monInjGo (s : State) : State × WRes :=
  if s.mon.act.inj = [] then (s, .refuse 1 0) else (s.monTrigger 2, .ok)

/-- MON_INJECTED_DONE (R415): the regular sequence resumes at the interrupted entry, from its first conversion. -/
def monInjectedDone (s : State) : State :=
  match s.mon.inj with
  | some (_, j, t1) =>
    if j < s.mon.act.inj.length then s
    else
      let s := (s.set MON_STATUS.INJ_RUN 0).set MON_EVENTS.INJ_DONE 1
      State.heldStart { s with mon.inj := none, mon.entryAt := t1, mon.ended := max s.mon.ended t1 }
  | none => s

/-- MON_SEQ_APPLY (R419). -/
def monSeqApply (s : State) : State × WRes :=
  let r := s.shadowRefuse
  let s := s.set MON_SEQ_STATE.REFUSE r
  if r ≠ 0 then (s.set MON_EVENTS.SEQ_REFUSED 1, .refuse 1 (if r = 6 then 0x03 else 0))
  else ({ s.set MON_SEQ_STATE.PENDING 1 with mon.pendSeq := some s.shadowSeq }, .ok)

/-- The sequence of an image commit takes effect at the commit (R419); without an image the boot sequence (R420). -/
def State.seqCommit (s : State) (q : MonSeq) : State :=
  ({ s.set MON_SEQ_STATE.PENDING 0 with mon.pendSeq := none }.seqSet q).seqRestart

/-! ### Self-calibration (R421 to R423, R428) -/

/-- Self-calibration begins: no sequence runs, the entry in progress and an injected sequence are abandoned. -/
def State.selfCal (s : State) : State :=
  let s := ((s.set MON_STATUS.CALIBRATING 1).set MON_STATUS.RUNNING 0).set MON_STATUS.INJ_RUN 0
  { s with mon.cycling := false, mon.inj := none, mon.calAt := s.tick }

/-- The REFTICKs that a self-calibration takes (R421). -/
def selfCalTicks : Nat := 19200

/-- MON_CALIBRATE (R423): only outside RUN, CHARACTERISE and LOAD, in White, Pearl or Silver. -/
def monCalibrate (s : State) : State × WRes :=
  if s.sys.run then (s, .refuse 1 0x0C)
  else if s.sys.mode = .characterise ∨ s.sys.mode = .load then (s, .refuse 1 0x03)
  else if 2 < s.get PWR_STATUS.STATE then (s, .refuse 1 0x06)
  else (if s.on MON_STATUS.CALIBRATING then s else s.selfCal, .ok)

/-- The factors of one gain from the sums of its zero and reference points: OFS and GAIN; none where f ≤ z. -/
def calFactors (z f : Nat) : Option (Int × Int) :=
  if f ≤ z then none else some (rhe (16 * z : Nat) 176, rhe (2 ^ 15 * 12288 * 176 : Nat) (f - z))

/-- The factors of a gain lie within R422. -/
def factorsOk (p : Int × Int) : Bool := p.1.natAbs ≤ 1024 && decide (32113 ≤ p.2) && decide (p.2 ≤ 33423)

/-- The standard deviation of a point is at most 4 codes. -/
def quietPoint (p : Nat × Nat) : Bool := decide (176 * p.2 ≤ p.1 * p.1 + 16 * 176 * 176)

/-- MON_SELF_CAL_DONE (R421, R422): the ten points, each as the sum and the sum of squares of its 176 codes, 19,200
REFTICKs after the start. -/
def monSelfCalDone (points : List (Nat × Nat)) (s : State) : State :=
  if !s.on MON_STATUS.CALIBRATING ∨ s.tick < s.mon.calAt + selfCalTicks then s
  else
    let fs := (List.range 5).map fun g => calFactors (nth (0, 0) points (2 * g)).1 (nth (0, 0) points (2 * g + 1)).1
    let ok := points.length == 10 && points.all quietPoint && fs.all fun p => match p with | some p => factorsOk p | none => false
    let s := (s.set MON_STATUS.CALIBRATING 0).inc MON_CAL_STATUS.COUNT
    let s := if ok then
        let s := (List.range 5).foldl (fun s g =>
          let p := (nth none fs g).getD (0, 32768)
          (s.seti (MON_CAL_g.OFS g) p.1).set (MON_CAL_g.GAIN g) p.2.toNat) s
        (((s.set MON_STATUS.CAL_OK 1).set MON_CAL_STATUS.DONE 1).set MON_CAL_STATUS.FAIL 0).set MON_EVENTS.CAL_DONE 1 |>.unfault 0x0B01
      else (((s.set MON_STATUS.CAL_OK 0).set MON_CAL_STATUS.FAIL 1).set MON_EVENTS.CAL_FAIL 1).fault 0x0B01
    let s := if s.mon.act.reg = [] then s.seqSet bootSeq else s
    (s.set MON_STATUS.RUNNING 1).seqRestart.heldStart

/-- Entry to Grey (R428): work abandoned, a pending trigger lost, every value stale. -/
def State.monOff (s : State) : State :=
  let s := if s.mon.heldTrig.isSome then s.injLost else s
  let s := (((s.set MON_STATUS.RUNNING 0).set MON_STATUS.CALIBRATING 0).set MON_STATUS.INJ_RUN 0).set MON_STATUS.INJ_PENDING 0
  let s := (List.range 24).foldl (fun s n => s.set (MON_VALn.STALE n) 1) s
  { s.alarmRuns with mon.cycling := false, mon.inj := none, mon.heldTrig := none, mon.dieHot := none }

/-- MON_CLR.CLR_COUNTS (R12): 0x001C and 0x002C. -/
def monClrCounts (s : State) : State := s.setAll [MON_INJ_LOST.COUNT, MON_OVERRUN_COUNT.COUNT] 0

/-! ### The comparator (R424) -/

/-- OVERTEMP_TRIP (R424). -/
def overtempTrip (s : State) : State :=
  if s.on MON_STATUS.OT_COMP then s else ((s.set MON_STATUS.OT_COMP 1).dieOver).monTrigger 3

/-- OVERTEMP_RELEASE (R424). -/
def overtempRelease (s : State) : State := (s.set MON_STATUS.OT_COMP 0).heatClear

def execMonCycleStart (t : Nat) (s : State) : Host.Outcome State Fault Refusal := .next (monCycleStart (s.at t))
def execMonInjectTrigger (t src : Nat) (s : State) : Host.Outcome State Fault Refusal := .next (monInjectTrigger src (s.at t))
def execMonInjGo (t : Nat) (s : State) : Host.Outcome State Fault Refusal := .next (State.hostWrite 0xB0004 monInjGo (s.at t))
def execMonInjectedDone (t : Nat) (s : State) : Host.Outcome State Fault Refusal := .next (monInjectedDone (s.at t))
def execMonCalibrate (t : Nat) (s : State) : Host.Outcome State Fault Refusal := .next (State.hostWrite 0xB0004 monCalibrate (s.at t))
def execMonSelfCalDone (t : Nat) (points : List (Nat × Nat)) (s : State) : Host.Outcome State Fault Refusal :=
  .next (monSelfCalDone points (s.at t))
def execMonSeqApply (t : Nat) (s : State) : Host.Outcome State Fault Refusal := .next (State.hostWrite 0xB0004 monSeqApply (s.at t))
def execMonSeqTakeEffect (t : Nat) (s : State) : Host.Outcome State Fault Refusal := .next (monSeqTakeEffect (s.at t))
def execMonAlarmWrite (t addr v : Nat) (s : State) : Host.Outcome State Fault Refusal :=
  .next (State.hostWrite addr (monAlarmWrite addr v) (s.at t))
def execMonClrCounts (t : Nat) (s : State) : Host.Outcome State Fault Refusal := .next (State.hostDo 0xB0030 monClrCounts (s.at t))
def execMonInputStarved (t input : Nat) (s : State) : Host.Outcome State Fault Refusal := .next (monInputStarved input (s.at t))
def execOvertempTrip (t : Nat) (s : State) : Host.Outcome State Fault Refusal := .next (overtempTrip (s.at t))

end Sys2Proof.Machine
end

