-- ==== Sys2Proof/Machine/Net.lean ====
section
/-!
DEFINITION. Packets (R432, R433, R451, R454, R466): Ethernet II and IPv4 framing, ARP, ICMP echo, UDP, and the RoCE v2 headers.
Byte orders and fields that spec/ leaves to the standards it names are those of the standards (log entry 40).
-/
namespace Sys2Proof.Machine

/-- The Internet checksum of bytes. -/
def inetSum : List Nat → Nat
  | [] => 0
  | [a] => 256 * a
  | a :: b :: l => 256 * a + b + inetSum l

/-- The carries of a 16-bit one's complement sum folded. -/
def foldSum (v : Nat) : Nat :=
  let a := v % 65536 + v / 65536
  let b := a % 65536 + a / 65536
  b % 65536 + b / 65536

/-- The one's complement of the one's complement sum. -/
def inetCheck (bs : List Nat) : Nat := 65535 - foldSum (inetSum bs)

/-- An IPv4 packet: DF set, TTL 64, no options, never a fragment (R433). -/
def ipPacket (tos id proto src dst : Nat) (body : List Nat) : List Nat :=
  let h := fun c => [0x45, tos] ++ beBytes 2 (20 + body.length) ++ beBytes 2 id ++ [0x40, 0, 64, proto] ++ beBytes 2 c ++ beBytes 4 src ++ beBytes 4 dst
  h (inetCheck (h 0)) ++ body

/-- A UDP datagram with its checksum computed and never 0 (R451). -/
def udpPacket (src dst sport dport : Nat) (body : List Nat) : List Nat :=
  let len := 8 + body.length
  let h := fun c => beBytes 2 sport ++ beBytes 2 dport ++ beBytes 2 len ++ beBytes 2 c
  let c := inetCheck (beBytes 4 src ++ beBytes 4 dst ++ [0, 17] ++ beBytes 2 len ++ h 0 ++ body)
  h (if c = 0 then 65535 else c) ++ body

/-- An Ethernet II frame without its FCS, with an IEEE 802.1Q tag where one is given, padded to the least length. -/
def ethFrame (dst src : Nat) (tag : Option Nat) (type : Nat) (body : List Nat) : List Nat :=
  let f := beBytes 6 dst ++ beBytes 6 src ++ (match tag with | some t => [0x81, 0] ++ beBytes 2 t | none => []) ++ beBytes 2 type ++ body
  f ++ List.replicate (60 - f.length) 0

/-- An ARP message: operation, sender and target. -/
def arpBody (op sha spa tha tpa : Nat) : List Nat :=
  beBytes 2 1 ++ beBytes 2 0x0800 ++ [6, 4] ++ beBytes 2 op ++ beBytes 6 sha ++ beBytes 4 spa ++ beBytes 6 tha ++ beBytes 4 tpa

/-- An ICMP echo reply with the rest of the request. -/
def echoReply (rest : List Nat) : List Nat :=
  [0, 0] ++ beBytes 2 (inetCheck ([0, 0, 0, 0] ++ rest)) ++ rest

/-! ### Toson records (R451, R452) -/

/-- A record with its 32-byte header (R451). -/
def tosonRecord (type no seq idx count region route off : Nat) (body : List Nat) : List Nat :=
  leBytes 4 0x52545354 ++ [1, type] ++ leBytes 2 (32 + body.length) ++ leBytes 8 no ++ leBytes 4 seq ++ leBytes 2 idx ++ leBytes 2 count ++
  [region, route, 0, 0] ++ leBytes 4 off ++ body

/-- The regions of a channel's share with their numbers and values. -/
def Entry.shareRegions (e : Entry) (ch : Nat) : List (Nat × Region × List Nat) :=
  (List.range e.regions.length).filterMap fun i =>
    match e.regions[i]? with
    | some r => if r.chan = ch then some (i, r, nth [] e.pix i) else none
    | none => none

/-- The statistics blocks of a channel's tiles, in ascending position. -/
def Entry.shareStats (f : Mem) (e : Entry) (ch : Nat) : List Nat :=
  (e.stats.filter fun b => routeOf f b.1 == ch).flatMap (·.2)

/-- DATA records of a region. -/
def dataRecs (bpp dmax : Nat) (r : Region) : Nat := ceilDiv (r.w * r.h * bpp) (max 1 dmax)

/-- Records of a channel's share (R452). -/
def Entry.recCount (f : Mem) (e : Entry) (ch : Nat) : Nat :=
  if e.kind = 3 then 2
  else 1 + ((e.shareRegions ch).map fun r => dataRecs e.bpp (dataMax f) r.2.1).sum + (if (e.shareStats f ch).isEmpty then 0 else 1)

/-- Bytes of pixel values. -/
def pixBytes (bpp : Nat) (vs : List Nat) : List Nat := vs.flatMap (leBytes bpp)

/-- DATA record `i` of regions: region number, index of its first pixel, bytes. -/
def dataRec (bpp dmax : Nat) : List (Nat × Region × List Nat) → Nat → Option (Nat × Nat × List Nat)
  | [], _ => none
  | r :: l, i =>
    let n := dataRecs bpp dmax r.2.1
    let per := dmax / max 1 bpp
    if i < n then some (r.1, i * per, pixBytes bpp ((r.2.2.drop (i * per)).take per)) else dataRec bpp dmax l (i - n)

/-- Record `i` of a channel's share: type, region, offset, payload. -/
def Entry.recAt (f : Mem) (e : Entry) (ch i : Nat) : Nat × Nat × Nat × List Nat :=
  if i = 0 then (1, 0xFF, 0, e.head ++ regionTable e.regions)
  else if e.kind = 3 then (4, 0xFF, 0, e.record)
  else match dataRec e.bpp (dataMax f) (e.shareRegions ch) (i - 1) with
    | some d => (2, d.1, d.2.1, d.2.2)
    | none => (3, 0xFF, 0, e.shareStats f ch)

/-! ### RDMA messages (R456, R457) -/

/-- The region data of a channel, packed without gaps (R456). -/
def Entry.shareData (e : Entry) (ch : Nat) : List Nat := (e.shareRegions ch).flatMap fun r => pixBytes e.bpp r.2.2

/-- The 4,096-byte head of a slot (R456). -/
def Entry.slotHead (f : Mem) (e : Entry) (ch : Nat) : List Nat :=
  let put := fun (l : List Nat) (n : Nat) => l ++ List.replicate (n - l.length) 0
  let a := put (e.head ++ regionTable e.regions) 1024
  put (a ++ (if e.kind = 3 then e.record else e.shareStats f ch)) 4096

/-- Payload bytes of a packet of a path MTU code (R454). -/
def mtuOf (code : Nat) : Nat := 512 * 2 ^ code

/-- Bytes of an RDMA WRITE message (R457). -/
def oneMiB : Nat := 1048576

/-- Packets of a share with `n` bytes of region data: those of the data messages, and of the head. -/
def dataPackets (n mtu : Nat) : Nat := n / oneMiB * (oneMiB / mtu) + ceilDiv (n % oneMiB) mtu
def sharePackets (n mtu : Nat) : Nat := dataPackets n mtu + 4096 / mtu

/-- A packet of a share: whether it belongs to the head; offset and length of its message, and of the packet in it. -/
structure Pkt where
  isHead : Bool
  msg : Nat
  msgLen : Nat
  off : Nat
  len : Nat
  deriving DecidableEq, Repr

/-- Packet `i` of a share with `n` bytes of region data (R457). -/
def packetOf (n mtu i : Nat) : Pkt :=
  let d := dataPackets n mtu
  if i < d then
    let per := oneMiB / mtu
    let m := oneMiB * (i / per)
    let l := min oneMiB (n - m)
    let o := mtu * (i % per)
    ⟨false, m, l, o, min mtu (l - o)⟩
  else ⟨true, 0, 4096, mtu * (i - d), min mtu (4096 - mtu * (i - d))⟩

/-- The BTH opcode of a packet: RDMA WRITE First, Middle, Last, Only, the last two with Immediate for the head. -/
def Pkt.opcode (p : Pkt) : Nat :=
  let first := p.off == 0
  let last := p.off + p.len == p.msgLen
  if first && last then (if p.isHead then 0x0B else 0x0A)
  else if first then 0x06
  else if last then (if p.isHead then 0x09 else 0x08) else 0x07

/-- A RoCE v2 packet: BTH, RETH in a First or Only packet, the immediate value in a packet with Immediate, payload with
its pad, and the invariant CRC; `ip` gives the IPv4 packet for a UDP body. -/
def roceUdp (qpn psn op imm va rkey mlen : Nat) (body : List Nat) : List Nat :=
  let pad := (4 - body.length % 4) % 4
  let last := op == 0x0A || op == 0x0B || op == 0x08 || op == 0x09
  [op, 0x40 + 16 * pad] ++ beBytes 2 0xFFFF ++ [0] ++ beBytes 3 qpn ++ [if last then 0x80 else 0] ++ beBytes 3 psn ++
  (if op = 0x06 ∨ op = 0x0A ∨ op = 0x0B then beBytes 8 va ++ beBytes 4 rkey ++ beBytes 4 mlen else []) ++
  (if op = 0x09 ∨ op = 0x0B then beBytes 4 imm else []) ++ body ++ List.replicate pad 0

/-- The IPv4 packet of a RoCE v2 UDP body, with the invariant CRC at its end: the CRC of R69 over eight bytes 0xFF and the
packet with the fields that change on the way set to ones. -/
def rocePacket (dscp id src dst sport : Nat) (bth : List Nat) : List Nat :=
  let udp := fun c => beBytes 2 sport ++ beBytes 2 4791 ++ beBytes 2 (12 + bth.length) ++ beBytes 2 c
  let ip := [0x45, 0xFF] ++ beBytes 2 (32 + bth.length) ++ beBytes 2 id ++ [0x40, 0, 0xFF, 17, 0xFF, 0xFF] ++ beBytes 4 src ++ beBytes 4 dst
  let icrc := crc32 (List.replicate 8 0xFF ++ ip ++ udp 0xFFFF ++ bth.take 4 ++ [0xFF] ++ bth.drop 5)
  ipPacket (4 * dscp + 2) id 17 src dst (udp 0 ++ bth ++ leBytes 4 icrc)

end Sys2Proof.Machine
end

