-- ==== Sys2Proof/Machine/Prt.lean ====
section
/-!
DEFINITION. The data ports and their channels (R429 to R436, R446 to R463): pluggables and links, addresses, flow control,
Toson streams and RoCE v2 queue pairs.
-/
namespace Sys2Proof.Machine

/-! ### Ports and channels -/

/-- A port, and a change of it. -/
def State.port (s : State) (p : Nat) : PortS := nth {} s.prt.ports p
def State.modPort (s : State) (p : Nat) (f : PortS → PortS) : State := { s with prt.ports := modNth f s.prt.ports p }

/-- A channel, and a change of it. -/
def State.chan (s : State) (c : Nat) : ChanS := nth {} s.prt.chans c
def State.modChan (s : State) (c : Nat) (f : ChanS → ChanS) : State := { s with prt.chans := modNth f s.prt.chans c }

/-- A channel is enabled; a channel of a port is. -/
def State.chanOn (s : State) (c : Nat) : Bool := decide (c < 16) && s.on (PRT_CHn_CTRL.EN c)
def portChans (p : Nat) : List Nat := [4 * p, 4 * p + 1, 4 * p + 2, 4 * p + 3]
def State.portOn (s : State) (p : Nat) : Bool := (portChans p).any s.chanOn

/-- The link of a port is up. -/
def State.linkUp (s : State) (p : Nat) : Bool := s.on (PRT_Pn_STATUS.LINK p)

/-- A port is paused now. -/
def State.paused (s : State) (p : Nat) : Bool := match (s.port p).pauseTo with
  | some t => decide (s.now < t)
  | none => false

/-- The factory MAC address of a port (R432). -/
def portMac (p : Nat) : Nat := (Config.portMac + p) % 2 ^ 48

/-- The 802.1Q tag of a port's frames (R432). -/
def State.tagOf (s : State) (p : Nat) : Option Nat :=
  if s.on (PRT_Pn_CTRL.VLAN_EN p) || s.get (PRT_Pn_CTRL.FC_MODE p) == 2 then
    some (s.get (PRT_Pn_CTRL.PCP p) * 8192 + s.get (PRT_Pn_CTRL.VID p)) else none

/-- A frame leaves a port: the line is taken for its bytes, its FCS, preamble and gap (8 / 625 of a phase a byte). -/
def State.sendFrame (s : State) (p : Nat) (kind : String) (f : List Nat) : State :=
  (s.emit (.packet p kind f)).modPort p fun q => { q with busyTo := s.now + ceilDiv (8 * (f.length + 24)) 625 }

/-- The identification field of an IPv4 packet, which spec/ leaves open. -/
def State.ipId (s : State) : Nat := Config.freeValue 7 s.free % 65536

/-! ### Address resolution (R433) -/

/-- The next hop of a channel: the destination inside the prefix, the gateway outside it. -/
def State.nextHop (s : State) (c : Nat) : Nat :=
  let p := c / 4
  let d := s.get (PRT_CHn_DST_IP.ADDR c)
  let k := 2 ^ (32 - s.get (PRT_Pn_PREFIX.LEN p))
  if d / k = s.get (PRT_Pn_IP.ADDR p) / k then d else s.get (PRT_Pn_GW.ADDR p)

/-- A live ARP entry of a port: its MAC and instant. -/
def State.arpFind (s : State) (p ip : Nat) : Option (Nat × Nat) :=
  ((s.port p).arp.find? fun e => e.1 == ip && decide (s.now < e.2.2 + 60 * sec)).map (·.2)

/-- The MAC address that a channel sends to, if resolved. -/
def State.macOf (s : State) (c : Nat) : Option Nat :=
  if s.on (PRT_CHn_DST_MAC_HI.STATIC c) then some (s.get64 (PRT_CHn_DST_MAC_LO.MAC c) (PRT_CHn_DST_MAC_HI.MAC c))
  else (s.arpFind (c / 4) (s.nextHop c)).map (·.1)

/-- An ARP request of a channel. -/
def State.arpAsk (s : State) (c : Nat) : State :=
  let p := c / 4
  let s := s.sendFrame p "ARP request" (ethFrame (2 ^ 48 - 1) (portMac p) (s.tagOf p) 0x0806
    (arpBody 1 (portMac p) (s.get (PRT_Pn_IP.ADDR p)) 0 (s.nextHop c)))
  s.modChan c fun q => { q with arpTries := q.arpTries + 1, arpAt := some s.now, arpFailed := false }

/-- ARP_TIMER (R433): a refresh 5 s before expiry, a retry 1 s after an unanswered request, failure after three, and
resolution again every 10 s. -/
def arpTimer (c : Nat) (s : State) : State :=
  let p := c / 4
  if !s.chanOn c || s.on (PRT_CHn_DST_MAC_HI.STATIC c) || !s.linkUp p then s
  else
    let q := s.chan c
    let fresh := match s.arpFind p (s.nextHop c) with
      | some e => decide (s.now < e.2 + 55 * sec)
      | none => false
    if fresh then s
    else match q.arpAt with
      | none => s.arpAsk c
      | some t =>
        if q.arpFailed then
          if s.now < t + 10 * sec then s else (s.modChan c fun q => { q with arpTries := 0 }).arpAsk c
        else if s.now < t + sec then s
        else if q.arpTries < 3 then s.arpAsk c
        else ((s.modChan c fun q => { q with arpFailed := true, arpAt := some s.now }).set PRT_EVENTS.ARP_FAIL 1).fault 0x0C31 c

/-- ARP_REPLY_RX (R433): an answer for the next hop of an enabled channel of the port. -/
def arpReplyRx (p ip mac : Nat) (s : State) : State :=
  let cs := (portChans p).filter fun c => s.chanOn c && !s.on (PRT_CHn_DST_MAC_HI.STATIC c) && s.nextHop c == ip
  if cs = [] ∨ !s.linkUp p then s
  else
    let s := s.modPort p fun q => { q with arp := (ip, mac, s.now) :: q.arp.filter (·.1 ≠ ip) }
    cs.foldl (fun s c => (s.modChan c fun q => { q with arpTries := 0, arpAt := none, arpFailed := false }).unfault 0x0C31 c) s

/-- The management port takes part in ARP_REQUEST_RX, ICMP_ECHO_RX and RX_DISCARD as port 4 (R465). -/
def mgmtPort : Nat := 4

/-- The address of a port, the management port's included. -/
def State.portIp (s : State) (p : Nat) : Nat := if p = mgmtPort then s.get ENG_MGMT_ACTIVE_IP.ADDR else s.get (PRT_Pn_IP.ADDR p)

/-- ARP_REQUEST_RX (R433, R465): requests for the own address are answered; in Slate and Black the wake logic answers TMP alone
(R151). -/
def arpRequestRx (p ip mac target : Nat) (s : State) : State :=
  if 4 < p ∨ target ≠ s.portIp p ∨ target = 0 ∨ s.asleep then s
  else if p = mgmtPort then s.emit (.mgmt "ARP reply" ip)
  else if !s.linkUp p then s
  else s.sendFrame p "ARP reply" (ethFrame mac (portMac p) (s.tagOf p) 0x0806 (arpBody 2 (portMac p) target mac ip))

/-- Instants within the last second. -/
def State.lastSecond (s : State) (l : List Nat) : List Nat := l.filter fun t => s.now < t + sec

/-- ICMP_ECHO_RX (R433, R465): at most 10 answers per second and port. -/
def icmpEchoRx (p ip mac : Nat) (payload : List Nat) (s : State) : State :=
  if s.asleep then s
  else if p = mgmtPort then
    let l := s.lastSecond s.tmp.echoes
    if 10 ≤ l.length ∨ s.portIp p = 0 then { s with tmp.echoes := l }
    else { s.emit (.mgmt "ICMP echo reply" ip) with tmp.echoes := s.now :: l }
  else if !s.linkUp p then s
  else
    let l := s.lastSecond (s.port p).echoes
    if 10 ≤ l.length then s.modPort p fun q => { q with echoes := l }
    else
      let s := (s.modPort p fun q => { q with echoes := s.now :: l })
      (s.sendFrame p "ICMP echo reply" (ethFrame mac (portMac p) (s.tagOf p) 0x0800
        (ipPacket 0 s.ipId 1 (s.portIp p) ip (echoReply payload)))).nextFree

/-- RX_DISCARD (R433, R465): counted on a data port. -/
def rxDiscard (p : Nat) (s : State) : State := if p < 4 then s.inc (PRT_Pn_RX_DISCARD.COUNT p) else s

/-! ### Pluggables, links, FEC, pause (R429 to R431, R434, R461, R462) -/

/-- A link lost (R461, R462). -/
def State.linkLost (s : State) (p : Nat) : State :=
  if !s.linkUp p then s
  else
    let s := ((s.set (PRT_Pn_STATUS.LINK p) 0).inc (PRT_Pn_LINKDOWN_COUNT.COUNT p)).set PRT_EVENTS.LINK_DOWN 1
    let s := (portChans p).foldl (fun s c => s.modChan c fun q => { q with timerAt := none }) s
    if s.portOn p then s.fault 0x0C11 p else s

/-- The port may come up: a supported pluggable, lit (R150). -/
def State.portLit (s : State) (p : Nat) : Bool :=
  let st := s.get PWR_STATUS.STATE
  st ≤ 1 || (st ≤ 3 && bit (s.get PWR_PORT_HOLD.PORTn) p == 1)

/-- PLUGGABLE_INSERT (R429): the PHY by the compliance code read; `phy` 1 SR4, 2 LR4, 3 CR4, `cls` the power class. -/
def pluggableInsert (p phy cls : Nat) (readOk : Bool) (s : State) : State :=
  if 4 ≤ p then s
  else
    let ok := readOk && 1 ≤ phy && phy ≤ 3 && cls ≤ 4
    let s := ((s.set (PRT_Pn_STATUS.PRESENT p) 1).set (PRT_Pn_STATUS.PHY p) (if ok then phy else 7)).set PRT_EVENTS.PLUGGABLE 1
    let s := s.modPort p fun q => { q with fecBad := 0, fecGood := 0 }
    if ok then s.unfault 0x0C01 p else s.fault 0x0C01 p

/-- PLUGGABLE_REMOVE (R461). -/
def pluggableRemove (p : Nat) (s : State) : State :=
  if 4 ≤ p ∨ s.get (PRT_Pn_STATUS.PRESENT p) = 0 then s
  else
    let s := ((s.linkLost p).set (PRT_Pn_STATUS.PRESENT p) 0).set (PRT_Pn_STATUS.PHY p) 0
    ((s.set (PRT_Pn_STATUS.AN_FAIL p) 0).set PRT_EVENTS.PLUGGABLE 1).unfault 0x0C01 p

/-- LINK_DOWN (R461). -/
def linkDown (p : Nat) (s : State) : State := if p < 4 then s.linkLost p else s

/-- LINK_UP (R461, R462): the entry being sent is sent again, or resent from the oldest unacknowledged packet. -/
def linkUpEvent (p : Nat) (s : State) : State :=
  if 4 ≤ p ∨ s.linkUp p ∨ !s.portLit p ∨ s.get (PRT_Pn_STATUS.PHY p) = 0 ∨ 3 < s.get (PRT_Pn_STATUS.PHY p) then s
  else
    let s := ((s.set (PRT_Pn_STATUS.LINK p) 1).set (PRT_Pn_STATUS.AN_FAIL p) 0).set PRT_EVENTS.LINK_UP 1
    let s := (s.unfault 0x0C11 p).unfault 0x0C02 p
    (portChans p).foldl (fun s c => s.modChan c fun q =>
      if s.get (PRT_CHn_CTRL.TRANSPORT c) = 2 then
        { q with pkt := q.acked, timerAt := if q.acked < q.sent then some s.now else none }
      else { q with idx := 0, resend := q.resend || (q.cur.isSome && q.idx != 0) }) s

/-- AN_FAIL (R430): a CR4 partner that does not resolve. -/
def anFail (p : Nat) (s : State) : State :=
  if p < 4 ∧ s.get (PRT_Pn_STATUS.PHY p) = 3 ∧ !s.linkUp p then (s.set (PRT_Pn_STATUS.AN_FAIL p) 1).fault 0x0C02 p else s

/-- FEC_SECOND (R431): a second's codewords on a port with RS-FEC. -/
def fecSecond (p corr uncorr : Nat) (s : State) : State :=
  if 4 ≤ p ∨ !(s.get (PRT_Pn_STATUS.PHY p) == 1 || s.get (PRT_Pn_STATUS.PHY p) == 3) then s
  else
    let s := (s.add (PRT_Pn_FEC_CORR.COUNT p) corr).add (PRT_Pn_FEC_UNCORR.COUNT p) uncorr
    let q := s.port p
    let bad := if uncorr = 0 then 0 else min 10 (q.fecBad + 1)
    let good := if uncorr = 0 then min 10 (q.fecGood + 1) else 0
    let s := s.modPort p fun q => { q with fecBad := bad, fecGood := good }
    if bad = 10 then s.level true 0x0C03 p else if good = 10 then s.unfault 0x0C03 p else s

/-- The pause of a port ends (R434). -/
def State.pauseEnd (s : State) (p t : Nat) : State :=
  let q := s.port p
  match q.pauseFrom with
  | some f =>
    ((s.modPort p fun q => { q with pauseTo := none, pauseFrom := none, pauseAcc := q.pauseAcc + (t - f) }).set
      (PRT_Pn_STATUS.PAUSED p) 0).unfault 0x0C32 p
  | none => s

/-- A quantum of 512 bit times at 100 Gb/s, as a fraction of a phase: 512 / 625. -/
def quantaPhases (q : Nat) : Nat := ceilDiv (512 * q) 625

/-- PAUSE_EXPIRY (R434): the pause in force has run out. -/
def pauseExpiry (p : Nat) (s : State) : State :=
  if 4 ≤ p then s
  else match (s.port p).pauseTo with
    | some t => if t ≤ s.now then s.pauseEnd p t else s
    | none => s

/-- PAUSE_FRAME (R434): quanta by priority of a PFC frame, or the quanta of a pause frame. -/
def pauseFrame (p : Nat) (quanta : List (Nat × Nat)) (pfc : Bool) (s : State) : State :=
  if 4 ≤ p ∨ !s.linkUp p then s
  else
    let s := pauseExpiry p s
    let mode := s.get (PRT_Pn_CTRL.FC_MODE p)
    let q : Option Nat :=
      if mode = 1 ∧ !pfc then (quanta.head?).map (·.2)
      else if mode = 2 ∧ pfc then (quanta.find? (·.1 == s.get (PRT_Pn_CTRL.PCP p))).map (·.2) else none
    match q with
    | none => s
    | some q =>
      if q % 65536 = 0 then s.pauseEnd p s.now
      else
        (s.modPort p fun c => { c with pauseTo := some (s.now + quantaPhases (q % 65536)), pauseFrom := some (c.pauseFrom.getD s.now) }).set
          (PRT_Pn_STATUS.PAUSED p) 1

/-- PAUSE_LIMIT_EXCEEDED (R434). -/
def pauseLimitExceeded (p : Nat) (s : State) : State :=
  if 4 ≤ p then s
  else match (s.port p).pauseFrom with
    | some f =>
      if s.paused p ∧ s.get (PRT_Pn_PAUSE_LIMIT.MS p) * msec < s.now - f then
        (s.set PRT_EVENTS.PAUSE_LONG 1).level true 0x0C32 p
      else s
    | none => s

/-- PRT_Pn_PAUSE_MS as it reads. -/
def State.pauseMs (s : State) (p : Nat) : Nat :=
  let q := s.port p
  (q.pauseAcc + (match q.pauseFrom with | some f => min s.now (q.pauseTo.getD s.now) - f | none => 0) - q.pauseOff) / msec

/-! ### Sending (R446 to R458) -/

/-- The next entry of a channel, where it may be sent: complete, and not held by a capture (R443, R446). -/
def State.nextEntry (s : State) (c : Nat) : Option Entry :=
  match s.prt.entries.find? fun e => e.shares.contains c with
  | some e => if e.complete && !(s.get PRT_BB_STATE.CAP == 2 && e.captured) then some e else none
  | none => none

/-- The credit of R458: PROD − CONS below SLOTS. -/
def State.credit (s : State) (c : Nat) : Bool :=
  (s.get (PRT_CHn_PROD.PROD c) + 2 ^ 32 - s.get (PRT_CHn_CONS.CONS c)) % 2 ^ 32 < s.get (PRT_CHn_RDMA_SLOT.SLOTS c)

/-- Path MTU in bytes, and the packets of an entry's share on a channel. -/
def State.chanMtu (s : State) (c : Nat) : Nat := mtuOf (s.get (PRT_CHn_RDMA_CFG.PMTU c))
def State.chanPackets (s : State) (c : Nat) (e : Entry) : Nat := sharePackets (regionBytes e.bpp (e.regions.filter (·.chan == c))) (s.chanMtu c)

/-- The ports carry entries: in White, link up, not paused (R142, R150, R434, R462). -/
def State.portReady (s : State) (p : Nat) : Bool := s.get PWR_STATUS.STATE == 0 && s.linkUp p && !s.paused p

/-- A channel has something to send now. -/
def State.wants (s : State) (c : Nat) : Bool :=
  s.chanOn c && s.portReady (c / 4) && (s.macOf c).isSome &&
  match s.nextEntry c with
  | none => false
  | some e =>
    if s.get (PRT_CHn_CTRL.TRANSPORT c) = 1 then true
    else
      let q := s.chan c
      s.get (PRT_CHn_QP_STATE.STATE c) == 1 && decide (q.pkt < s.chanPackets c e) && (q.cur == some e.no || s.credit c) &&
        decide (q.paceTo ≤ s.now)

/-- The channel of a port whose turn it is (R446): the first after the one last served that has something to send. -/
def State.turn (s : State) (p : Nat) : Option Nat :=
  let l := (s.port p).last
  ([1, 2, 3, 4].map fun i => 4 * p + (l + i) % 4).find? s.wants

/-- It is a channel's turn and the line is free. -/
def State.myTurn (s : State) (c : Nat) : Bool := s.turn (c / 4) == some c && decide ((s.port (c / 4)).busyTo ≤ s.now)

/-- A channel's share of an entry is finished (R444). -/
def State.shareDone (s : State) (c no : Nat) : State :=
  let s := s.inc (PRT_CHn_SENT.COUNT c)
  let s : State := { s with prt.entries := s.prt.entries.map fun e => if e.no = no then { e with shares := e.shares.erase c } else e }
  s.bbRelease

/-- A Toson datagram of a channel on its port. -/
def State.sendToson (s : State) (c : Nat) (rec : List Nat) : State :=
  let p := c / 4
  let src := s.get (PRT_Pn_IP.ADDR p)
  let dst := s.get (PRT_CHn_DST_IP.ADDR c)
  let ip := ipPacket (4 * s.get (PRT_CHn_CTRL.DSCP c)) s.ipId 17 src dst (udpPacket src dst (s.get (PRT_CHn_UDP.SRC c)) (s.get (PRT_CHn_UDP.DST c)) rec)
  let s := (s.sendFrame p "Toson" (ethFrame ((s.macOf c).getD 0) (portMac p) (s.tagOf p) 0x0800 ip)).nextFree
  let s := s.inc (PRT_CHn_SEQ.SEQ c)
  (s.modChan c fun q => { q with lastSent := s.now }).modPort p fun q => { q with last := c % 4 }

/-- TOSON_RECORD_SEND (R446, R451, R452): the next record of a channel's share. -/
def tosonRecordSend (c : Nat) (s : State) : State :=
  if !s.chanOn c || s.get (PRT_CHn_CTRL.TRANSPORT c) ≠ 1 || !s.myTurn c then s
  else match s.nextEntry c with
    | none => s
    | some e =>
      let f := s.image
      let q := s.chan c
      let n := e.recCount f c
      let r := e.recAt f c q.idx
      let last := q.idx + 1 == n
      let route := c / 4 + 4 * (c % 4) + 16 * b2n q.resend + 32 * b2n last
      let s := s.sendToson c (tosonRecord r.1 e.no (s.get (PRT_CHn_SEQ.SEQ c)) q.idx n r.2.1 route r.2.2.1 r.2.2.2)
      if last then (s.modChan c fun q => { q with cur := none, idx := 0, resend := false }).shareDone c e.no
      else s.modChan c fun q => { q with cur := some e.no, idx := q.idx + 1 }

/-- HEARTBEAT (R452): a channel whose link is up and that has sent no record for 1 s. -/
def heartbeat (c : Nat) (s : State) : State :=
  let p := c / 4
  if !s.chanOn c || s.get (PRT_CHn_CTRL.TRANSPORT c) ≠ 1 || !s.linkUp p || s.paused p || 1 < s.get PWR_STATUS.STATE ||
      (s.macOf c).isNone || decide (s.now < (s.chan c).lastSent + sec) || decide (s.now < (s.port p).busyTo) then s
  else
    let st := s.stamp s.now
    let body := leBytes 6 st.1 ++ leBytes 4 st.2 ++ [0, 0] ++ leBytes 4 s.engStatus ++ leBytes 8 (4096 * s.get PRT_BB_FREE.PAGES) ++
      List.replicate 8 0
    s.sendToson c (tosonRecord 5 s.prt.newest (s.get (PRT_CHn_SEQ.SEQ c)) 0 1 0xFF (c / 4 + 4 * (c % 4) + 32) 0 body)

/-- ROCE_WRITE_SEND (R454 to R458): the next packet of a queue pair, paced at Rc. -/
def roceWriteSend (c : Nat) (s : State) : State :=
  if !s.chanOn c || s.get (PRT_CHn_CTRL.TRANSPORT c) ≠ 2 || !s.myTurn c then s
  else match s.nextEntry c with
    | none => s
    | some e =>
      let f := s.image
      let p := c / 4
      let q := s.chan c
      let mtu := s.chanMtu c
      let data := e.shareData c
      let k := packetOf (regionBytes e.bpp (e.regions.filter (·.chan == c))) mtu q.pkt
      let slot := s.get (PRT_CHn_PROD.PROD c) % max 1 (s.get (PRT_CHn_RDMA_SLOT.SLOTS c))
      let va := (s.get64 (PRT_CHn_RDMA_VA_LO.VA c) (PRT_CHn_RDMA_VA_HI.VA c) + slot * s.get (PRT_CHn_RDMA_SLOT.SLOT_PAGES c) * 4096 +
        (if k.isHead then 0 else 4096 + k.msg)) % 2 ^ 64
      let body := if k.isHead then ((e.slotHead f c).drop k.off).take k.len else (data.drop (k.msg + k.off)).take k.len
      let bth := roceUdp (s.get (PRT_CHn_RDMA_QPN.REMOTE c)) ((q.psn0 + q.pkt) % 2 ^ 24) k.opcode (slot % 65536 + 65536 * (e.no % 65536)) va
        (s.get (PRT_CHn_RDMA_RKEY.RKEY c)) k.msgLen body
      let ip := rocePacket (s.get (PRT_CHn_CTRL.DSCP c)) s.ipId (s.get (PRT_Pn_IP.ADDR p)) (s.get (PRT_CHn_DST_IP.ADDR c)) (s.get (PRT_CHn_UDP.SRC c)) bth
      let frame := ethFrame ((s.macOf c).getD 0) (portMac p) (s.tagOf p) 0x0800 ip
      let s := (s.sendFrame p "RoCE v2" frame).nextFree
      let s := s.modPort p fun q => { q with last := c % 4 }
      s.modChan c fun q => { q with
        cur := some e.no, pkt := q.pkt + 1, sent := max q.sent (q.pkt + 1), timerAt := some (q.timerAt.getD s.now), lastSent := s.now,
        paceTo := s.now + ceilDiv (frame.length * 1280 * q.rc.2) q.rc.1 }

/-! ### Queue pairs (R455 to R460) -/

/-- A queue pair enters ERROR (R459). -/
def State.qpError (s : State) (c : Nat) : State :=
  ((s.modChan c fun q => { q with timerAt := none }).set (PRT_CHn_QP_STATE.STATE c) 2).set PRT_EVENTS.QP_ERROR 1 |>.fault 0x0C41 c

/-- Packets up to `n` of the entry in progress are acknowledged. -/
def State.roceAcked (s : State) (c n : Nat) : State :=
  let q := s.chan c
  if n ≤ q.acked ∨ q.sent < n then s
  else match q.cur with
    | none => s
    | some no =>
      let total := match s.prt.entries.find? fun e => e.no == no && e.shares.contains c with
        | some e => s.chanPackets c e
        | none => 0
      if n = total then
        ((s.modChan c fun q => { q with
          cur := none, psn0 := (q.psn0 + n) % 2 ^ 24, pkt := 0, sent := 0, acked := 0, attempts := 0, timerAt := none }).inc
            (PRT_CHn_PROD.PROD c)).shareDone c no
      else s.modChan c fun q => { q with
        acked := n, pkt := max q.pkt n, attempts := 0, timerAt := if n < q.sent then some s.now else none }

/-- A queue pair of an enabled RDMA channel in RTS. -/
def State.qpLive (s : State) (c : Nat) : Bool :=
  s.chanOn c && s.get (PRT_CHn_CTRL.TRANSPORT c) == 2 && s.get (PRT_CHn_QP_STATE.STATE c) == 1

/-- Packets of the entry in progress that a PSN covers. -/
def ChanS.covers (q : ChanS) (psn : Nat) : Nat := (psn + 2 ^ 24 - q.psn0) % 2 ^ 24

/-- ROCE_ACK (R457). -/
def roceAck (c psn : Nat) (s : State) : State :=
  if s.qpLive c && s.linkUp (c / 4) then s.roceAcked c ((s.chan c).covers (psn % 2 ^ 24) + 1) else s

/-- A resend from the oldest unacknowledged PSN, or ERROR after RETRY + 1 attempts without progress (R459). -/
def State.roceResend (s : State) (c : Nat) : State :=
  let q := s.chan c
  if s.get (PRT_CHn_RDMA_CFG.RETRY c) + 1 ≤ q.attempts then s.qpError c
  else (s.modChan c fun q => { q with pkt := q.acked, attempts := q.attempts + 1, timerAt := some s.now }).inc (PRT_CHn_RETRANS.COUNT c)

/-- ROCE_NAK (R459): `syndrome` as in the AETH: 0x60 PSN sequence error, 0x61 invalid request, 0x62 remote access error,
0x63 remote operational error. -/
def roceNak (c psn syndrome : Nat) (s : State) : State :=
  if !s.qpLive c || !s.linkUp (c / 4) then s
  else match syndrome with
    | 0x60 =>
      let n := (s.chan c).covers (psn % 2 ^ 24)
      let s := if n ≤ (s.chan c).sent then s.roceAcked c n else s
      if (s.chan c).acked < (s.chan c).sent then s.roceResend c else s
    | 0x61 => s.qpError c
    | 0x62 => s.qpError c
    | 0x63 => s.qpError c
    | _ => s

/-- ROCE_ACK_TIMEOUT (R459): 4.096 µs × 2^TIMEOUT without progress; 655.36 phases are 4.096 µs. -/
def roceAckTimeout (c : Nat) (s : State) : State :=
  if !s.qpLive c || !s.linkUp (c / 4) then s
  else match (s.chan c).timerAt with
    | some t => if 100 * t + 65536 * 2 ^ s.get (PRT_CHn_RDMA_CFG.TIMEOUT c) ≤ 100 * s.now then s.roceResend c else s
    | none => s

/-- PRT_CHn_RATE shows Rc in Mb/s. -/
def State.rateShow (s : State) (c : Nat) : State :=
  let r := (s.chan c).rc
  s.set (PRT_CHn_RATE.MBPS c) (r.1 / r.2 + b2n (r.1 % r.2 ≠ 0 && Config.roundUp 4 r.1 r.2))

/-- A rate reduced to lowest terms. -/
def lowest (r : Nat × Nat) : Nat × Nat := let g := Nat.gcd r.1 r.2; (r.1 / max 1 g, r.2 / max 1 g)

/-- The larger and the smaller of two rates. -/
def rateMax (a b : Nat × Nat) : Nat × Nat := if a.1 * b.2 < b.1 * a.2 then b else a
def rateMin (a b : Nat × Nat) : Nat × Nat := if a.1 * b.2 < b.1 * a.2 then a else b

/-- The reduction of a CNP (R460). -/
def ChanS.cnp (q : ChanS) (now : Nat) : ChanS :=
  { q with
    rt := q.rc, rc := lowest (rateMax (1000, 1) (q.rc.1 * (131072 - q.alpha), q.rc.2 * 131072)),
    alpha := (q.alpha * 15 + 65536) / 16, k := 0, cutAt := some now, alphaAt := now, rateAt := now }

/-- ROCE_CNP (R460). -/
def roceCnp (c : Nat) (s : State) : State :=
  if !s.qpLive c then s
  else
    let s := s.inc (PRT_CHn_CNP_COUNT.COUNT c)
    match (s.chan c).cutAt with
    | some t => if s.now < t + 50 * us then s else (s.modChan c (·.cnp s.now)).rateShow c
    | none => (s.modChan c (·.cnp s.now)).rateShow c

/-- DCQCN_ALPHA_TIMER (R460): 55 µs without a CNP. -/
def dcqcnAlphaTimer (c : Nat) (s : State) : State :=
  if s.qpLive c && decide ((s.chan c).alphaAt + 55 * us ≤ s.now) then
    s.modChan c fun q => { q with alpha := q.alpha * 15 / 16, alphaAt := q.alphaAt + 55 * us }
  else s

/-- DCQCN_RATE_TIMER (R460): 300 µs without a CNP. -/
def dcqcnRateTimer (c : Nat) (s : State) : State :=
  if s.qpLive c && decide ((s.chan c).rateAt + 300 * us ≤ s.now) then
    (s.modChan c fun q =>
      let k := q.k + 1
      let rt := if 5 < k then rateMin (100000, 1) (q.rt.1 + 5000 * q.rt.2, q.rt.2) else q.rt
      { q with k := k, rt := rt, rc := lowest (q.rc.1 * rt.2 + rt.1 * q.rc.2, 2 * q.rc.2 * rt.2), rateAt := q.rateAt + 300 * us }).rateShow c
  else s

/-- ROCE_REQUEST_DISCARD (R454): a request that reaches a queue pair is discarded. -/
def roceRequestDiscard (_c : Nat) (s : State) : State := s

/-! ### Channel and port registers (R433, R436, R455, R458) -/

/-- The check of R455 on an RDMA channel: 0, or the REFUSE code. -/
def State.rdmaRefuse (s : State) (c : Nat) : Nat :=
  let size := s.get (PRT_CHn_RDMA_SLOT.SLOT_PAGES c) * 4096
  let slots := s.get (PRT_CHn_RDMA_SLOT.SLOTS c)
  let pm := s.get (PRT_CHn_RDMA_CFG.PMTU c)
  let tmo := s.get (PRT_CHn_RDMA_CFG.TIMEOUT c)
  if size < 4096 + s.shareMax c then 1
  else if slots < 2 ∨ s.get (PRT_CHn_RDMA_LEN.LEN c) < size * slots then 2
  else if pm = 0 ∨ tmo < 8 ∨ 20 < tmo ∨ s.get (PRT_CHn_DST_IP.ADDR c) = 0 then 3
  else 0

/-- A queue pair set up (R455, R459, R460): RTS, the first PSN, PROD 0 unless an entry held by an ERROR restarts. -/
def State.qpStart (s : State) (c : Nat) : State :=
  let held := (s.chan c).cur.isSome
  let s := s.set (PRT_CHn_QP_STATE.STATE c) 1
  let s := if held then s else (s.set (PRT_CHn_PROD.PROD c) 0).set (PRT_CHn_CONS.CONS c) 0
  let psn := s.get (PRT_CHn_RDMA_PSN.PSN c)
  (s.modChan c fun q => { q with
    psn0 := psn, pkt := 0, sent := 0, acked := 0, attempts := 0, timerAt := none, rc := (100000, 1), rt := (100000, 1), alpha := 65536,
    k := 0, cutAt := none, alphaAt := s.now, rateAt := s.now, paceTo := s.now }).rateShow c

/-- The unfinished shares of a disabled channel are discarded (R436, R444; "A channel disabled with entries queued"). -/
def State.sharesDrop (s : State) (c : Nat) : State :=
  let n := (s.prt.entries.filter fun e => e.shares.contains c).length
  let s := (s.add (PRT_CHn_OFF_DISCARD.COUNT c) n).modChan c fun q => { q with cur := none, idx := 0, resend := false, timerAt := none }
  let s : State := { s with prt.entries := s.prt.entries.map fun e => { e with shares := e.shares.erase c } }
  s.bbRelease

/-- An enabled channel is given another transport: it keeps its shares and sends the entry in progress from its beginning. -/
def State.transportSwitch (s : State) (c tr : Nat) : State :=
  let s := s.modChan c fun q => { q with cur := none, idx := 0, resend := false, timerAt := none }
  if tr = 2 then s.qpStart c else (s.set (PRT_CHn_QP_STATE.STATE c) 0).unfault 0x0C41 c

/-- CHANNEL_CTRL_WRITE (R436, R455): a write of PRT_CHn_CTRL. A queue pair in ERROR keeps its entries while EN is 0 (R459). -/
def channelCtrlWrite (c v : Nat) (s : State) : State × WRes :=
  s.loadGuard fun s =>
  let en := (PRT_CHn_CTRL.EN c).ofWord v
  let tr := (PRT_CHn_CTRL.TRANSPORT c).ofWord v
  let was := s.get (PRT_CHn_CTRL.EN c)
  if 16 ≤ c then (s, .refuse 1 0)
  else if tr = 3 ∨ (en = 1 ∧ tr = 0) then (s.set (PRT_CHn_STATUS.REFUSE c) 4, .refuse 1 0)
  else
    let new := en = 1 ∧ (was = 0 ∨ tr ≠ s.get (PRT_CHn_CTRL.TRANSPORT c))
    let r := if new ∧ tr = 2 then s.rdmaRefuse c else 0
    if r ≠ 0 then (s.set (PRT_CHn_STATUS.REFUSE c) r, .refuse 1 0)
    else
      let s := ((s.set (PRT_CHn_CTRL.EN c) en).set (PRT_CHn_CTRL.TRANSPORT c) tr).set (PRT_CHn_CTRL.DSCP c) ((PRT_CHn_CTRL.DSCP c).ofWord v)
      let s := if en = 1 then s.set (PRT_CHn_STATUS.REFUSE c) 0 else s
      if en = 1 ∧ was = 0 then
        let s := s.modChan c fun q => { q with idx := 0, lastSent := s.now, arpTries := 0, arpAt := none, arpFailed := false }
        (if tr = 2 then s.qpStart c else s, .ok)
      else if en = 0 ∧ was = 1 then
        let error := s.get (PRT_CHn_QP_STATE.STATE c) == 2
        let s := (s.set (PRT_CHn_QP_STATE.STATE c) 0).unfault 0x0C41 c
        (if error then s else s.sharesDrop c, .ok)
      else if new then (s.transportSwitch c tr, .ok)
      else (s, .ok)

/-- CONS_WRITE (R458): never below the present CONS nor above PROD. -/
def consWrite (c v : Nat) (s : State) : State × WRes :=
  s.loadGuard fun s =>
  let old := s.get (PRT_CHn_CONS.CONS c)
  if 16 ≤ c then (s, .refuse 1 0)
  else if (s.get (PRT_CHn_PROD.PROD c) + 2 ^ 32 - old) % 2 ^ 32 < (v % 2 ^ 32 + 2 ^ 32 - old) % 2 ^ 32 then (s, .refuse 1 0)
  else (s.set (PRT_CHn_CONS.CONS c) v, .ok)

/-- PORT_CONFIG_WRITE (R433, R436): settings of a port while none of its channels is enabled (PAUSE_LIMIT at any time), and
destination and RDMA registers of a channel while its EN is 0. -/
def portConfigWrite (addr v : Nat) (s : State) : State × WRes :=
  s.loadGuard fun s =>
  match fieldsAt addr with
  | none => (s, .refuse 1 0)
  | some fs =>
    let put := fs.foldl (fun s f => if f.acc == .rw then s.set f (f.ofWord v) else s) s
    if 0xC0100 ≤ addr ∧ addr < 0xC0500 then
      let p := (addr - 0xC0100) / 0x100
      let o := addr % 0x100
      if o = 0x1C then (put, .ok)
      else if o ≠ 0x04 ∧ o ≠ 0x08 ∧ o ≠ 0x0C ∧ o ≠ 0x10 then (s, .refuse 1 0)
      else if s.portOn p then (s, .refuse 1 0)
      else if fs.any fun f => f.ofWord v < f.lo || f.hi < f.ofWord v then (s, .refuse 1 0x0D)
      else (put, .ok)
    else if 0xC0800 ≤ addr ∧ addr < 0xC1000 then
      let c := (addr - 0xC0800) / 0x80
      let o := addr % 0x80
      if (o = 0x08 ∨ o = 0x0C ∨ o = 0x10 ∨ o = 0x14 ∨ (0x30 ≤ o ∧ o ≤ 0x4C)) ∧ !s.chanOn c then (put, .ok) else (s, .refuse 1 0)
    else (s, .refuse 1 0)

/-- PRT_CHn_STATUS.STATE as it reads. -/
def State.chanState (s : State) (c : Nat) : Nat :=
  if !s.chanOn c then 0
  else if s.get (PRT_CHn_QP_STATE.STATE c) = 2 then 6
  else if !s.linkUp (c / 4) then 3
  else match s.nextEntry c with
    | none => 1
    | some e =>
      if (s.macOf c).isNone then 4
      else if s.get (PRT_CHn_CTRL.TRANSPORT c) = 2 ∧ (s.chan c).cur ≠ some e.no ∧ !s.credit c then 5
      else if s.paused (c / 4) then 7 else 2

/-- PRT_CLR.CLR_COUNTS (R12): the counters that are COUNT fields of PRT. -/
def prtClrCounts (s : State) : State :=
  let s := s.setAll ([PRT_BB_DROP_COUNT.COUNT, PRT_BB_LIVE_DROP.COUNT, PRT_BB_POSTCAP_COUNT.COUNT, PRT_BB_CAPTURED.COUNT,
    PRT_BB_FLUSH_COUNT.COUNT] ++ ((List.range 4).flatMap fun p => [PRT_Pn_PAUSE_MS.COUNT p, PRT_Pn_RX_DISCARD.COUNT p,
    PRT_Pn_LINKDOWN_COUNT.COUNT p, PRT_Pn_FEC_CORR.COUNT p, PRT_Pn_FEC_UNCORR.COUNT p]) ++ ((List.range 16).flatMap fun c =>
    [PRT_CHn_SENT.COUNT c, PRT_CHn_OFF_DISCARD.COUNT c, PRT_CHn_CNP_COUNT.COUNT c, PRT_CHn_RETRANS.COUNT c])) 0
  (List.range 4).foldl (fun s p => s.modPort p fun q => { q with
    pauseOff := q.pauseAcc + match q.pauseFrom with | some f => min s.now (q.pauseTo.getD s.now) - f | none => 0 }) s

def execPluggableInsert (t port phy cls : Nat) (readOk : Bool) (s : State) : Host.Outcome State Fault Refusal :=
  .next (pluggableInsert port phy cls readOk (s.at t))
def execPluggableRemove (t port : Nat) (s : State) : Host.Outcome State Fault Refusal := .next (pluggableRemove port (s.at t))
def execLinkDown (t port : Nat) (s : State) : Host.Outcome State Fault Refusal := .next (linkDown port (s.at t))
def execLinkUp (t port : Nat) (s : State) : Host.Outcome State Fault Refusal := .next (linkUpEvent port (s.at t))
def execAnFail (t port : Nat) (s : State) : Host.Outcome State Fault Refusal := .next (anFail port (s.at t))
def execFecSecond (t port corr uncorr : Nat) (s : State) : Host.Outcome State Fault Refusal := .next (fecSecond port corr uncorr (s.at t))
def execPauseFrame (t port : Nat) (quanta : List (Nat × Nat)) (pfc : Bool) (s : State) : Host.Outcome State Fault Refusal :=
  .next (pauseFrame port quanta pfc (s.at t))
def execPauseLimitExceeded (t port : Nat) (s : State) : Host.Outcome State Fault Refusal := .next (pauseLimitExceeded port (s.at t))
def execPauseExpiry (t port : Nat) (s : State) : Host.Outcome State Fault Refusal := .next (pauseExpiry port (s.at t))
def execArpRequestRx (t port ip mac target : Nat) (s : State) : Host.Outcome State Fault Refusal :=
  .next (arpRequestRx port ip mac target (s.at t))
def execArpReplyRx (t port ip mac : Nat) (s : State) : Host.Outcome State Fault Refusal := .next (arpReplyRx port ip mac (s.at t))
def execArpTimer (t port ch : Nat) (s : State) : Host.Outcome State Fault Refusal :=
  .next (if ch / 4 = port then arpTimer ch (s.at t) else s.at t)
def execIcmpEchoRx (t port ip mac : Nat) (payload : List Nat) (s : State) : Host.Outcome State Fault Refusal :=
  .next (icmpEchoRx port ip mac payload (s.at t))
def execRxDiscard (t port : Nat) (s : State) : Host.Outcome State Fault Refusal := .next (rxDiscard port (s.at t))
def execTosonRecordSend (t ch : Nat) (s : State) : Host.Outcome State Fault Refusal := .next (tosonRecordSend ch (s.at t))
def execHeartbeat (t ch : Nat) (s : State) : Host.Outcome State Fault Refusal := .next (heartbeat ch (s.at t))
def execRoceWriteSend (t ch : Nat) (s : State) : Host.Outcome State Fault Refusal := .next (roceWriteSend ch (s.at t))
def execRoceAck (t ch psn : Nat) (s : State) : Host.Outcome State Fault Refusal := .next (roceAck ch psn (s.at t))
def execRoceNak (t ch psn syndrome : Nat) (s : State) : Host.Outcome State Fault Refusal := .next (roceNak ch psn syndrome (s.at t))
def execRoceAckTimeout (t ch : Nat) (s : State) : Host.Outcome State Fault Refusal := .next (roceAckTimeout ch (s.at t))
def execRoceCnp (t ch : Nat) (s : State) : Host.Outcome State Fault Refusal := .next (roceCnp ch (s.at t))
def execDcqcnAlphaTimer (t ch : Nat) (s : State) : Host.Outcome State Fault Refusal := .next (dcqcnAlphaTimer ch (s.at t))
def execDcqcnRateTimer (t ch : Nat) (s : State) : Host.Outcome State Fault Refusal := .next (dcqcnRateTimer ch (s.at t))
def execRoceRequestDiscard (t ch : Nat) (s : State) : Host.Outcome State Fault Refusal := .next (roceRequestDiscard ch (s.at t))
def execChannelCtrlWrite (t ch v : Nat) (s : State) : Host.Outcome State Fault Refusal :=
  .next (State.hostWrite (0xC0800 + 0x80 * ch) (channelCtrlWrite ch v) (s.at t))
def execConsWrite (t ch v : Nat) (s : State) : Host.Outcome State Fault Refusal :=
  .next (State.hostWrite (0xC0850 + 0x80 * ch) (consWrite ch v) (s.at t))
def execPortConfigWrite (t addr v : Nat) (s : State) : Host.Outcome State Fault Refusal :=
  .next (State.hostWrite addr (portConfigWrite addr v) (s.at t))
def execPrtClrCounts (t : Nat) (s : State) : Host.Outcome State Fault Refusal := .next (State.hostDo 0xC0030 prtClrCounts (s.at t))

end Sys2Proof.Machine
end

