-- ==== Sys2Proof/Machine/Fil.lean ====
section
/-!
DEFINITION. Synchronisation and time (R382 to R402): the resets of the filters, FSYNC, the trigger inputs and outputs, the
counter T, its servo, PTP and PPS.
-/
namespace Sys2Proof.Machine

/-! ### Trigger outputs (R389) -/

/-- The settings of both outputs taken from their registers. -/
def State.toutTake (s : State) : State :=
  { s with fil.tout := (List.range 2).map fun n =>
      ⟨s.get (FIL_TOUTn_CTRL.SRC n), s.get (FIL_TOUTn_CTRL.INV n), s.get (FIL_TOUTn_DELAY.DELAY n),
       s.get (FIL_TOUTn_WIDTH.WIDTH n)⟩ }

/-- The outputs with a source; none from Silver downward, nor while EXTEST holds the pins (R547). -/
def State.toutOf (s : State) (src : Nat) : List (Nat × ToutSet) :=
  if 2 ≤ s.get PWR_STATUS.STATE ∨ s.img.extest then []
  else ((List.range 2).map fun n => (n, nth {} s.fil.tout n)).filter fun p => p.2.src == src

/-- An active stretch of an event source, from instant `t`, shifted by DELAY. -/
def State.toutSpan (s : State) (src t len : Nat) : State :=
  (s.toutOf src).foldl (fun s p => if len = 0 then s else s.emit (.pulse p.1 (t + p.2.delay) len)) s

/-- A pulse of a pulse source (FRAME, PPS) of WIDTH phases. Pulses of one output that meet make one. -/
def State.toutPulse (s : State) (src t : Nat) : State :=
  (s.toutOf src).foldl (fun s p => s.emit (.pulse p.1 (t + p.2.delay) p.2.width)) s

/-- A source that follows a state is active: SHUTTER, RUN, SCAN, FAULT. -/
def State.toutState (s : State) (src : Nat) : Bool :=
  match src with
  | 6 => s.get CAL_STATUS.CYCLE ≠ 0
  | 8 => s.sys.run
  | 9 => s.get SWP_SCAN_STATE.STATE == 2 || s.get SWP_SCAN_STATE.STATE == 4
  | 10 => s.alm.active ≠ []
  | _ => false

/-- The level of an output whose source follows a state, INV included. -/
def State.toutLevel (s : State) (n : Nat) : Bool :=
  let o := nth {} s.fil.tout n
  (decide (s.get PWR_STATUS.STATE < 2) && s.toutState o.src) != (o.inv == 1)

/-- A write of a register of a trigger output: SRC 11 to 15 rejected; it acts at the next boundary, or at once outside
RUN. -/
def toutWrite (addr v : Nat) (s : State) : State × WRes :=
  s.loadGuard fun s =>
  match fieldsAt addr with
  | none => (s, .refuse 1 0)
  | some fs =>
    let n := (addr - 0xA0200) / 16
    if addr % 16 = 0 ∧ 10 < (FIL_TOUTn_CTRL.SRC n).ofWord v then (s, .refuse 1 0x0D)
    else if addr % 16 = 8 ∧ (FIL_TOUTn_WIDTH.WIDTH n).ofWord v = 0 then (s, .refuse 1 0x0D)
    else
      let s := fs.foldl (fun s f => s.set f (f.ofWord v)) s
      (if s.sys.run then s else s.toutTake, .ok)

/-- The stretches of a track, from its start, in which a pattern marker is high, its loops unrolled (R162, R163). -/
def markSpans (k : Nat) : List PStep → List (Nat × List (Nat × Nat) × Nat) → List (Nat × Nat) → Nat → List (Nat × Nat)
  | [], _, acc, _ => acc
  | st :: l, open_, acc, t =>
    if st.op = 0 then
      markSpans k l open_ (if (if k = 0 then st.m0 else st.m1) then acc ++ [(t, st.dur)] else acc) (t + st.dur)
    else if st.op = 1 then markSpans k l ((st.dur, acc, t) :: open_) [] 0
    else if st.op = 2 then
      match open_ with
      | (n, acc0, t0) :: rest =>
        markSpans k l rest (acc0 ++ (List.range n).flatMap fun i => acc.map fun p => (t0 + i * t + p.1, p.2)) (t0 + n * t)
      | [] => acc
    else acc

/-- A track that ran from `t0` to `t1` shown on the outputs: EXPOSE or READ, and the markers, as far as it came. -/
def State.toutTrack (s : State) (prog : Nat) (read : Bool) (t0 t1 : Nat) : State :=
  let s := s.toutSpan (if read then 3 else 2) t0 (t1 - t0)
  [0, 1].foldl (fun s k =>
    if (s.toutOf (4 + k)).isEmpty then s
    else (markSpans k (trackOf s.image prog read) [] [] 0).foldl (fun s p =>
      s.toutSpan (4 + k) (t0 + p.1) (min p.2 (t1 - t0 - p.1))) s) s

/-- The idle program is cut off wherever it stands (R167); its pass shows on the outputs as far as it came. -/
def State.idleCut (s : State) : State :=
  match s.fpl.idle, idleProg s.image with
  | true, some n => (s.toutTrack n false s.fpl.idleAt s.now).idleStop
  | _, _ => s.idleStop

/-! ### Resets of the filters (R382) -/

/-- The image has a stage that a reset concerns: TEMPAVG, or BIN on a line carrier. -/
def State.hasFilter (s : State) : Bool :=
  (stageOf s.image 0x20).isSome || (s.lineImage && (stageOf s.image 0x21).isSome)

/-- A frame or line that adds nothing to TEMPAVG: its reset, and a return from Tier 2 at its boundary, begin the new history all the
same (R54, R382). -/
def State.filSkip (s : State) (tier : Nat) (reset : Bool) : State :=
  let left := decide (2 ≤ s.fil.lastTier) && decide (tier < 2) && decide (4 < imgDepth s.image)
  { s with fil.hist := if reset || left then [] else s.fil.hist, fil.lastTier := tier }

/-- A reset counted (R382). -/
def State.filReset (s : State) : State :=
  if s.hasFilter then (s.inc FIL_RESET_COUNT.COUNT).set FIL_EVENTS.RESET 1 else s

/-- A reset of R382 that waits is due at a boundary at instant `b`. -/
def State.resetWaits (s : State) (b : Nat) : Bool := s.fil.resets.any (· ≤ b)

/-- The resets due at a boundary are taken. -/
def State.resetsTake (s : State) (b : Nat) : State := { s with fil.resets := s.fil.resets.filter (b < ·) }

/-- FIL_SYNC_RESET (R382): the host's reset, for the first boundary at least 500 REFTICKs after acceptance. -/
def filSyncReset (s : State) : State := { s with fil.resets := s.fil.resets ++ [16 * (s.tick + 500)] }

/-- FIL_SYNC_CTRL_WRITE (R383): outside RUN only; SRC 0 to 2. -/
def filSyncCtrlWrite (v : Nat) (s : State) : State × WRes :=
  s.loadGuard fun s =>
  let src := FIL_SYNC_CTRL.SRC.ofWord v
  if 2 < src then (s, .refuse 1 0x0D)
  else if s.sys.run then (s, .refuse 1 0x0C)
  else ({ ((s.set FIL_SYNC_CTRL.SRC src).set FIL_SYNC_CTRL.MODE (FIL_SYNC_CTRL.MODE.ofWord v)) with fil.fsync := none }, .ok)

/-! ### FSYNC (R383 to R387) -/

/-- The first REFTICK edge at least 100 ns after an instant, in phases. -/
def tickAfter (e : Nat) : Nat := 16 * ceilDiv (e + 16) 16

/-- The settings that a boundary at an FSYNC edge takes: the pending set if it was committed at least 50 µs before the
edge (R387), else the active set. -/
def State.fsyncSet (s : State) (e : Nat) : Settings :=
  match s.fpl.pending with
  | some v => if 16 * (s.fpl.commitAt + 500) ≤ e then v else s.activeSet
  | none => s.activeSet

/-- The earliest instant that R173 allows for a boundary at an FSYNC edge: B + E stands in for the scheduled boundary
(R385). -/
def State.fsyncEarliest (s : State) (e : Nat) : Nat :=
  match s.fpl.lastB with
  | none => 0
  | some b =>
    let o := s.fpl.lastSet.getD s.activeSet
    let v := s.fsyncSet e
    let f := s.image
    let po := progOf f o.prog
    let pn := progOf f v.prog
    let i2 := b + o.int + po.readOff + po.guard
    let i3 := b + o.int + po.readOff + rLen f o.prog - (v.int + pn.readOff)
    16 * ceilDiv (max (b + eLen f o.prog) (max i2 i3)) 16

/-- The instant of the boundary for a waiting FSYNC edge (R385, R386). -/
def State.fsyncAt (s : State) (e : Nat) : Nat := max (tickAfter e) (s.fsyncEarliest e)

/-- FSYNC_LATE counted (R385). -/
def State.fsyncLate (s : State) : State := (s.inc FIL_FSYNC_LATE_COUNT.COUNT).set FIL_EVENTS.FSYNC_LATE 1

/-- FSYNC_MISSED (R386): counted, and fault 0x0A01. -/
def State.fsyncMissed (s : State) : State :=
  ((s.inc FIL_FSYNC_MISS_COUNT.COUNT).set FIL_EVENTS.FSYNC_MISSED 1).fault 0x0A01

/-- What an FSYNC edge at instant `e` does (R383 to R386). -/
def State.fsyncEdge (s : State) (e : Nat) : State :=
  let mode := s.get FIL_SYNC_CTRL.MODE
  if s.sys.mode = .sweep then
    if s.sys.run ∧ mode ≠ 0 then { s with fil.resets := s.fil.resets ++ [e] } else s
  else if s.sys.mode ≠ .stare then s
  else match mode with
    | 1 => if s.sys.run then { s with fil.resets := s.fil.resets ++ [e + 16] } else s
    | 2 =>
      if !s.sys.run then s
      else if s.fil.fsync.isSome then s.fsyncLate
      else { s with fil.fsync := some e }
    | 3 =>
      if s.sys.run then
        if s.fil.fsync.isSome || decide (tickAfter e < s.fsyncEarliest e) then s.fsyncMissed
        else { s with fil.fsync := some e }
      else
        match s.sys.runAt with
        | some r => if s.fil.fsync.isNone ∧ 16 * (r / 16) + 50 * us ≤ e then { s with fil.fsync := some e } else s
        | none => s
    | _ => s

/-- TRIGGER_EDGE (R388): an edge accepted in White or Pearl is counted and timestamped at the first sample of the new
level, FILT − 1 phases before its acceptance; where the input is FSYNC it acts as R383 states. R144 gives a trigger input no other
effect than the wake below White, R388 samples it in Pearl too: the model follows R388 (DESIGN CHOICE, log entry 515). -/
def triggerEdge (input : Nat) (s : State) : State :=
  if 2 ≤ s.get PWR_STATUS.STATE ∨ 1 < input then s
  else
    let e := s.now - (s.get (FIL_TINn_CTRL.FILT input) - 1)
    let s := s.inc (FIL_TINn_COUNT.COUNT input)
    let s := { s with fil.tins := modNth (fun (_ : Nat × Nat) => s.stamp e) s.fil.tins input }
    if s.get FIL_SYNC_CTRL.SRC = input + 1 then s.fsyncEdge e else s

/-! ### The time counter (R390, R394, R398) -/

/-- T rebased at the present REFTICK, so that its rate can change. -/
def State.rebase (s : State) : State := { s with fil.tBase := s.timeAt (16 * s.tick), fil.tAt := s.tick }

/-- The rate correction in 0.001 ppm (R390). -/
def State.setRate (s : State) (r : Int) : State :=
  { s.rebase.seti FIL_TIME_RATE.RATE r with fil.rate := r }

/-- T moved by nanoseconds at the present REFTICK. -/
def State.stepT (s : State) (ns : Int) : State :=
  let s := s.rebase
  { s with fil.tBase := s.fil.tBase + ns * 2 ^ 32 }

/-- T loaded so that it reads `sec` and `ns` at instant `e`. -/
def State.loadT (s : State) (e : Nat) (sec ns : Nat) : State :=
  let s := s.rebase
  { s with fil.tBase := s.fil.tBase + (((sec * 10 ^ 9 + ns : Nat) : Int) * 2 ^ 32 - s.timeAt e) }

/-- FIL_TIME_SET as seconds and nanoseconds. -/
def State.timeSetting (s : State) : Nat × Nat :=
  (s.get64 FIL_TIME_SET_SEC_LO.SEC FIL_TIME_SET_SEC_HI.SEC, s.get FIL_TIME_SET_NS.NS)

/-- TIME_SET (R392): at once in TOD_SRC 0, at the next PPS edge in TOD_SRC 2, refused in 1 and 3. -/
def timeSet (s : State) : State × WRes :=
  match s.get FIL_TIME_CTRL.TOD_SRC with
  | 0 => (s.loadT (16 * s.tick) s.timeSetting.1 s.timeSetting.2, .ok)
  | 2 => ({ s with fil.setDue := true }, .ok)
  | _ => (s, .refuse 1 0)

/-! ### The servo (R393 to R397) -/

/-- Holdover as a record shows it: REF_HOLDOVER of a frame or line between its boundary and its last sample (R44, R395); the raw
line of the newest boundary `lb`, once read, keeps it for the output lines whose last sample is still to come (R298). -/
def FrameRec.hold (lb : Option Nat) (r : FrameRec) : FrameRec :=
  if r.lastSample.isNone then { r with flags := r.flags ||| 512 }
  else if r.line && lb == some r.boundary then { r with heldAfter := true } else r

/-- The frames and lines that are being made carry REF_HOLDOVER (R44, R395). -/
def State.markHoldover (s : State) : State :=
  { s with fpl.frames := s.fpl.frames.map (FrameRec.hold s.fpl.lastB), swp.rows := s.swp.rows.map (FrameRec.hold s.fpl.lastB) }

/-- The state of the servo is one that flags frames (R395). -/
def State.timeHeld (s : State) : Bool := s.get FIL_TIME_STATE.STATE == 3 || s.get FIL_TIME_STATE.STATE == 4

/-- HOLDOVER entered (R393, R396). -/
def State.holdEnter (s : State) : State :=
  let st := s.get FIL_TIME_STATE.STATE
  if st = 2 ∨ st = 4 then
    let s := ((s.set FIL_TIME_STATE.STATE 3).set FIL_EVENTS.TIME_LOST 1).fault 0x0A02
    { s.markHoldover with fil.holdSince := some s.now, fil.good := 0, fil.stepDue := none }
  else { s with fil.good := 0 }

/-- The source is lost (R400, R401). -/
def State.sourceLost (s : State) : State := (s.set FIL_TIME_STATE.SRC_OK 0).holdEnter

/-- LOCKED entered: its event, and the faults that it clears (R526). -/
def State.timeLock (s : State) : State :=
  let s := (s.set FIL_TIME_STATE.STATE 2).set FIL_EVENTS.TIME_LOCKED 1
  ({ s with fil.holdSince := none }.unfault 0x0A02).unfault 0x0A03 |>.unfault 0x0A05

/-- An offset slewed (R394): the new rate is open, within FIL_SLEW_MAX of the present one and ±500 ppm. -/
def State.slew (s : State) (ofs : Int) : State :=
  if ofs = 0 then s
  else
    let m : Nat := 1000 * s.get FIL_SLEW_MAX.PPM
    let r := s.fil.rate + ((Config.freeValue 6 s.free % (2 * m + 1) : Nat) : Int) - m
    (s.setRate (clampI (-500000) 500000 r)).nextFree

/-- The correction of an offset (R394). -/
def State.correct (s : State) (ofs : Int) : State :=
  let s := { s with fil.stepDue := none }
  if s.sys.run then
    if (1000 * s.get FIL_STEP_THRESH.US : Nat) < ofs.natAbs then { s with fil.stepDue := some ofs } else s.slew ofs
  else if 1000 < ofs.natAbs then s.stepT (-ofs)
  else s.slew ofs

/-- One offset measurement (R393): the state moves, and the offset is corrected. -/
def State.measure (s : State) (ofs : Int) : State :=
  let s := (s.seti FIL_TIME_OFFSET.NS ofs).set FIL_TIME_STATE.SRC_OK 1
  let s := if s.get FIL_TIME_STATE.STATE = 3 then { s.set FIL_TIME_STATE.STATE 4 with fil.holdSince := none } else s
  let good := if ofs.natAbs ≤ 1000 then min 16 (s.fil.good + 1) else 0
  let s : State := { s with fil.good := good }
  let s := if good = 16 ∧ s.get FIL_TIME_STATE.STATE ≠ 2 then s.timeLock else s
  s.correct ofs

/-- A step that waits when RUN ends is taken as one outside RUN (R394). -/
def State.stepOut (s : State) : State :=
  match s.fil.stepDue with
  | none => { s with fil.stepMade := false }
  | some ofs => { s.stepT (-ofs) with fil.stepDue := none, fil.stepMade := false }

/-- The step in RUN that waits for a boundary is taken (R394). -/
def State.stepTake (s : State) : State :=
  match s.fil.stepDue with
  | none => s
  | some ofs => { (s.stepT (-ofs)).set FIL_EVENTS.TIME_STEP 1 with fil.stepDue := none }

/-- A boundary takes the step that waits, unless TIME_STEP has taken it there, and tells whether its frame or line was stepped. -/
def State.stepBoundary (s : State) : State × Bool :=
  let stepped := s.fil.stepDue.isSome || s.fil.stepMade
  ({ s.stepTake with fil.stepMade := false }, stepped)

/-- What a change of FIL_TIME_CTRL or FIL_PPS_DELAY does to the servo (R393, R402), from the former TOD_SRC, DOMAIN and
PPS_DELAY. -/
def State.todChanged (s : State) (tod dom : Nat) : State :=
  let s := if s.get FIL_TIME_CTRL.DOMAIN = dom then s else
    { s with fil.masters := [], fil.master := none, fil.lastSync := none, fil.sync := none, fil.pair := none, fil.ptpOfs := none }
  if s.get FIL_TIME_CTRL.TOD_SRC = tod then s
  else
    let s := (s.set FIL_TIME_STATE.STATE (if s.get FIL_TIME_CTRL.TOD_SRC = 0 then 0 else 1)).set FIL_TIME_STATE.SRC_OK 0
    { s with fil.good := 0, fil.stepDue := none, fil.setDue := false, fil.holdSince := none, fil.ppsUsed := none,
             fil.ppsBad := 0, fil.ppsAny := false, fil.ptpOfs := none }

/-- TOD_SRC_WRITE (R392, R393): a write of FIL_TIME_CTRL. -/
def todSrcWrite (v : Nat) (s : State) : State × WRes :=
  s.loadGuard fun s =>
  let tod := s.get FIL_TIME_CTRL.TOD_SRC
  let dom := s.get FIL_TIME_CTRL.DOMAIN
  let s := (s.set FIL_TIME_CTRL.TOD_SRC (FIL_TIME_CTRL.TOD_SRC.ofWord v)).set FIL_TIME_CTRL.REQUIRE_LOCK
    (FIL_TIME_CTRL.REQUIRE_LOCK.ofWord v)
  let s := s.set FIL_TIME_CTRL.DOMAIN (FIL_TIME_CTRL.DOMAIN.ofWord v)
  (s.todChanged tod dom, .ok)

/-- HOLDOVER_LIMIT (R396): the holdover has lasted longer than FIL_HOLD_LIMIT. -/
def holdoverLimit (s : State) : State :=
  match s.fil.holdSince with
  | some h => if s.get FIL_TIME_STATE.STATE = 3 ∧ s.get FIL_HOLD_LIMIT.S * sec < s.now - h then s.fault 0x0A03 else s
  | none => s

/-- FIL_HOLD_TIME as it reads (R396). -/
def State.holdTime (s : State) : Nat :=
  match s.fil.holdSince with
  | some h => if s.get FIL_TIME_STATE.STATE = 3 then (s.now - h) / sec else 0
  | none => 0

/-! ### PTP (R400) -/

/-- Order of the best-master comparison: the smaller rank is the better clock. -/
def ptpRank (m : PtpMsg) : List Nat :=
  [m.priority1, m.clockClass, m.accuracy, m.variance, m.priority2, m.grandmaster, m.steps, m.source]

/-- Lexicographic order of ranks. -/
def rankLe : List Nat → List Nat → Bool
  | [], _ => true
  | _ :: _, [] => false
  | a :: l, b :: m => decide (a < b) || (a == b && rankLe l m)

/-- The best of the masters. -/
def bestMaster : List PtpMaster → Option PtpMaster
  | [] => none
  | m :: l =>
    match bestMaster l with
    | none => some m
    | some b => if rankLe (ptpRank m.msg) (ptpRank b.msg) then some m else some b

/-- An interval of 2^k seconds, in phases. -/
def logPhases (k : Int) : Nat := if k < 0 then sec / 2 ^ k.natAbs else sec * 2 ^ k.natAbs

/-- A timestamp of the management PHY: whole nanoseconds with 8 ns resolution. -/
def State.phyTime (s : State) : Int :=
  let ns := s.nsAt s.now
  ns / 8 * 8 + (if ns % 8 ≠ 0 ∧ Config.roundUp 3 ns.toNat 8 then 8 else 0)

/-- The servo follows PTP alone. -/
def State.todIs (s : State) (n : Nat) : Bool := s.get FIL_TIME_CTRL.TOD_SRC == n

/-- The master selected among those that announce; its identity, and what a change does. -/
def State.selectMaster (s : State) : State :=
  match bestMaster s.fil.masters with
  | none => { s.set FIL_PTP_STATUS.PORT_STATE 4 with fil.master := none }
  | some m =>
    let s := s.set FIL_PTP_STATUS.UTC_OFFSET m.msg.utcOffset
    if s.fil.master = some m.msg.source then s
    else
      let changed := s.fil.master.isSome
      let s := (s.set64 FIL_PTP_MASTER_LO.ID FIL_PTP_MASTER_HI.ID m.msg.source).set FIL_PTP_STATUS.PORT_STATE 8
      let s := { s with fil.master := some m.msg.source, fil.lastSync := none, fil.sync := none, fil.pair := none,
                        fil.delayReq := none, fil.ptpOfs := none }
      if !changed then s
      else
        let s := s.set FIL_EVENTS.MASTER_CHANGE 1
        if (s.todIs 1 || s.todIs 3) && s.get FIL_TIME_STATE.STATE == 2 then
          { (s.set FIL_TIME_STATE.STATE 4).markHoldover with fil.good := 0 }
        else if s.todIs 1 then { s with fil.good := 0 } else s

/-- PTP is served: management port above Slate (R151, R399). -/
def State.ptpServed (s : State) : Bool := decide (s.get PWR_STATUS.STATE < 4)

/-- PTP_ANNOUNCE (R400): an Announce in the domain enters the comparison. -/
def ptpAnnounce (m : PtpMsg) (s : State) : State :=
  if !s.ptpServed || m.domain ≠ s.get FIL_TIME_CTRL.DOMAIN then s
  else
    let keep := s.fil.masters.filter fun p =>
      p.msg.source ≠ m.source && (s.fil.master == some p.msg.source || decide (s.now ≤ p.at_ + 3 * logPhases p.msg.logInterval))
    let s : State := { s with fil.masters := keep ++ [(⟨m, s.now⟩ : PtpMaster)] }
    s.selectMaster

/-- A whole Sync exchange: the offset from origin, receipt, path delay and corrections (R393, R400). -/
def State.syncDone (s : State) (t1 t2 corr : Int) : State :=
  let ofs := t2 - t1 - s.geti FIL_PTP_MEANDELAY.NS - corr
  let s : State := { s.set FIL_PTP_STATUS.PORT_STATE 9 with fil.pair := some (t1, t2, corr), fil.ptpOfs := some ofs }
  if s.todIs 1 && decide (s.get PWR_STATUS.STATE < 2) then s.measure ofs else s

/-- PTP_SYNC (R400): a Sync of the selected master, or the Follow_Up of a two-step one. -/
def ptpSync (m : PtpMsg) (s : State) : State :=
  if !s.ptpServed || m.domain ≠ s.get FIL_TIME_CTRL.DOMAIN || s.fil.master ≠ some m.source then s
  else if m.followUp then
    match s.fil.sync with
    | some (q, t2, c) =>
      if q = m.seq then { s with fil.sync := none }.syncDone m.originNs t2 (c + m.correction) else s
    | none => s
  else
    let t2 := s.phyTime
    let s := { s with fil.lastSync := some (s.now, m.logInterval) }
    if m.twoStep then { s with fil.sync := some (m.seq, t2, m.correction) }
    else { s with fil.sync := none }.syncDone m.originNs t2 m.correction

/-- PTP_DELAY_REQ_SEND (R400): a Delay_Req to the selected master, its departure timestamped. -/
def ptpDelayReqSend (s : State) : State :=
  if !s.ptpServed || s.fil.master.isNone || s.fil.pair.isNone then s
  else
    let q := (s.fil.delaySeq + 1) % 2 ^ 16
    { s.emit (.mgmt "PTP Delay_Req" 0) with fil.delaySeq := q, fil.delayReq := some (q, s.phyTime) }

/-- PTP_DELAY_RESP (R400): the mean path delay of the exchange. -/
def ptpDelayResp (m : PtpMsg) (s : State) : State :=
  match s.fil.delayReq, s.fil.pair with
  | some (q, t3), some (t1, t2, corr) =>
    if !s.ptpServed || m.domain ≠ s.get FIL_TIME_CTRL.DOMAIN || s.fil.master ≠ some m.source || q ≠ m.seq then s
    else
      let d := (t2 - t3) + (m.rxNs - t1) - corr - m.correction
      let half := d / 2 + (if d % 2 ≠ 0 ∧ Config.roundUp 2 d.natAbs 2 then 1 else 0)
      { s.seti FIL_PTP_MEANDELAY.NS half with fil.delayReq := none }
  | _, _ => s

/-- No Announce of the selected master within 3 announce intervals. -/
def State.announceLate (s : State) : Bool :=
  s.fil.masters.any fun p =>
    s.fil.master == some p.msg.source && decide (p.at_ + 3 * logPhases p.msg.logInterval < s.now)

/-- No Sync within 4 sync intervals. -/
def State.syncLate (s : State) : Bool :=
  match s.fil.lastSync with
  | some (t, k) => decide (t + 4 * logPhases k < s.now)
  | none => false

/-- PTP_SOURCE_LOSS (R400): the selected master has stopped announcing, or its Sync messages have stopped. -/
def ptpSourceLoss (s : State) : State :=
  if s.fil.master.isNone || !(s.announceLate || s.syncLate) then s
  else
    let gone := s.announceLate
    let s := { s with fil.lastSync := none, fil.sync := none, fil.pair := none, fil.delayReq := none, fil.ptpOfs := none }
    let s := if s.todIs 1 || s.todIs 3 then s.sourceLost else s
    if gone then
      { s with fil.masters := s.fil.masters.filter fun p => s.fil.master ≠ some p.msg.source }.selectMaster
    else s.set FIL_PTP_STATUS.PORT_STATE 8

/-! ### PPS (R401) -/

/-- The offset of a time in nanoseconds from the nearest whole second. -/
def secondOfs (ns : Int) : Int := (ns + 500000000) % 1000000000 - 500000000

/-- PPS_EDGE (R392, R401): a rising edge of the PPS input, accepted with FILT 4. -/
def ppsEdge (s : State) : State :=
  let tod := s.get FIL_TIME_CTRL.TOD_SRC
  if 2 ≤ s.get PWR_STATUS.STATE ∨ tod < 2 then s
  else
    let e := s.now - 3
    let dly := s.geti FIL_PPS_DELAY.NS
    let s := if tod = 2 ∧ s.fil.setDue then
        { (s.loadT e s.timeSetting.1 s.timeSetting.2).stepT dly with fil.setDue := false } else s
    let ns := s.nsAt e - dly
    let strict := decide (2 ≤ s.get FIL_TIME_STATE.STATE) && !s.fil.ppsAny
    if strict && decide (10000 < (secondOfs ns).natAbs) then
      let s := (s.inc FIL_PPS_BAD_COUNT.COUNT).set FIL_EVENTS.PPS_BAD 1
      let n := s.fil.ppsBad + 1
      let s := { s with fil.ppsBad := n, fil.ppsAny := decide (3 ≤ n) }
      if n = 3 then s.fault 0x0A04 else s
    else
      let used := fun (s : State) (ofs : Int) =>
        ({ s with fil.ppsUsed := some s.now, fil.ppsBad := 0, fil.ppsAny := false }.unfault 0x0A04).measure ofs
      if tod = 2 then used s (secondOfs ns)
      else match s.fil.ptpOfs with
        | none => s
        | some p =>
          let ofs := secondOfs (ns - p) + p
          if (ofs - p).natAbs ≤ 100000 then used s ofs else s

/-- PPS_SOURCE_LOSS (R401): 2.5 s without a used edge. -/
def ppsSourceLoss (s : State) : State :=
  match s.fil.ppsUsed with
  | some u =>
    if 2 ≤ s.get FIL_TIME_CTRL.TOD_SRC ∧ u + 400000000 < s.now then { s with fil.ppsUsed := none }.sourceLost else s
  | none => s

/-- T_WHOLE_SECOND (R389): a whole second of T. -/
def tWholeSecond (s : State) : State :=
  if s.nsAt s.now % 1000000000 < 100 then s.toutPulse 7 s.now else s

def execTriggerEdge (t input : Nat) (s : State) : Host.Outcome State Fault Refusal := .next (triggerEdge input (s.at t))
def execFilSyncReset (t : Nat) (s : State) : Host.Outcome State Fault Refusal := .next (State.hostDo 0xA0008 filSyncReset (s.at t))
def execFilSyncCtrlWrite (t v : Nat) (s : State) : Host.Outcome State Fault Refusal :=
  .next (State.hostWrite 0xA0004 (filSyncCtrlWrite v) (s.at t))
def execTimeSet (t : Nat) (s : State) : Host.Outcome State Fault Refusal :=
  .next (State.hostWrite 0xA0420 timeSet (s.at t))
def execTodSrcWrite (t v : Nat) (s : State) : Host.Outcome State Fault Refusal :=
  .next (State.hostWrite 0xA0400 (todSrcWrite v) (s.at t))
def execPpsEdge (t : Nat) (s : State) : Host.Outcome State Fault Refusal := .next (ppsEdge (s.at t))
def execPtpSync (t : Nat) (m : PtpMsg) (s : State) : Host.Outcome State Fault Refusal := .next (ptpSync m (s.at t))
def execPtpAnnounce (t : Nat) (m : PtpMsg) (s : State) : Host.Outcome State Fault Refusal := .next (ptpAnnounce m (s.at t))
def execPtpDelayResp (t : Nat) (m : PtpMsg) (s : State) : Host.Outcome State Fault Refusal := .next (ptpDelayResp m (s.at t))
def execPtpDelayReqSend (t : Nat) (s : State) : Host.Outcome State Fault Refusal := .next (ptpDelayReqSend (s.at t))
def execPtpSourceLoss (t : Nat) (s : State) : Host.Outcome State Fault Refusal := .next (ptpSourceLoss (s.at t))
def execPpsSourceLoss (t : Nat) (s : State) : Host.Outcome State Fault Refusal := .next (ppsSourceLoss (s.at t))
def execHoldoverLimit (t : Nat) (s : State) : Host.Outcome State Fault Refusal := .next (holdoverLimit (s.at t))
def execTWholeSecond (t : Nat) (s : State) : Host.Outcome State Fault Refusal := .next (tWholeSecond (s.at t))

end Sys2Proof.Machine
end

