-- ==== Sys2Proof/Machine/RefSrc.lean ====
section
/-!
DEFINITION. The source of REFTICK (R39 to R45): its gates, its loss, its changes and holdover.
-/
namespace Sys2Proof.Machine

/-! ### Holdover (R42, R44) -/

/-- GOV_REF_STATUS.HOLDOVER and the flag of the frames that are being taken. -/
def State.refHold (s : State) : State :=
  let sel := s.get GOV_REF_CTRL.SRC_SEL
  let h := s.get GOV_REF_STATUS.SRC == 0 && (sel == 1 || (sel == 0 && s.on GOV_REF_STATUS.EXT_SEEN))
  let s := { s.setb GOV_REF_STATUS.HOLDOVER h with gov.holdSince := if h then some (s.gov.holdSince.getD s.now) else none }
  if h then s.markHoldover else s

/-- T carries a phase step of the REFTICK source, in units of 2^-32 ns (R398). -/
def State.phaseT (s : State) (step : Int) : State :=
  let s := s.rebase
  { s with fil.tBase := s.fil.tBase + step }

/-- The source changes (R41, R43): SRC, the step in T, REF_SWITCH, and holdover. -/
def State.refTake (s : State) (src : Nat) (step : Int) : State :=
  let s := ((s.set GOV_REF_STATUS.SRC src).set GOV_EVENTS.REF_SWITCH 1).phaseT step
  { s with gov.refTo := none }.refHold

/-- The phase difference of the two sources where no command carries it: open, in −50 ns to +50 ns (R43), in units of 2^-32 ns. -/
def State.refStep (s : State) : Int :=
  (Config.freeValue 40 s.free % (100 * 2 ^ 32 + 1) : Nat) - (50 * 2 ^ 32 : Int)

/-- A change of the source is decided (R43): outside RUN it takes place at once, in RUN at a boundary. -/
def State.refDecide (s : State) (src : Nat) : State :=
  if s.sys.run then { s with gov.refTo := some src, gov.refAt := s.now } else s.nextFree.refTake src s.refStep

/-- A change decided has its boundary at `b`: the first one at least 1 REFTICK after the decision (R43). -/
def State.refDue (s : State) (b : Nat) : Bool := s.gov.refTo.isSome && decide (s.gov.refAt + 16 ≤ b)

/-- A boundary at `b` brings the change that is due there, unless REF_SWITCH has brought it. -/
def State.refBoundary (s : State) (b : Nat) : State :=
  match s.gov.refTo with
  | some src => if s.refDue b then s.nextFree.refTake src s.refStep else s
  | none => s

/-- A change that waits when RUN has ended takes place at once (R43). -/
def State.refRunEnd (s : State) : State :=
  match s.gov.refTo with
  | some src => s.nextFree.refTake src s.refStep
  | none => s

/-- The external input qualifies (R40): 0x0102 and 0x0103 clear, and a switch to it is decided (R43, R107). -/
def State.refQualify (s : State) : State :=
  let s := ((s.set GOV_REF_STATUS.QUALIFIED 1).set GOV_REF_STATUS.EXT_SEEN 1).unfault 0x0102 |>.unfault 0x0103
  if s.get GOV_REF_STATUS.SRC = 0 ∧ s.get GOV_REF_CTRL.SRC_SEL ≠ 2 then s.refHold.refDecide 1
  else { s with gov.refTo := none }.refHold

/-- The qualified input is lost (R41, R45); while the timing island runs on it, REF_LOSS brings the oscillator. -/
def State.refLost (s : State) : State :=
  let used := s.get GOV_REF_STATUS.SRC == 1
  let s : State := { (s.set GOV_REF_STATUS.QUALIFIED 0).inc GOV_REF_LOSS_COUNT.COUNT with
    gov.gates := 0, gov.refTo := none }
  let s := if used then s.fault 0x0102 else s
  if s.get GOV_REF_CTRL.SRC_SEL = 1 ∧ s.sys.run then s.fault 0x0103 else s

/-- REF_GATE_END (R40): `off` in 0.01 ppm. -/
def refGateEnd (edges : Bool) (off : Int) (s : State) : State :=
  let valid := edges && decide (off.natAbs ≤ 2000)
  let s := (s.seti GOV_REF_FREQ.EXT_FREQ off).setb GOV_REF_STATUS.EXT_VALID valid
  if valid then
    let s := { s with gov.gates := min 10 (s.gov.gates + 1) }
    if s.gov.gates = 10 ∧ !s.on GOV_REF_STATUS.QUALIFIED then s.refQualify else s
  else if s.on GOV_REF_STATUS.QUALIFIED then s.refLost else { s with gov.gates := 0 }

/-- REF_LOSS (R41): the input is lost, if a gate has not found it lost already, and the timing island runs on the oscillator. -/
def refLoss (shift : Int) (s : State) : State :=
  let s := if s.on GOV_REF_STATUS.QUALIFIED then s.refLost else s
  if s.get GOV_REF_STATUS.SRC = 1 ∧ !s.on GOV_REF_STATUS.QUALIFIED then s.refTake 0 shift else s

/-- A write of GOV_REF_CTRL (R39, R43). -/
def govRefCtrlWrite (v : Nat) (s : State) : State × WRes :=
  let sel := GOV_REF_CTRL.SRC_SEL.ofWord v
  if sel = 3 then (s, .refuse 1 0x0D)
  else
    let s := s.set GOV_REF_CTRL.SRC_SEL sel
    let s := if sel ≠ 1 then s.unfault 0x0103 else s
    let ext := s.get GOV_REF_STATUS.SRC == 1
    let s := { s with gov.refTo := none }.refHold
    (if sel = 2 then (if ext then s.refDecide 0 else s)
     else if s.on GOV_REF_STATUS.QUALIFIED && !ext then s.refDecide 1 else s, .ok)

def govRefCtrl (v : Nat) (s : State) : State := State.hostWrite 0x10100 (govRefCtrlWrite v) s

def execRefGateEnd (t : Nat) (edges : Bool) (off : Int) (s : State) : Host.Outcome State Fault Refusal :=
  .next (refGateEnd edges off (s.at t))
def execRefLoss (t : Nat) (shift : Int) (s : State) : Host.Outcome State Fault Refusal := .next (refLoss shift (s.at t))
def execGovRefCtrlWrite (t v : Nat) (s : State) : Host.Outcome State Fault Refusal := .next (govRefCtrl v (s.at t))

end Sys2Proof.Machine
end

