-- ==== Sys2Proof/Machine/Mode.lean ====
section
/-!
DEFINITION. Modes and runs (R28 to R32, R480): the run and the stop command, what the start of a run and its end do, and a
mode change that must end a run first.
-/
namespace Sys2Proof.Machine

/-- A tile origin of a binned area image off the bin grid (R379). -/
def State.binBad (s : State) : Bool :=
  let bx := imgBx s.image
  let bY := imgBy s.image
  !s.lineImage && (bx != 1 || bY != 1) && (tilesOf s.tileMask).any fun n =>
    s.geti (FPL_GEOMn_X.X n) % (1000 * bx : Nat) != 0 || s.geti (FPL_GEOMn_Y.Y n) % (1000 * bY : Nat) != 0

/-- The REASON for which a run command is refused (R480). R31 has RUN resume after Grey only once settling and a shutter cycle are
over, while R129 and R147 let RUN run through settling and force the cycle inside it: the model follows these two, and neither
settling nor a cycle refuses a run (DESIGN CHOICE, log entry 101). -/
def State.runRefuse (s : State) : Option Nat :=
  if !s.sys.up then some 0x05
  else if s.notWhite then some 0x06
  else if !s.imaging then some 0x03
  else if s.sys.changing then some 0x04
  else if s.on IMG_STATUS.FALLBACK then some 0x09
  else if !s.on GOV_REF_STATUS.DLL_LOCK then some 0x08
  else if s.get GOV_REF_CTRL.SRC_SEL = 1 ∧ !s.on GOV_REF_STATUS.QUALIFIED then some 0x07
  else if s.on FIL_TIME_CTRL.REQUIRE_LOCK ∧ s.get FIL_TIME_STATE.STATE ≠ 2 then some 0x0B
  else if s.geometryBad || s.binBad then some 0x0A
  else none

/-- The faults that two refusals of a run command raise (R45, R397). -/
def State.runRefuseFault (s : State) (r : Nat) : State :=
  if r = 0x07 then s.fault 0x0103 else if r = 0x0B then s.fault 0x0A05 else s

/-- A run command (R30, R61, R480). -/
def modeRunWrite (s : State) : State × WRes :=
  if s.sys.run && !s.sys.changing then (s, .ok)
  else match s.runRefuse with
    | some r => (s.runRefuseFault r, .refuse 1 r)
    | none => ({ s with sys.changing := true, sys.runAt := some s.now }.govRunBegin, .ok)

/-- A stop command (R30, R480). -/
def modeStopWrite (s : State) : State × WRes :=
  if !s.sys.up then (s, .refuse 1 0x05)
  else if s.sys.changing then (s, .refuse 1 0x04)
  else if !s.imaging then (s, .refuse 1 0x03)
  else if s.sys.run then ({ s with sys.changing := true, sys.stopAt := some s.now }, .ok)
  else (s, .ok)

/-- A write of ENG_MODE_CMD (R480, R553). -/
def modeCmdWrite (v : Nat) (s : State) : State × WRes :=
  match ENG_MODE_CMD.CMD.ofWord v with
  | 0 => (s, .ok)
  | 1 => modeRunWrite s
  | 2 => modeStopWrite s
  | _ => (s, .refuse 1 0x0D)

/-- A mode in force (R28); the heaters follow it (R305). -/
def State.setMode (s : State) (m : Mode) : State :=
  if m = s.sys.mode then s else { s with sys.mode := m }.heatUpdate

/-- Some frame's read track has not ended. -/
def State.reading (s : State) : Bool := s.fpl.frames.any (·.lastSample.isNone)

/-- What the first boundary of a run does before anything else (R30, R167, R211, R244). -/
def State.startRun (s : State) : State :=
  let s : State := { s with sys.run := true, sys.changing := false, sys.runAt := none, gov.boundaries := 0,
                            vfe.started := false, vfe.rotStart := none, vfe.busy := false, cal.retryAt := none }
  (if s.lineImage then s else s.idleCut).uncalAll.shadowBegin s.now

/-! ### The bin in progress (R380) -/

/-- What an entry holds once complete. -/
def State.fillEntry (s : State) (h : Head) (pix : Region → List Nat) (stats : List (Nat × List Nat)) (e : Entry) : Entry :=
  let rs := if h.kind = 3 then [] else s.regionsAt h.bpp
  { e with head := s.headBytes { h with nreg := rs.length, statMask := maskOf (stats.map (·.1)), payload := regionBytes h.bpp rs },
           regions := rs, pix := rs.map pix, stats := stats, bpp := h.bpp }

/-- The gain codes of a record, packed. -/
def FrameRec.packGains (r : FrameRec) : Nat := ((List.range 8).map fun n => nth 0 r.gains n * 4 ^ n).sum

/-- The header of a frame or line from its record. -/
def recHead (r : FrameRec) (kind tierB flags last : Nat) : Head :=
  { kind := kind, fmt := r.format, no := r.no, epoch := r.epoch, tier := tierB, bpp := bppOf r.format, gen := r.gen, secs := r.secs,
    ns := r.ns, gap := r.prevGap, flags := flags, gains := r.packGains, int := r.int,
    period := r.period, prog := r.prog, tick := r.boundary / 16, last := last - r.boundary / 16 }

/-- Statistics FLAGS of a tile (R239): DT_SAT and SUBST. -/
def State.statFlags (s : State) (r : FrameRec) (n : Nat) : Nat :=
  b2n ((r.temps.find? (·.1 == n)).elim false (·.2.2)) + 4 * b2n (imgFormat s.image == 2 && r.format == 0)

/-- The statistics blocks of a line (R239, R316): seam columns take no part. -/
def State.lineBlocks (s : State) (r : FrameRec) (px : List OutPix) (cs : List TileCounts) : List (Nat × List Nat) :=
  if (stageOf s.image 0x30).isNone then []
  else cs.map fun c => (c.tile, statBlock c.tile r.format (s.statFlags r c.tile) r.epoch r.tier r.gen
    (px.filter (·.tile == c.tile)) c (((r.temps.find? (·.1 == c.tile)).map (·.2.1)).getD 0))

/-- Counts of one tile over several lines. -/
def sumCounts (n : Nat) (l : List TileCounts) : TileCounts :=
  (l.filter (·.tile == n)).foldl (fun (a : TileCounts) c =>
    { a with satLow := a.satLow + c.satLow, satHigh := a.satHigh + c.satHigh, gainClamp := a.gainClamp + c.gainClamp,
             replaced := a.replaced + c.replaced, orphan := a.orphan + c.orphan }) { tile := n }

/-- A line entry filled: KIND 1 or 2, from the record that heads it and the tick of its last sample. -/
def State.lineFill (s : State) (r : FrameRec) (kind tierB flags last : Nat) (px : List OutPix) (cs : List TileCounts) : State :=
  let v := s.asOut r.out
  let h := { recHead r kind tierB flags last with w := v.wOut, h := 4 }
  s.bbFill r.no (v.fillEntry h (linePixels px h.bpp) (s.lineBlocks r px cs))

/-- The bin in progress closes: its binned line is judged, and stands in the buffer (R380, R440). -/
def State.binClose (s : State) : State :=
  match s.swp.bin with
  | some (_, o :: l) =>
    let s : State := { s with swp.bin := none }
    let ls := o :: l
    let r := o.recd
    let px := overFrames r.format r.out.ped (ls.reverse.map (·.px))
    let cs := o.counts.map fun c => sumCounts c.tile (ls.flatMap (·.counts))
    let flags := r.flags ||| unionFlags (ls.map fun x => x.recd.flags) ||| (if ls.length < imgBy s.image then 1 else 0)
    let a := s.takeIn r.no 2 (regionBytes (bppOf r.format) ((s.asOut r.out).regionsAt (bppOf r.format)))
    if a.2.1 then
      a.1.lineFill { r with prevGap := a.2.2 } 2 (tierByte r.tier r.predicted false) flags (o.last / 16) px cs
    else a.1
  | _ => { s with swp.bin := none }

/-- A scan ends (R293): the bin in progress closes with it. -/
def State.scanOver (s : State) (code : Nat) : State := s.binClose.scanFinish code

/-- The end of a run (R30, R31, R171, R196, R209, R293, R443): frames in flight complete. -/
def State.runOver (s : State) : State :=
  let s := if s.scanning then s.scanOver 3 else s
  let s := ((s.cycleStop.captureRunEnd.swapAbandon).dropWindows).vTarget (s.get GOV_VLIMIT.VSTART)
  let m := s.sys.next.getD s.sys.mode
  let s : State := { s with sys.run := false, sys.changing := false, sys.runAt := none, sys.stopAt := none, sys.next := none,
                            pwr.runEnd := some s.now, gov.tierNext := none, gov.lockDue := false,
                            gov.predDue := false, fil.fsync := none }
  let s := ((s.set GOV_STATE.PREDICTING 0).toutTake).refRunEnd.stepOut
  (if s.reading then s else s.idleStart).setMode m

/-- A run accepted whose first boundary has not come is given up. -/
def State.runCancel (s : State) : State :=
  let s : State := { s with sys.changing := false, sys.runAt := none, sys.next := none, fil.fsync := none }
  (s.set GOV_STATE.PREDICTING 0).vTarget (s.get GOV_VLIMIT.VSTART)

/-- A change to a mode that ends RUN at the next boundary first (R30); at once where no run is on. -/
def State.modeAfterRun (s : State) (m : Mode) : State :=
  if s.sys.run then
    { s with sys.changing := true, sys.stopAt := some (s.sys.stopAt.getD s.now), sys.next := some m }
  else (if s.sys.runAt.isSome then s.runCancel else s).setMode m

/-- RUN ends at the next boundary, the mode as it is (R31). -/
def State.askRunEnd (s : State) : State :=
  if s.sys.run then { s with sys.changing := true, sys.stopAt := some (s.sys.stopAt.getD s.now) }
  else if s.sys.runAt.isSome then s.runCancel else s

/-- A change of mode at once, in RUN or not: its video stops at the next boundary (R30, R528). -/
def State.modeAtOnce (s : State) (m : Mode) : State := s.askRunEnd.setMode m

def modeRun (s : State) : State := State.hostWrite 0x00014 (modeCmdWrite 1) s
def modeStop (s : State) : State := State.hostWrite 0x00014 (modeCmdWrite 2) s

def execModeRun (t : Nat) (s : State) : Host.Outcome State Fault Refusal := .next (modeRun (s.at t))
def execModeStop (t : Nat) (s : State) : Host.Outcome State Fault Refusal := .next (modeStop (s.at t))

end Sys2Proof.Machine
end

