-- ==== Sys2Proof/Machine/Build.lean ====
section
/-!
DEFINITION. Check 11 of R83: the content of the sections (R76 to R80, R186, R214, R215, R295, R302, R361, R376, R417,
R435), and the registers as a commit leaves them (R79, R103, R178).
-/
namespace Sys2Proof.Machine

/-! ### FABRIC_STAGES (R76, R77) -/

/-- Station and tile type (0 both, 2 line only) of a stage kind (R77). -/
def kindRow : Nat → Option (Nat × Nat)
  | 0x01 => some (4, 0) | 0x02 => some (4, 0)
  | 0x10 => some (5, 0) | 0x11 => some (5, 0) | 0x12 => some (5, 0) | 0x13 => some (5, 0) | 0x14 => some (5, 0)
  | 0x20 => some (6, 0) | 0x21 => some (6, 0) | 0x22 => some (6, 0)
  | 0x23 => some (6, 2) | 0x24 => some (6, 2) | 0x25 => some (6, 2)
  | 0x30 => some (7, 0)
  | _ => none

/-- The stages of a station in the order of their ORDER fields. -/
def stationStages (l : List Stage) (st : Nat) : List Stage :=
  (List.range 32).flatMap fun o => l.filter fun g => g.station == st && g.order == o

/-- The kinds of a station in order. -/
def stationKinds (l : List Stage) (st : Nat) : List Nat := (stationStages l st).map (·.kind)

/-- The ORDER fields of a station run from 0 without gaps. -/
def orderOk (l : List Stage) (st : Nat) : Bool :=
  let k := (l.filter (·.station == st)).length
  (List.range k).all fun o => (l.filter fun g => g.station == st && g.order == o).length == 1

/-- Kind `a`, where both stand in the list, stands before kind `b`. -/
def before (ks : List Nat) (a b : Nat) : Bool :=
  match ks.findIdx? (· == a), ks.findIdx? (· == b) with
  | some i, some j => decide (i < j)
  | _, _ => true

/-- FORMAT of CONVERT (R215): 0 CORR16, 1 TEMP16, 2 RAD32. -/
def formatOf (f : Mem) : Nat := stageParam f 0x14 0 1

/-- The parameter block of a stage (R186, R214, R215, R295, R302, R376): its bytes, and whether they are allowed. -/
def paramOk (f : Mem) (line : Bool) (g : Stage) : Bool :=
  let p := (List.range 8).map fun i => secLe f 1 0 (g.off + i) 1
  let b := nth 0 p 0
  let zeros := fun (n : Nat) => (p.drop n).all (· == 0)
  match g.kind with
  | 0x12 => g.len == 8 && (b == 1 || b == 2) && zeros 1
  | 0x14 => g.len == 8 && decide (b ≤ 2) && zeros 1
  | 0x20 => g.len == 8 && decide (1 ≤ b) && decide (b ≤ 64) && zeros 1
  | 0x21 =>
    let y := nth 0 p 1
    g.len == 8 && zeros 2 &&
      (if line then b == 1 && [1, 2, 4, 8].contains y else [1, 2, 4].contains b && [1, 2, 4].contains y)
  | 0x22 => if line then g.len == 8 && decide (b ≤ 1) && zeros 1 else g.len == 0
  | 0x23 => g.len == 8 && [1, 2, 4].contains b && zeros 1
  | 0x24 => g.len == 8 && decide (1024 ≤ leVal (p.take 2)) && decide (leVal (p.take 2) ≤ 57343) && zeros 2
  | _ => g.len == 0

/-- The widths of a stage (R77, R186, R214, R295, R302, R376) after a stage of OUT_WIDTH `w`. -/
def widthOk (f : Mem) (w : Nat) (g : Stage) : Bool :=
  g.inW == w && (if g.kind = 0x14 then g.outW == (if formatOf f = 2 then 32 else 16) else g.outW == g.inW)

/-- The widths along all stages. -/
def widthsOk (f : Mem) : (w : Nat) → List Stage → Bool
  | _, [] => true
  | w, g :: l => widthOk f w g && widthsOk f g.outW l

/-- The rules of one descriptor (R76, R77). -/
def stageOk (f : Mem) (line : Bool) (i : Nat) : Bool :=
  let g := stageAt f i
  let d := 16 + 32 * i
  let room := 16 + 32 * secLe f 1 0 0 2
  (match kindRow g.kind with
    | some r => r.1 == g.station && (r.2 == 0 || line)
    | none => false) &&
  g.mask &&& hdrTileMask f == g.mask && secLe f 1 0 (d + 7) 1 == 0 && allZero (secBytes f 1 0 (d + 16) 16) &&
  g.off % 8 == 0 && (g.len == 0 || (room ≤ g.off && g.off + g.len ≤ secLen f 1 0)) && paramOk f line g

/-- The order rules of the stations (R77, R186, R302, R376). -/
def stageOrderOk (f : Mem) (line : Bool) : Bool :=
  let l := stages f
  let k4 := stationKinds l 4
  let k5 := stationKinds l 5
  let k6 := stationKinds l 6
  let has := fun (k : Nat) => k6.contains k
  k4 == [1, 2] && k5.getLast? == some 0x14 && before k5 0x10 0x11 &&
  (!k5.contains 0x12 || (k5.contains 0x10 && k5.contains 0x11)) &&
  (if line then
    k6.head? == some 0x23 && (!has 0x25 || has 0x22) && (!has 0x24 || formatOf f == 0) &&
      k6 == [0x23, 0x24, 0x22, 0x25, 0x20, 0x21].filter has
   else k6 == [0x20, 0x21, 0x22].filter has)

/-- FABRIC_STAGES holds R76 and R77. -/
def stagesOk (f : Mem) : Bool :=
  let n := secLe f 1 0 0 2
  let l := stages f
  let line := hdrTileType f == 2
  1 ≤ n && n ≤ 32 && 16 + 32 * n ≤ secLen f 1 0 && allZero (secBytes f 1 0 2 14) &&
  (List.range n).all (stageOk f line) && (List.range 4).all (fun k => orderOk l (4 + k)) &&
  (l.map fun g => (g.station, g.kind)).eraseDups.length == n && stageOrderOk f line &&
  widthsOk f 16 ((List.range 4).flatMap fun k => stationStages l (4 + k))

/-! ### ROUTING (R78) -/

/-- ROUTING holds R78. -/
def routingOk (f : Mem) : Bool :=
  let b := secBytes f 2 0 0 32
  let used := b.filter (· ≠ 0xFF)
  secLen f 2 0 == 32 && used.all (fun v => v < 32 && bit (hdrTileMask f) (v / 4) == 1) && used.eraseDups.length == used.length

/-! ### MON_SEQ (R417) -/

/-- The sequence of the MON_SEQ section. -/
def monSection (f : Mem) : MonSeq :=
  let ent := fun (o : Nat) => (secLe f 4 0 o 4, secLe f 4 0 (o + 4) 4)
  { reg := (List.range (secLe f 4 0 6 1)).map fun i => ent (0x10 + 8 * i),
    inj := (List.range (secLe f 4 0 7 1)).map fun j => ent (0x90 + 8 * j),
    trig := secLe f 4 0 12 1, period := secLe f 4 0 8 4 }

/-- MON_SEQ has the layout of R417; the values fit the shadow registers, which the check of R418 is made on. -/
def monLayoutOk (f : Mem) : Bool :=
  let q := monSection f
  secLen f 4 0 == 256 && secLe f 4 0 0 4 == 0x51534D54 && secLe f 4 0 4 2 == 1 && 1 ≤ q.reg.length && q.reg.length ≤ 16 &&
  q.inj.length ≤ 4 && q.trig < 16 && q.period < 2 ^ 20 && allZero (secBytes f 4 0 13 3) &&
  allZero (secBytes f 4 0 (0x10 + 8 * q.reg.length) (8 * (16 - q.reg.length))) &&
  allZero (secBytes f 4 0 (0x90 + 8 * q.inj.length) (8 * (4 - q.inj.length))) && allZero (secBytes f 4 0 0xB0 80) &&
  (q.reg ++ q.inj).all fun e => e.1 < 2 ^ 24 && e.2 < 2 ^ 13

/-! ### SOLVER_SCHED (R359 to R361) -/

/-- A step of a schedule (R360). -/
structure SStep where
  op : Nat
  cell : Nat
  k : Nat
  j : Nat
  deriving DecidableEq, Repr

/-- The steps of a schedule instance. -/
def schedSteps (f : Mem) (i : Nat) : List SStep :=
  let h := schedShape f i
  (List.range (secLe f 5 i 16 4)).map fun n =>
    let w := secLe f 5 i (64 + 4 * h.2.1 + 4 * h.2.2 + 8 * n) 8
    ⟨bits w 0 4, bits w 4 6, bits w 10 12, bits w 22 12⟩

/-- Bits [63:34] of every step are 0, and OP is one of the table's. -/
def stepBitsOk (f : Mem) (i : Nat) : Bool :=
  let h := schedShape f i
  (List.range (secLe f 5 i 16 4)).all fun n =>
    let w := secLe f 5 i (64 + 4 * h.2.1 + 4 * h.2.2 + 8 * n) 8
    w < 2 ^ 34 && bits w 0 4 ≤ 3

/-- A map in ascending column, then ascending row, of a lower triangle of order `n`. -/
def mapOk (n : Nat) : List (Nat × Nat) → Bool
  | [] => true
  | [e] => e.2 ≤ e.1 && decide (e.1 < n)
  | e :: e2 :: l => e.2 ≤ e.1 && decide (e.1 < n) && (decide (e.2 < e2.2) || (e.2 == e2.2 && decide (e.1 < e2.1))) && mapOk n (e2 :: l)

/-- Column `k` of the fill: the rows of A, and those that an earlier column with row `k` brings. -/
def fillCol (n : Nat) (a : List (Nat × Nat)) (done : List (List Nat)) (k : Nat) : List Nat :=
  (List.range n).filter fun i => k ≤ i && (a.contains (i, k) || done.any fun c => c.contains k && c.contains i)

/-- The symbolic Cholesky fill of a map (R361), by columns. -/
def fillCols (n : Nat) (a : List (Nat × Nat)) : List (List Nat) :=
  (List.range n).foldl (fun done k => done ++ [fillCol n a done k]) []

/-- FMAs of a step UPD(K, J) over columns of L: the rows i ≥ K of column J. -/
def updOps (cols : List (List Nat)) (k j : Nat) : Nat := ((nth [] cols j).filter (k ≤ ·)).length

/-- A cell's steps that run until one waits, from its time: the steps left, its time, the columns it completes with
their times. `fin` lists complete columns with their times; UPD takes its FMAs, FIN 7 intervals to each result (R346). -/
def cellRun (cols : List (List Nat)) : List SStep → (time : Nat) → (fin : List (Nat × Nat)) → List SStep × Nat × List (Nat × Nat)
  | [], t, fin => ([], t, fin)
  | p :: l, t, fin =>
    match p.op with
    | 0 => cellRun cols l (t + updOps cols p.k p.j) fin
    | 1 => let t := t + 7 * (nth [] cols p.k).length; cellRun cols l t ((p.k, t) :: fin)
    | 2 => match fin.find? (·.1 == p.k) with
      | some e => cellRun cols l (max t e.2) fin
      | none => (p :: l, t, fin)
    | _ => cellRun cols l t fin

/-- One round over the cells. -/
def roundRun (cols : List (List Nat)) (cells : List (List SStep × Nat)) (fin : List (Nat × Nat)) :
    List (List SStep × Nat) × List (Nat × Nat) :=
  cells.foldl (fun p c => let r := cellRun cols c.1 c.2 p.2; (p.1 ++ [(r.1, r.2.1)], r.2.2)) ([], fin)

/-- Rounds until nothing is left; the time of the last cell, or none where the schedule does not complete. -/
def schedRun (cols : List (List Nat)) : (fuel : Nat) → List (List SStep × Nat) → List (Nat × Nat) → Option Nat
  | 0, cells, _ => if cells.all (·.1.isEmpty) then some ((cells.map (·.2)).foldl max 0) else none
  | n + 1, cells, fin => let r := roundRun cols cells fin; schedRun cols n r.1 r.2

/-- The critical path of a schedule in issue intervals; none where it does not complete (R361). -/
def schedSpan (f : Mem) (i : Nat) : Option Nat :=
  let h := schedShape f i
  let cols := fillCols h.1 (schedMap f i 64 h.2.1)
  let st := schedSteps f i
  schedRun cols (h.1 + 1) ((List.range 64).map fun c => (st.filter (·.cell == c), 0)) []

/-- FMA issues per system: the factor's, and two substitutions over the off-diagonal entries (R361). -/
def schedOps (f : Mem) (i : Nat) : Nat :=
  let h := schedShape f i
  let cols := fillCols h.1 (schedMap f i 64 h.2.1)
  (((schedSteps f i).filter (·.op == 0)).map fun p => updOps cols p.k p.j).sum + 2 * (h.2.2 - h.1)

/-- The step lists of the cells hold the rules of R361 but that of completion: `st` are the steps, `cols` the columns of
L. -/
def cellsOk (n : Nat) (cols : List (List Nat)) (st : List SStep) : Bool :=
  let upds := st.filter (·.op == 0)
  let fins := st.filter (·.op == 1)
  -- one UPD for each pair of the pattern, one FIN for each column
  (st.all fun p => p.k < n && p.j < n) && (upds.all fun p => p.j < p.k && (nth [] cols p.j).contains p.k) &&
  (upds.map fun p => (p.k, p.j)).eraseDups.length == upds.length &&
  upds.length == (cols.map fun c => c.length - 1).sum &&
  fins.length == n && (fins.map (·.k)).eraseDups.length == n &&
  -- a column's UPDs on one cell in ascending J, its FIN after them
  (List.range n).all (fun k =>
    let own := st.filter fun p => p.op ≤ 1 && p.k == k
    (own.map (·.cell)).eraseDups.length == 1 && own.getLast?.any (·.op == 1) &&
      ((own.dropLast.map (·.j)).zip (own.tail.dropLast.map (·.j))).all fun q => decide (q.1 < q.2)) &&
  (List.range 64).all (fun c =>
    let mine := st.filter (·.cell == c)
    -- one END, the last step
    mine.getLast?.any (·.op == 3) && (mine.filter (·.op == 3)).length == 1 &&
    -- each UPD after the FIN of J or a WAIT for J
    (List.range mine.length).all fun i =>
      match mine[i]? with
      | some p => p.op ≠ 0 || (mine.take i).any fun q => (q.op == 1 || q.op == 2) && q.k == p.j
      | none => true)

/-- A SOLVER_SCHED section holds R359 to R361. -/
def schedOk (f : Mem) (i : Nat) : Bool :=
  let h := schedShape f i
  let n := h.1
  let a := schedMap f i 64 h.2.1
  let l := schedMap f i (64 + 4 * h.2.1) h.2.2
  secLen f 5 i == 64 + 4 * h.2.1 + 4 * h.2.2 + 8 * secLe f 5 i 16 4 &&
  secLe f 5 i 0 4 == 0x43535354 && secLe f 5 i 4 2 == 1 && 1 ≤ n && n ≤ 4096 && allZero (secBytes f 5 i 0x14 44) &&
  stepBitsOk f i && mapOk n a && (List.range n).all (fun k => a.contains (k, k)) &&
  (let cols := fillCols n a
   l == (List.range n).flatMap (fun k => (nth [] cols k).map fun r => (r, k)) && cellsOk n cols (schedSteps f i)) &&
  (schedSpan f i).isSome

/-- The schedule instances of an image. -/
def schedsOf (f : Mem) : List Nat := (List.range 32).filter fun n => hasSection f 5 n

/-! ### GOV_LADDER (R79) -/

/-- GOV_LADDER holds R79. -/
def ladderOk (f : Mem) : Bool :=
  let g := secLe f 6 0
  let low := g 0x18 4
  let high := g 0x1C 4
  let dl := g 0x20 4
  secLen f 6 0 == 64 && [1, 3, 7, 15].contains (g 0 1) && g 1 1 ≤ g 2 1 && g 1 1 < 4 && g 2 1 < 4 && tierExists f (g 1 1) &&
  tierExists f (g 2 1) && g 3 1 == 0 && g 6 2 == 0 &&
  ((List.range 4).all fun t => g (8 + 4 * t) 4 < 2 ^ 24 && (tierExists f t || g (8 + 4 * t) 4 == 0)) &&
  0 < low && low < high && high < 2 ^ 24 && dl < 2 ^ 24 && (dl == 0 || (500 ≤ dl && high ≤ dl)) && allZero (secBytes f 6 0 0x24 28)

/-! ### DEFAULTS (R80) -/

/-- The entries of DEFAULTS. -/
def defaultsOf (f : Mem) : List (Nat × Nat) :=
  (List.range (secLen f 8 0 / 8)).map fun i => (secLe f 8 0 (8 * i) 4, secLe f 8 0 (8 * i + 4) 4)

/-- An address in the ranges that a commit resets (R80, R103): FPL to SWP, FIL to PRT, and GOV below 0x0100. -/
def resetRange (addr : Nat) : Bool :=
  (0x10000 ≤ addr && addr < 0x10100) || (0x40000 ≤ addr && addr < 0x90000) || (0xA0000 ≤ addr && addr < 0xD0000)

/-- The named fields of a word leave no reserved bit set. -/
def noReserved (fs : List Fld) (v : Nat) : Bool :=
  (List.range 32).all fun b => bit v b == 0 || fs.any fun f => f.lsb ≤ b && b < f.lsb + f.width

/-- Every field of a word lies in its range (R14). -/
def inRanges (fs : List Fld) (v : Nat) : Bool := fs.all fun f => f.lo ≤ f.ofWord v && f.ofWord v ≤ f.hi

/-- An entry of DEFAULTS is allowed (R80). -/
def defaultOk (e : Nat × Nat) : Bool :=
  resetRange e.1 &&
  match fieldsAt e.1 with
  | some fs => fs.all (·.acc == .rw) && noReserved fs e.2 && inRanges fs e.2
  | none => false

/-! ### The registers that a commit leaves (R79, R103) -/

/-- The fields of a word written. -/
def State.writeFields (s : State) (fs : List Fld) (v : Nat) : State := fs.foldl (fun s f => s.set f (f.ofWord v)) s

/-- A register field listed under a key is read and written: it goes back at a commit. -/
def rwKey (k : Nat) : Bool :=
  resetRange (k / 32) &&
    match fieldsAt (k / 32) with
    | some fs => fs.any fun f => f.lsb == k % 32 && f.acc == .rw
    | none => false

/-- Every RW register of the ranges of R103 at its reset value. -/
def State.resetRw (s : State) : State := { s with regs := s.regs.filter fun e => !rwKey e.1 }

/-- The GOV registers take the values of GOV_LADDER (R79). -/
def State.ladderLoad (s : State) (f : Mem) : State :=
  let g := secLe f 6 0
  let s := ((s.set GOV_CTRL.TIER_MIN (g 1 1)).set GOV_CTRL.TIER_MAX (g 2 1)).set GOV_FIXED.F (g 4 2)
  let s := ((s.set GOV_WORK_0.W (g 8 4)).set GOV_WORK_1.W (g 12 4)).set GOV_WORK_2.W (g 16 4) |>.set GOV_WORK_3.W (g 20 4)
  (s.set GOV_SLACK_LOW.LOW (g 0x18 4)).set GOV_SLACK_HIGH.HIGH (g 0x1C 4)

/-- The shadow registers of the monitor sequence take the values of MON_SEQ (R419). -/
def State.monLoad (s : State) (q : MonSeq) : State :=
  let s := ((s.set MON_SEQ_CTRL.REG_LEN q.reg.length).set MON_SEQ_CTRL.INJ_LEN q.inj.length).set MON_SEQ_CTRL.INJ_TRIG q.trig
  let s := s.set MON_SEQ_PERIOD.PERIOD q.period
  let s := (List.range 16).foldl (fun s i =>
    (s.set (MON_SEQi_W0.W0 i) (nth (0, 0) q.reg i).1).set (MON_SEQi_W1.SAMPT i) (nth (0, 0) q.reg i).2) s
  (List.range 4).foldl (fun s j =>
    (s.set (MON_ISEQj_W0.W0 j) (nth (0, 0) q.inj j).1).set (MON_ISEQj_W1.SAMPT j) (nth (0, 0) q.inj j).2) s

/-- DEFAULTS applied in order (R80). -/
def State.defaultsLoad (s : State) (f : Mem) : State :=
  (defaultsOf f).foldl (fun s e => match fieldsAt e.1 with
    | some fs => s.writeFields fs e.2
    | none => s) s

/-- The registers as the commit of an image leaves them: reset, GOV_LADDER, MON_SEQ, DEFAULTS (R103, R419). -/
def State.buildRegs (s : State) (im : ImgFile) : State :=
  (({ s with img.active := some im }.resetRw.ladderLoad im.file).monLoad (monSection im.file)).defaultsLoad im.file

/-- A channel's registers are what writes could leave (R436, R455). -/
def State.channelOk (s : State) (c : Nat) : Bool :=
  let tr := s.get (PRT_CHn_CTRL.TRANSPORT c)
  tr ≠ 3 && (!s.on (PRT_CHn_CTRL.EN c) || (tr ≠ 0 && (tr ≠ 2 || s.rdmaRefuse c == 0)))

/-- What DEFAULTS leave holds: the tiers and thresholds of R56, the voltage limits of R37, the channels, the geometry (R160), the
set (R178), the sequence. -/
def State.builtOk (s : State) (im : ImgFile) : Bool :=
  let b := s.buildRegs im
  let lo := b.get GOV_CTRL.TIER_MIN
  let hi := b.get GOV_CTRL.TIER_MAX
  lo ≤ hi && tierExists im.file hi && 0 < b.get GOV_SLACK_LOW.LOW && b.get GOV_SLACK_LOW.LOW < b.get GOV_SLACK_HIGH.HIGH &&
  b.get GOV_VLIMIT.VFLOOR ≤ b.get GOV_VLIMIT.VSTART && (List.range 16).all b.channelOk &&
  !b.geometryBad && b.setRefuse b.shadowSet (b.get GOV_SLACK_HIGH.HIGH) false == 0 &&
  b.shadowLens && b.shadowSeq.check (hdrTileMask im.file) (hdrTileType im.file == 2) == 0

/-! ### Check 11 (R83) -/

/-- The first section, in manifest order, whose content fails; `len` where only the whole fails. -/
def sectionBad (f : Mem) : Option Nat :=
  (List.range (hdrSections f)).find? fun k =>
    let e := manifestEntry f k
    !(match e.type with
      | 1 => stagesOk f
      | 2 => routingOk f
      | 3 => patgenOk f e.inst
      | 4 => monLayoutOk f
      | 5 => schedOk f e.inst
      | 6 => ladderOk f
      | 7 => portMapOk f
      | 8 => e.len % 8 == 0 && (defaultsOf f).all defaultOk
      | _ => true)

/-- Check 11: 0, or reason 7 with the manifest entry, 0x3F where the sections fail only together. -/
def State.buildCheck (s : State) (im : ImgFile) : Nat × Nat :=
  match sectionBad im.file with
  | some k => (7, k)
  | none => if s.builtOk im then (0, 0x3F) else (7, 0x3F)

end Sys2Proof.Machine
end

