-- ==== Sys2Proof/Machine/Compat.lean ====
section
/-!
DEFINITION. Compatibility of the four artefacts (R119 to R124), and what the commit of an image does (R102 to R104, R178, R529).
-/
namespace Sys2Proof.Machine

/-! ### Identities and declarations (R119) -/

/-- The stepping's code, and its declaration for an interface. -/
def stepping : Nat := Config.stepping % 2 ^ 16
def stepDecl (i : Nat) : Nat × Nat := ((Config.stepIface i).1 % 2 ^ 16, (Config.stepIface i).2 % 2 ^ 16)

/-- What an artefact (0 stepping, 1 firmware, 2 image, 3 carrier) declares for an interface (0 REG, 1 REC, 2 SCHED, 3 CAR):
EPOCH and OLDEST, if it takes part in it. `f` is the image. -/
def State.declares (s : State) (f : Mem) (kind i : Nat) : Option (Nat × Nat) :=
  match kind with
  | 0 => some (stepDecl i)
  | 1 => if i < 3 then some (nth (0, 0) s.bring.fw.iface i) else none
  | 2 => some (declOf f i)
  | _ => if i = 3 then some (s.bring.carrier.epoch, s.bring.carrier.oldest) else none

/-- An artefact's identity. -/
def State.artefact (s : State) (f : Mem) : Nat → ArtId
  | 0 => ⟨0, stepping, 0⟩
  | 1 => ⟨1, s.bring.fw.version, 0⟩
  | 2 => ⟨2, hdrImageId f, hdrImageVer f⟩
  | _ => ⟨3, s.bring.carrier.rev, 0⟩

/-- The pairs of R121, by bit number. -/
def artPairs : List (Nat × Nat) := [(0, 1), (0, 2), (0, 3), (1, 2), (1, 3), (2, 3)]

/-- Two declarations are compatible (R120). -/
def declsMeet (p q : Nat × Nat) : Bool := q.2 ≤ p.1 && p.2 ≤ q.1

/-- Some pair fails on an interface (R120). -/
def State.ifaceFails (s : State) (f : Mem) (i : Nat) : Bool :=
  artPairs.any fun p =>
    match s.declares f p.1 i, s.declares f p.2 i with
    | some a, some b => !declsMeet a b
    | _, _ => false

/-- ENG_COMPAT.IFACE_FAIL. -/
def State.ifaceFail (s : State) (f : Mem) : Nat := maskOf ((List.range 4).filter (s.ifaceFails f))

/-- A name in the compatibility table matches an artefact: PATCH 0xFFFF of an image stands for every PATCH (R121). -/
def artMatch (e a : ArtId) : Bool :=
  e.kind == a.kind && e.id == a.id &&
    (a.kind ≠ 2 || e.ver == a.ver || (e.ver % 2 ^ 16 == 0xFFFF && e.ver / 2 ^ 16 == a.ver / 2 ^ 16))

/-- A pair is tested: an entry names both, in either order (R121). -/
def State.tested (s : State) (f : Mem) (p : Nat × Nat) : Bool :=
  let a := s.artefact f p.1
  let b := s.artefact f p.2
  s.bring.fw.compat.any fun e => (artMatch e.1 a && artMatch e.2 b) || (artMatch e.2 a && artMatch e.1 b)

/-- ENG_COMPAT.PAIR_TESTED (R121). -/
def State.pairTested (s : State) (f : Mem) : Nat :=
  maskOf ((List.range 6).filter fun i => s.tested f (nth (0, 0) artPairs i))

/-- The outcome of R122: 0 tested, 1 untested, 2 incompatible. -/
def State.compatOf (s : State) (f : Mem) : Nat := if s.ifaceFail f ≠ 0 then 2 else if s.pairTested f = 63 then 0 else 1

/-- The request that names the four identities of the combination (R477, R123). -/
def State.comboRequest (s : State) (f : Mem) : List Nat :=
  leBytes 2 stepping ++ leBytes 4 s.bring.fw.version ++ leBytes 8 (hdrImageId f) ++ leBytes 4 (hdrImageVer f) ++
    [s.bring.carrier.rev % 256]

/-- A spent override names the combination (R124). -/
def State.overridden (s : State) (f : Mem) : Bool := (s.doneRecs 2).any (·.request == s.comboRequest f)

/-- The compatibility of the active image decided and shown (R122); with no active image none is decided. -/
def State.decideCompat (s : State) : State :=
  let s := s.set ENG_COMPAT_TABLE.ENTRIES s.bring.fw.compat.length
  match s.img.active with
  | none =>
    let s := ((s.set ENG_COMPAT.PAIR_TESTED 0).set ENG_COMPAT.IFACE_FAIL 0).set ENG_COMPAT.OUTCOME 0
    ((s.set IMG_STATUS.COMPAT 0).set IMG_STATUS.OVERRIDE 0 |>.unfault 0x0011).unfault 0x0012
  | some im =>
    let f := im.file
    let c := s.compatOf f
    let o := c == 1 && s.overridden f
    let s := ((s.set ENG_COMPAT.PAIR_TESTED (s.pairTested f)).set ENG_COMPAT.IFACE_FAIL (s.ifaceFail f)).set ENG_COMPAT.OUTCOME c
    let s := (s.set IMG_STATUS.COMPAT c).setb IMG_STATUS.OVERRIDE o
    (s.level (c == 1 && !o) 0x0011).level (c == 2) 0x0012

/-- An escalating condition of R527 holds: that of 0x0101 until DLL_LOCK has held for 60 s, the others until their fault
clears. -/
def State.escHolds (s : State) : Bool :=
  (s.alm.escDll && !(s.on GOV_REF_STATUS.DLL_LOCK && decide (s.alm.dllSince + 60 * sec ≤ s.now))) ||
    s.alm.escHeat || s.alm.escCore

/-- The mode that the carrier gives (R29). -/
def State.imageMode (s : State) : Mode := if s.lineImage then .sweep else .stare

/-- The mode that the outcome of compatibility leaves (R30, R67, R122). -/
def State.outcomeMode (s : State) : Mode :=
  if s.img.active.isNone then .quarantine
  else if s.get ENG_COMPAT.OUTCOME = 0 ∨ s.on IMG_STATUS.OVERRIDE then s.imageMode else .quarantine

/-- The mode at the end of an activation or of start-up (R30, R529). -/
def State.modeAnew (s : State) : State :=
  if s.escHolds then { s with sys.escalated := true }.setMode .quarantine
  else ({ s with sys.escalated := false }.unfault 0x0F01).setMode s.outcomeMode

/-! ### What shows the active image -/

/-- IMG_ACTIVE and the declarations of the active image; SRC 7 and zeros where there is none. -/
def State.showImage (s : State) (src : Nat) : State :=
  let im := s.img.active
  let f := s.image
  let v := fun (x : Nat) => if im.isSome then x else 0
  let s := s.set IMG_STATUS.SRC (if im.isSome then src else 7)
  let s := (s.set64 IMG_ACTIVE_ID_LO.ID IMG_ACTIVE_ID_HI.ID (v (hdrImageId f))).set IMG_ACTIVE_VER.VER (v (hdrImageVer f))
  let s := ((s.set IMG_ACTIVE_INFO.ARB_EPOCH (v (hdrArb f))).set IMG_ACTIVE_INFO.TILE_TYPE (v (hdrTileType f))).set
    IMG_ACTIVE_INFO.TILE_MASK (v (hdrTileMask f))
  let d := fun (i : Nat) => v (declOf f i).1
  let o := fun (i : Nat) => v (declOf f i).2
  let s := ((s.set IMG_ACTIVE_IFACE0.REG (d 0)).set IMG_ACTIVE_IFACE0.REC (d 1)).set IMG_ACTIVE_IFACE1.SCHED (d 2) |>.set
    IMG_ACTIVE_IFACE1.CAR (d 3)
  ((s.set ENG_IMG_OLDEST0.REG (o 0)).set ENG_IMG_OLDEST0.REC (o 1)).set ENG_IMG_OLDEST1.SCHED (o 2) |>.set ENG_IMG_OLDEST1.CAR (o 3)

/-- FPL_PG and FPL_PGn of the active image (R161 to R166). -/
def State.showProgs (s : State) : State :=
  let f := s.image
  let s := (s.set FPL_PG_STATUS.IDLE_PROG ((idleProg f).getD 15)).set FPL_PG_STEPS_USED.STEPS (stepsUsed f)
  (List.range 16).foldl (fun (s : State) n =>
    let has := hasSection f 3 n
    let p := progOf f n
    let v := fun (x : Nat) => if has then x else 0
    let s := ((s.setb (FPL_PGn_INFO.PRESENT n) has).set (FPL_PGn_INFO.ROLE n) (v p.role)).set (FPL_PGn_INFO.STEPS n) (v p.steps)
    ((s.set (FPL_PGn_ELEN.E n) (v (eLen f n))).set (FPL_PGn_RLEN.L n) (v (rLen f n))).set (FPL_PGn_GUARD.GUARD n) (v p.guard)) s

/-- SOL_SCHED of the active image (R361). -/
def State.showScheds (s : State) : State :=
  let f := s.image
  (List.range 32).foldl (fun (s : State) n =>
    let has := hasSection f 5 n
    let h := schedShape f n
    let s := (s.set (SOL_SCHEDn_INFO.ORDER n) (if has then h.1 else 0)).set (SOL_SCHEDn_NNZ.NNZ_L n) (if has then h.2.2 else 0)
    (s.set (SOL_SCHEDn_OPS.F n) (if has then schedOps f n else 0)).set (SOL_SCHEDn_SPAN.SPAN n)
      (if has then (schedSpan f n).getD 0 else 0))
    (s.set SOL_SCHED_PRESENT.MASK (maskOf (schedsOf f)))

/-! ### The commit of an image (R103, R104, R178) -/

/-- Channels that are enabled, disabled as a host would. -/
def State.channelsOff (s : State) : State :=
  (List.range 16).foldl (fun (s : State) c => if s.on (PRT_CHn_CTRL.EN c) then (channelCtrlWrite c 0 s).1 else s) s

/-- Channels that DEFAULTS enable start; one that a host could not enable stays off (R436). -/
def State.channelsOn (s : State) : State :=
  (List.range 16).foldl (fun (s : State) c =>
    if s.on (PRT_CHn_CTRL.EN c) then
      let v := 1 + 2 ^ (PRT_CHn_CTRL.TRANSPORT c).lsb * s.get (PRT_CHn_CTRL.TRANSPORT c) + 2 ^ (PRT_CHn_CTRL.DSCP c).lsb * s.get (PRT_CHn_CTRL.DSCP c)
      (channelCtrlWrite c v (s.set (PRT_CHn_CTRL.EN c) 0)).1
    else s) s

/-- The shadow set committed and in force under COMMITTED + 1 (R178). The bias of tiles that had it follows without settling
(R104); a tile biased for the first time settles (R128). -/
def State.commitShadow (s : State) : State :=
  let old := (s.get PWR_STATUS.SETTLING, s.bring)
  let s := ({ s with fpl.pending := none }.commitSet s.shadowSet).setApply
  let s := { s.set PWR_STATUS.SETTLING old.1 with bring := old.2 }
  if s.sys.up then s.settleStart (clearBits s.tileMask s.bring.biasMask) else s

/-- Positions that the image names and no generation holds yet, or holds from an older binding, enter one from their base
sets (R241, R243). -/
def State.genFill (s : State) : State :=
  let new := (tilesOf s.tileMask).filter fun n =>
    s.cal.base.any (·.1 == n) && (s.cal.fresh.contains n || !s.cal.newest.tiles.any (·.1 == n))
  if new = [] then s
  else
    let s := s.commitGen 0 (s.cal.base.filter fun e => new.contains e.1)
    let s := new.foldl (fun (s : State) n => s.driftBase n) s
    { s with cal.fresh := s.cal.fresh.filter fun n => !new.contains n }

/-- The commit of an image from a source (R102 stage 5, R103, R104): the planes swap, registers take reset, GOV_LADDER,
MON_SEQ and DEFAULTS, histories are discarded. The mode is not set here. -/
def State.commitImage (s : State) (im : ImgFile) (src : Nat) : State :=
  let tod := s.get FIL_TIME_CTRL.TOD_SRC
  let dom := s.get FIL_TIME_CTRL.DOMAIN
  let s := (s.channelsOff.idleCut).buildRegs im
  let s := ((s.showImage src).showProgs).showScheds
  let s := (s.set PRT_BB_STATE.CAP 0).channelsOn
  let s := s.alarmReset.seqCommit s.shadowSeq
  let s := (s.todChanged tod dom).toutTake
  let s := s.govClear
  let s := { s with fil.hist := [], fil.fsync := none, fil.resets := [], cor.live := none, swp.bin := none, prt.stopDue := false }
  let s := (s.commitShadow).genFill
  let s := { s with fpl.lastB := none, fpl.lastSet := none, vfe.rematch := s.sys.up && s.get VFE_SPARE_STATE.PHASE == 6 }
  ((s.uncalAll.driftShow.idleStart).heatUpdate.unfault 0x0202).decideCompat

end Sys2Proof.Machine
end

