-- ==== Sys2Proof/Machine/Ed25519.lean ====
section
/-!
DEFINITION. SHA-512 and the verification of Ed25519 signatures as RFC 8032 defines it, pure, without pre-hashing (R81,
R476, R503). spec/ names the RFC and does not restate it (log entry 60).
-/
namespace Sys2Proof.Machine

/-! ### SHA-512 -/

/-- The greatest `r` below `2 ^ n` with `f r ≤ v`, for a rising `f`. -/
def rootBits (f : Nat → Nat) (v : Nat) : (n acc : Nat) → Nat
  | 0, acc => acc
  | n + 1, acc => rootBits f v n (if f (acc + 2 ^ n) ≤ v then acc + 2 ^ n else acc)

/-- The first primes. -/
def primes (n : Nat) : List Nat :=
  ((List.range 410).filter fun p => 2 ≤ p && (List.range 21).all fun d => d < 2 || p ≤ d || p % d ≠ 0).take n

/-- The first 64 bits of the fractional parts of the cube roots of the first 80 primes. -/
def shaK : List Nat := (primes 80).map fun p => rootBits (fun r => r ^ 3) (p * 2 ^ 192) 68 0 % 2 ^ 64

/-- The first 64 bits of the fractional parts of the square roots of the first 8 primes. -/
def shaInit : List Nat := (primes 8).map fun p => rootBits (fun r => r ^ 2) (p * 2 ^ 128) 69 0 % 2 ^ 64

/-- A rotation to the right of a 64-bit word. -/
def ror (n x : Nat) : Nat := x / 2 ^ n + x % 2 ^ n * 2 ^ (64 - n)

/-- The message schedule extended by a word; newest first. -/
def shaExtend (w : List Nat) : List Nat :=
  let a := nth 0 w 1
  let b := nth 0 w 14
  (((ror 19 a ^^^ ror 61 a ^^^ (a / 2 ^ 6)) + nth 0 w 6 + (ror 1 b ^^^ ror 8 b ^^^ (b / 2 ^ 7)) + nth 0 w 15) % 2 ^ 64) :: w

/-- `shaExtend`, `n` times. -/
def shaSchedule : (n : Nat) → List Nat → List Nat
  | 0, w => w
  | n + 1, w => shaSchedule n (shaExtend w)

/-- One round on the working variables a to h, with K and W added. -/
def shaRound (v : List Nat) (kw : Nat × Nat) : List Nat :=
  match v with
  | [a, b, c, d, e, f, g, h] =>
    let t1 := h + (ror 14 e ^^^ ror 18 e ^^^ ror 41 e) + ((e &&& f) ^^^ ((2 ^ 64 - 1 - e) &&& g)) + kw.1 + kw.2
    let t2 := (ror 28 a ^^^ ror 34 a ^^^ ror 39 a) + ((a &&& b) ^^^ (a &&& c) ^^^ (b &&& c))
    [(t1 + t2) % 2 ^ 64, a, b, c, (d + t1) % 2 ^ 64, e, f, g]
  | _ => v

/-- One block of 128 bytes. -/
def shaBlock (h block : List Nat) : List Nat :=
  let w := (List.range 16).map fun i => leVal ((block.drop (8 * i)).take 8).reverse
  let ws := (shaSchedule 64 w.reverse).reverse
  List.zipWith (fun a b => (a + b) % 2 ^ 64) h ((shaK.zip ws).foldl shaRound h)

/-- The blocks of a padded message. -/
def shaBlocks : (n : Nat) → (h msg : List Nat) → List Nat
  | 0, h, _ => h
  | n + 1, h, msg => shaBlocks n (shaBlock h (msg.take 128)) (msg.drop 128)

/-- SHA-512 of bytes, as 64 bytes. -/
def sha512 (msg : List Nat) : List Nat :=
  let zeros := (128 - (msg.length + 17) % 128) % 128
  let m := msg ++ 0x80 :: List.replicate zeros 0 ++ beBytes 16 (8 * msg.length)
  (shaBlocks (m.length / 128) shaInit m).flatMap (beBytes 8)

/-! ### The curve -/

/-- The field prime, and the order of the base point. -/
def edP : Nat := 2 ^ 255 - 19
def edL : Nat := 2 ^ 252 + 27742317777372353535851937790883648493

/-- `b ^ e` modulo `m`, over the `n` low bits of `e`. -/
def powMod (m b e : Nat) : (n : Nat) → Nat
  | 0 => 1 % m
  | n + 1 =>
    let r := powMod m b (e / 2) n
    if e % 2 = 1 then r * r * b % m else r * r % m

/-- The inverse in the field. -/
def edInv (x : Nat) : Nat := powMod edP x (edP - 2) 255

/-- The curve constant d. -/
def edD : Nat := (edP - 121665) * edInv 121666 % edP

/-- The sum of two points (x, y). -/
def edAdd (a b : Nat × Nat) : Nat × Nat :=
  let k := edD * (a.1 * b.1 % edP) % edP * (a.2 * b.2 % edP) % edP
  ((a.1 * b.2 + b.1 * a.2) % edP * edInv (1 + k) % edP, (a.2 * b.2 + a.1 * b.1) % edP * edInv (edP + 1 - k) % edP)

/-- A multiple of a point, over the `n` low bits of the factor. -/
def edMul (p : Nat × Nat) (k : Nat) : (n : Nat) → Nat × Nat
  | 0 => (0, 1)
  | n + 1 =>
    let r := edMul p (k / 2) n
    let d := edAdd r r
    if k % 2 = 1 then edAdd d p else d

/-- A point decoded from 32 bytes; none where they decode to no point. -/
def edPoint (bs : List Nat) : Option (Nat × Nat) :=
  let v := leVal bs
  let y := v % 2 ^ 255
  let sign := v / 2 ^ 255
  if bs.length ≠ 32 ∨ edP ≤ y then none
  else
    let u := (y * y + edP - 1) % edP
    let w := (edD * (y * y % edP) + 1) % edP
    let x := u * (w ^ 3 % edP) % edP * powMod edP (u * (w ^ 7 % edP) % edP) ((edP - 5) / 8) 255 % edP
    let sq := w * (x * x % edP) % edP
    let root : Option Nat :=
      if sq = u then some x
      else if sq = (edP - u) % edP then some (x * powMod edP 2 ((edP - 1) / 4) 255 % edP) else none
    match root with
    | none => none
    | some x => if x = 0 ∧ sign = 1 then none else some (if x % 2 = sign then x else edP - x, y)

/-- The base point: y = 4/5, x even. -/
def edBase : Nat × Nat := (edPoint (leBytes 32 (4 * edInv 5 % edP))).getD (0, 1)

/-- Verification of a signature over a message with a public key. RFC 8032 lets a verifier check the group equation
with or without the cofactor 8; which of the two the module takes is open. -/
def edVerify (key sig msg : List Nat) : Bool :=
  let big := leVal (sig.drop 32)
  match edPoint key, edPoint (sig.take 32) with
  | some a, some r =>
    let k := leVal (sha512 (sig.take 32 ++ key ++ msg)) % edL
    let l := edMul edBase big 256
    let rhs := edAdd r (edMul a k 256)
    sig.length == 64 && decide (big < edL) &&
      (if Config.freeBool 3 0 then edMul l 8 4 == edMul rhs 8 4 else l == rhs)
  | _, _ => false

end Sys2Proof.Machine
end

