-- ==== Sys2Proof/Machine/Load.lean ====
section
/-!
DEFINITION. Loads: the sources of an image, intake and checks (R83, R93 to R101), the start-up order (R89 to R92), the
activation's stages (R102 to R105).
-/
namespace Sys2Proof.Machine

/-! ### Slots (R85 to R90) -/

/-- Slot `k` in NAND, and its committed copy; empty where there is none. -/
def State.slotNv (s : State) (k : Nat) : SlotS := nth {} s.nv.slots k
def SlotS.content (x : SlotS) : ImgFile :=
  match x.copy with
  | some 0 => x.a
  | some _ => x.b
  | none => {}

/-- IMG_SLOTn registers of a slot: its STATE, the reason of its last rejection, and what the directory holds of it. -/
def State.slotShow (s : State) (k st reason : Nat) : State :=
  let x := s.slotNv k
  let f := x.content.file
  let has := x.copy.isSome
  let v := fun (n : Nat) => if has then n else 0
  let s := ((s.set (IMG_SLOTn_STATUS.STATE k) (v st)).set (IMG_SLOTn_STATUS.COPY k) (x.copy.getD 0)).set (IMG_SLOTn_STATUS.REASON k) reason
  let s := (s.set (IMG_SLOTn_STATUS.ARB_EPOCH k) (v (hdrArb f))).set64 (IMG_SLOTn_ID_LO.ID k) (IMG_SLOTn_ID_HI.ID k) (v (hdrImageId f))
  let s := s.set (IMG_SLOTn_VER.VER k) (v (hdrImageVer f))
  if has && st == 1 then s.unfault 0x0201 k else s

/-! ### Checks 7 to 10 (R83) -/

/-- A signature by a key of a list: 0, or reason `unknown` for a key absent or revoked, `bad` for a signature that fails. -/
def keyCheck (keys : List KeyEnt) (id : Nat) (sig msg : List Nat) (unknown bad : Nat) : Nat :=
  match keys.find? (·.id == id) with
  | none => unknown
  | some k => if k.revoked then unknown else if edVerify k.key sig msg then 0 else bad

/-- Check 10: TILE_TYPE matches the bound tiles, and TILE_MASK names only bound positions (R110). -/
def State.tilesOk (s : State) (f : Mem) : Bool :=
  (List.range 8).all fun n =>
    let p := s.pos n
    if p.state = 1 then p.type == hdrTileType f else bit (hdrTileMask f) n == 0

/-- Checks 7 to 10 of a whole file: the reason, 0 for none. -/
def State.lastChecks (s : State) (f : Mem) : Nat :=
  let n := hdrFrames f
  if !sigLayoutOk f n then 9
  else
    let k := keyCheck s.bring.fw.imageKeys (sigKey f n) (sigBytes f n) (signedBytes f n) 8 9
    if k ≠ 0 then k
    else if hdrArb f < s.arbEpoch then 10
    else if !allZero (hdrFacility f) && hdrFacility f != s.facility then 11
    else if !s.tilesOk f then 12 else 0

/-! ### Loads in progress -/

/-- The load with a key: an operation slot, 8 for start-up, 9 for the test port. -/
def State.loadOf (s : State) (slot : Nat) : Option LoadS := s.img.loads.find? (·.slot == slot)

/-- A load put in place of the one with its key. -/
def State.loadPut (s : State) (l : LoadS) : State :=
  { s with img.loads := s.img.loads.map fun e => if e.slot = l.slot then l else e }

/-- A load that has ended. -/
def State.loadDrop (s : State) (slot : Nat) : State := { s with img.loads := s.img.loads.filter (·.slot != slot) }

/-- A load of a purpose that is in a phase. -/
def State.loadIn (s : State) (phase : Nat) : Option LoadS :=
  s.img.loads.find? fun l => l.phase == phase && (l.purpose == 0 || l.purpose == 3 || l.purpose == 4)

/-- IMG_TP_STATUS (R97): frames accepted, reason, phase. -/
def State.tpShow (s : State) (frames reason phase : Nat) : State :=
  s.set IMG_TP_STATUS.STAT (frames % 2 ^ 17 + 2 ^ 17 * reason + 2 ^ 21 * phase)

/-- IMG_LAST_LOAD. -/
def State.lastLoad (s : State) (reason src compat outcome : Nat) : State :=
  ((s.set IMG_LAST_LOAD.REASON reason).set IMG_LAST_LOAD.SRC src).set IMG_LAST_LOAD.COMPAT compat |>.set IMG_LAST_LOAD.OUTCOME outcome

/-- RUN that was to give way to LOAD ends all the same; the mode stays (R105). -/
def State.loadUnask (s : State) : State := if s.sys.next = some .load then { s with sys.next := none } else s

/-- The mode that the end of LOAD or SERVICE returns to: the one held before, or QUARANTINE after an escalation (R105, R528,
R529). -/
def State.backMode (s : State) : Mode := if s.sys.escalated then .quarantine else s.sys.back

/-- LOAD is left for the mode held before it (R105); for SERVICE while a service operation runs (R30). -/
def State.loadLeave (s : State) : State :=
  let s := s.loadUnask
  let service := (List.range 8).any fun k => s.slotLive k && (s.get (OP_CMD.CMD k) == 0x0E01 || s.get (OP_CMD.CMD k) == 0x0E02)
  if s.sys.mode = .load then { s with sys.changing := false }.setMode (if service then .service else s.backMode) else s

/-- The file of a source (0 to 3 slot, 4 staging, 6 the active image) and its length in bytes. -/
def State.source (s : State) (src : Nat) : Mem × Nat :=
  if src = 4 then (s.img.staging, s.get IMG_STAGE_LEN.LEN)
  else
    let c := if src = 6 then s.img.active.getD {} else (s.slotNv src).content
    (c.file, 1024 * c.frames)

/-- The result window of an image operation (R99): reason, failing frame, section, compatibility. -/
def State.imgResult (s : State) (slot reason frame sect compat : Nat) : State := s.results slot 0 [reason, frame, sect, compat]

/-- A load begins to receive from its source. -/
def State.loadBegin (s : State) (purpose src slot : Nat) : State :=
  let r := s.source src
  { s with img.loads := s.img.loads ++
      [{ purpose := purpose, src := src, slot := slot, file := r.1, len := some r.2, phase := 1, started := s.now }] }

/-- The source's length fails before frame 0 (check 4 of R83, R94). -/
def LoadS.lenBad (l : LoadS) : Bool :=
  match l.len with
  | some b => b < 2048 || b % 1024 != 0
  | none => false

/-- Start-up stages that have ended (R106). -/
def State.stageEnded (s : State) (k : Nat) : State := { s with sys.stages := s.sys.stages.filter (· ≠ k) ++ [k] }

/-- A load fails (R83, R90, R92, R97, R100, R105): the reason, the frame, the manifest entry. Result word 3 holds the compatibility where
it has been decided, else 0 (DESIGN CHOICE, log entry 316). -/
def State.loadFail (s : State) (l : LoadS) (reason frame sect : Nat) : State :=
  let s := ((s.loadDrop l.slot).set IMG_FAIL_FRAME.FRAME frame).set IMG_FAIL_SECTION.INDEX sect
  match l.purpose with
  | 0 => ((((s.lastLoad reason l.src 0 2).fault 0x0203).set IMG_STATUS.LOADING 0).loadUnask.imgResult l.slot reason frame sect l.compat).opEnd l.slot 4
  | 1 =>
    let s := if l.src < 4 then s.slotShow l.src 2 reason else s
    (s.imgResult l.slot reason frame sect 0).opEnd l.slot 4
  | 3 => (s.slotShow l.src 2 reason).fault 0x0201 l.src
  | 4 =>
    let s := ((s.lastLoad reason 5 0 2).fault 0x0203).set IMG_STATUS.TESTPORT 0
    (s.tpShow l.n reason 5).loadLeave
  | _ => (s.imgResult l.slot reason frame sect l.compat).opEnd l.slot 4

/-- A load of an operation begins, or fails before frame 0. -/
def State.loadOpen (s : State) (purpose src slot : Nat) : State :=
  let s := s.loadBegin purpose src slot
  match s.loadOf slot with
  | some l => if l.lenBad then s.loadFail l 14 0 0x3F else s
  | none => s

/-- The slots still to be tried, in order, without the empty ones. -/
def State.slotOrder (s : State) : List Nat :=
  let p := s.get IMG_PRIMARY.SLOT
  let o := match p with | 0 => [0, 1, 2, 3] | 1 => [1, 2, 3, 0] | 2 => [2, 3, 1, 0] | _ => [3, 1, 2, 0]
  o.filter fun k => (s.slotNv k).copy.isSome

/-- No slot has yielded an image (R92). -/
def State.noImage (s : State) : State :=
  let s := (s.fault 0x0202).stageEnded 7
  let s := s.decideCompat.showImage 7
  if s.sys.up then s.modeAnew else s

/-- The next slot of the start-up order is tried (R89), or none is left (R92). -/
def State.tryNext (s : State) : State :=
  match s.img.tries with
  | [] => s.noImage
  | k :: rest => { s with img.tries := rest }.loadBegin 3 k 8

/-- A failed load of start-up or of the test port without an active image goes on with the slot order (R89, "A failed
test-port load"). -/
def State.afterFail (s : State) (l : LoadS) : State :=
  if l.purpose = 3 then s.tryNext
  else if l.purpose = 4 ∧ s.img.active.isNone ∧ (s.sys.stages.contains 6 ∨ s.sys.up) then
    { s with img.tries := s.slotOrder }.tryNext
  else s

/-- A load fails, and what follows. -/
def State.loadStop (s : State) (l : LoadS) (reason frame sect : Nat) : State := (s.loadFail l reason frame sect).afterFail l

/-- A slot write or erase that used the golden unlock; the lock returns when it ends (R86). -/
def State.goldenUse (s : State) (slot : Nat) : State :=
  if s.img.unlocked then { s with img.unlocked := false, img.unlockOp := some slot } else s

/-- The target copy of a slot write: the other one. -/
def SlotS.target (x : SlotS) : Nat := match x.copy with | some 0 => 1 | _ => 0

/-- First logical block of a slot's copy (R490). -/
def slotBlock (k c : Nat) : Nat := 3056 + 256 * (2 * k + c)

/-- The verified source of a slot write goes to the other copy (R85, R101): the file waits in the load's place. -/
def State.slotWriteBegin (s : State) (l : LoadS) (compat : Nat) : State :=
  let k := s.opArg l.slot 0
  let bytes := 1024 * hdrFrames l.file
  let first := slotBlock k (s.slotNv k).target
  let s := (s.loadPut { l with phase := 4, compat := compat }).result l.slot 3 compat
  s.writeJob l.slot (blocksOf first bytes) (pagesOf bytes)

/-- Checks 7 to 10 after the last frame, and what follows them (R83, R84, R102). -/
def State.loadVerify (s : State) (l : LoadS) : State :=
  let r := s.lastChecks l.file
  if r ≠ 0 then s.loadStop l r (l.n - 1) 0x3F
  else
    let c := s.compatOf l.file
    match l.purpose with
    | 1 =>
      let s := if l.src < 4 then s.slotShow l.src 1 0 else s
      ((s.loadDrop l.slot).imgResult l.slot 0 0 0x3F c).opEnd l.slot 3
    | 2 => s.slotWriteBegin l c
    | 3 => s.loadPut { l with phase := 3, compat := c }
    | 4 => (s.loadPut { l with phase := 2, compat := c }).tpShow l.n 0 2
    | _ => s.loadPut { l with phase := 2, compat := c }

/-- A frame of a load arrives (R83). -/
def State.loadFrame (s : State) (l : LoadS) (readOk : Bool) : State :=
  if !readOk && l.src < 4 then
    s.inc NVS_ECC_UNCORR.COUNT |>.set NVS_EVENTS.UNCORR 1 |>.fault 0x0E0D |>.loadStop l 13 l.n 0x3F
  else if l.lenBad then s.loadStop l 14 0 0x3F
  else
    let r := frameChecks l.file l.len l.n
    if r.1 ≠ 0 then s.loadStop l r.1 l.n r.2
    else
      let l := { l with n := l.n + 1 }
      let s := s.loadPut l
      let s := if l.purpose = 4 then s.tpShow l.n 0 1 else s
      if l.n = hdrFrames l.file then s.loadVerify l else s

/-- The load from NAND, DRAM or the active image that takes the next frame: the oldest that receives. -/
def State.receiving (s : State) : Option LoadS := s.img.loads.find? fun l => l.phase == 1 && l.purpose != 4

/-- IMAGE_FRAME_ARRIVAL (R83). -/
def imageFrameArrival (readOk : Bool) (s : State) : State :=
  match s.receiving with
  | some l => s.loadFrame l readOk
  | none => s

/-! ### Quiesce, build, commit (R102 to R105) -/

/-- RUN has ended, no frame is in flight, the burst buffer is empty, and no PATTERN batch runs. -/
def State.quiet (s : State) : Bool :=
  !s.sys.run && s.sys.runAt.isNone && s.fpl.frames.isEmpty && s.swp.rows.isEmpty && s.swp.outq.isEmpty && s.prt.entries.isEmpty &&
    s.sol.batches.all fun b => b.tier.isNone || (descAt s.sol.win b.off).kind != 5

/-- ACTIVATION_QUIESCED (R102 stage 3). -/
def activationQuiesced (s : State) : State :=
  match s.loadIn 2 with
  | some l =>
    if s.quiet then
      let s := s.loadPut { l with phase := 3 }
      if l.purpose = 4 then s.tpShow l.n 0 3 else s
    else s
  | none => s

/-- The image of a load is committed (R103), and the mode is set under R30. -/
def State.loadCommit (s : State) (l : LoadS) : State :=
  let im : ImgFile := { file := l.file, frames := hdrFrames l.file }
  let s := (s.loadDrop l.slot).commitImage im l.src
  let c := s.get ENG_COMPAT.OUTCOME
  let s := if s.sys.up then { s with sys.changing := false }.modeAnew else s
  match l.purpose with
  | 0 =>
    let s := ((s.lastLoad 0 l.src c 1).set IMG_STATUS.LOADING 0).imgResult l.slot 0 0 0x3F c
    (s.opMod l.slot fun x => { x with commit := true }).opEnd l.slot 3
  | 3 =>
    let s := (s.slotShow l.src 1 0).setb IMG_STATUS.FALLBACK (l.src != s.get IMG_PRIMARY.SLOT)
    s.stageEnded 7
  | _ =>
    let s := ((s.lastLoad 0 5 c 1).set IMG_STATUS.TESTPORT 0).tpShow l.n 0 4
    if s.sys.up then s else (s.set IMG_STATUS.FALLBACK 1).stageEnded 7

/-- ACTIVATION_BUILD_DONE (R102 stages 4 and 5, check 11). -/
def activationBuildDone (s : State) : State :=
  match s.loadIn 3 with
  | some l =>
    let r := s.buildCheck { file := l.file, frames := hdrFrames l.file }
    if r.1 ≠ 0 then s.loadStop l r.1 (hdrFrames l.file - 1) r.2 else s.loadCommit l
  | none => s

/-! ### Operations (R99 to R101, R105) -/

/-- The image operations' sources and slots (R99, R487). -/
def imgCheck (cmd slot : Nat) (s : State) : Option (Nat × Nat) :=
  let a0 := s.opArg slot 0
  let a1 := s.opArg slot 1
  if cmd = 0x0201 ∨ cmd = 0x0202 then (if 4 < a0 then some (1, 0x0D) else none)
  else if 3 < a0 ∨ (cmd = 0x0203 ∧ 1 < a1) then some (1, 0x0D)
  else if a0 = 0 ∧ !s.img.unlocked then some (1, 0x00)
  else none

/-- IMG_VERIFY accepted. -/
def imgVerifyBegin (sess slot : Nat) (s : State) : State :=
  let src := s.opArg slot 0
  let n := (s.source src).2 / 1024
  (s.opAccept sess slot 0x0201 2 (6 * us * n + 4 * msec)).loadOpen 1 src slot

/-- IMG_ACTIVATE accepted (R105): LOAD from the end of RUN, or at once. -/
def imgActivateBegin (sess slot : Nat) (s : State) : State :=
  let src := s.opArg slot 0
  let n := (s.source src).2 / 1024
  let s := s.opAccept sess slot 0x0202 2 (6 * us * n + 24 * msec + 4 * us * n + 50 * us)
  let s := { s.set IMG_STATUS.LOADING 1 with sys.back := s.sys.mode }
  (s.modeAfterRun .load).loadOpen 0 src slot

/-- IMG_WRITE_SLOT accepted (R101). -/
def imgWriteBegin (sess slot : Nat) (s : State) : State :=
  let src := if s.opArg slot 1 = 0 then 4 else 6
  let b := (s.source src).2
  let bound := 3 * msec * ceilDiv b 262144 + 300 * us * pagesOf b + 6 * us * (b / 1024) + msec
  let s := ((s.opAccept sess slot 0x0203 2 bound).set (IMG_SLOTn_STATUS.WRITING (s.opArg slot 0)) 1)
  (if s.opArg slot 0 = 0 then s.goldenUse slot else s).loadOpen 2 src slot

/-- The payload of SLOT_DIR (R494). -/
def slotDirPayload (k copy st frames : Nat) (f : Mem) : List Nat :=
  [k, copy, st, 0] ++ leBytes 4 frames ++ leBytes 8 (hdrImageId f) ++ leBytes 4 (hdrImageVer f) ++ [hdrArb f]

/-- IMG_ERASE_SLOT accepted (R99): the SLOT_DIR record that makes the slot EMPTY is its commit step; the blocks are erased
after it, so that an abort that wins leaves the slot as it was. -/
def imgEraseBegin (sess slot : Nat) (s : State) : State :=
  let k := s.opArg slot 0
  let b := 1024 * (s.slotNv k).content.frames
  let s := s.opAccept sess slot 0x0204 2 (3 * msec * ceilDiv b 262144 + msec)
  let s := if k = 0 then s.goldenUse slot else s
  let s := s.journal 0x10 (slotDirPayload k 0 0 0 []) (some slot)
  s

def imgVerifyStart (sess slot : Nat) (s : State) : State × WRes := s.opStart slot 0x0201 (imgCheck 0x0201 slot) (imgVerifyBegin sess slot)
def imgActivateStart (sess slot : Nat) (s : State) : State × WRes :=
  s.opStart slot 0x0202 (imgCheck 0x0202 slot) (imgActivateBegin sess slot)
def imgWriteStart (sess slot : Nat) (s : State) : State × WRes := s.opStart slot 0x0203 (imgCheck 0x0203 slot) (imgWriteBegin sess slot)
def imgEraseStart (sess slot : Nat) (s : State) : State × WRes := s.opStart slot 0x0204 (imgCheck 0x0204 slot) (imgEraseBegin sess slot)

/-- An image operation as a command of its own. -/
def imgOp (start : Nat → Nat → State → State × WRes) (sess slot : Nat) (a0 a1 : Option Nat) (s : State) : State :=
  if slot < 8 then State.hostWrite (opAddr slot) (fun s => start sess slot (s.opArgs slot a0 a1 none none)) s else s

def imgVerify (sess slot a0 : Nat) (s : State) : State := imgOp imgVerifyStart sess slot (some a0) none s
def imgActivate (sess slot a0 : Nat) (s : State) : State := imgOp imgActivateStart sess slot (some a0) none s
def imgWriteSlot (sess slot a0 a1 : Nat) (s : State) : State := imgOp imgWriteStart sess slot (some a0) (some a1) s
def imgEraseSlot (sess slot a0 : Nat) (s : State) : State := imgOp imgEraseStart sess slot (some a0) none s

/-- The blocks of a slot write have been programmed and read back: the operation that waits for it. -/
def State.slotWriter (s : State) : Option LoadS :=
  s.img.loads.find? fun l => l.purpose == 2 && l.phase == 4 && s.writeIdle l.slot && !(s.opx l.slot).commit

/-- The read-back of a slot write (R101): SLOT_DIR is its commit step, or the operation fails. The read-back names no frame: word 1 is
0, and IMG_FAIL_FRAME keeps its value (DESIGN CHOICE, log entry 315). -/
def State.slotReadback (s : State) (l : LoadS) (same : Bool) : State :=
  let k := s.opArg l.slot 0
  if same then
    (s.journal 0x10 (slotDirPayload k (s.slotNv k).target 1 (hdrFrames l.file) l.file) (some l.slot)).opMod l.slot fun x =>
      { x with commit := true }
  else ((s.fault 0x0204 k).loadDrop l.slot).imgResult l.slot 13 0 0x3F l.compat |>.opEnd l.slot 4

/-- SLOT_DIR of a slot write is durable: the slot's content is the new copy (R85). -/
def State.slotCommit (s : State) (slot : Nat) : State :=
  match s.loadOf slot with
  | some l =>
    let k := s.opArg slot 0
    let c := (s.slotNv k).target
    let im : ImgFile := { file := l.file, frames := hdrFrames l.file }
    let put := fun (x : SlotS) => if c = 0 then { x with copy := some 0, a := im } else { x with copy := some 1, b := im }
    let s := { s.loadDrop slot with nv.slots := modNth put s.nv.slots k }
    ((s.slotShow k 1 0).imgResult slot 0 0 0x3F (s.get (OP_RESULT_w.WORD slot 3))).opEnd slot 3
  | none => s

/-- SLOT_DIR of an erase is durable: the slot is EMPTY, and its blocks are erased (R99). -/
def State.slotErased (s : State) (slot : Nat) : State :=
  let k := s.opArg slot 0
  let x := s.slotNv k
  let b := blocksOf (slotBlock k (x.copy.getD 0)) (1024 * x.content.frames)
  let s := { s with nv.slots := modNth (fun (x : SlotS) => { x with copy := none }) s.nv.slots k }
  let s := (s.slotShow k 0 0).opMod slot fun x => { x with commit := true }
  if b = [] then (s.imgResult slot 0 0 0x3F 0).opEnd slot 3 else s.writeJob slot b 0

/-! ### Registers of the IMG block -/

/-- An operation reads the staging area (R94): a load from it, or an operation that uses it. -/
def State.stagingBusy (s : State) : Bool :=
  (List.range 8).any fun k =>
    s.slotLive k && (s.opx k).outcome.isNone &&
      (opResources (s.get (OP_CMD.CMD k)) (s.get (OP_ARG0.ARG k)) (s.get (OP_ARG1.ARG k))).contains 2

/-- IMG_STAGE_LEN_WRITE (R94). -/
def stageLenWrite (v : Nat) (s : State) : State × WRes :=
  if s.stagingBusy then (s, .refuse 1 0x0E)
  else if v % 4 ≠ 0 ∨ 67108864 < v then (s, .refuse 1 0x0D)
  else (s.set IMG_STAGE_LEN.LEN v, .ok)

/-- IMG_STAGE_CTRL.CLEAR (R94): accepted while an operation reads the staging area too, whose length that operation has taken at its
start (DEDUCED, log entry 317). -/
def stageClear (s : State) : State × WRes := (s.set IMG_STAGE_LEN.LEN 0, .ok)

/-- IMG_PRIMARY (R89, R494). -/
def primaryWrite (v : Nat) (s : State) : State × WRes :=
  ((s.set IMG_PRIMARY.SLOT v).config 0x20020 (v % 4), .ok)

/-- IMG_STATUS.FALLBACK written 1 (R91). -/
def imgFallbackClear (s : State) : State := s.set IMG_STATUS.FALLBACK 0

/-- A CT write of a counted setting with its refusals (R86, R471, R478, R506, R509), and the burn it starts. -/
def State.countedWrite (s : State) (sess setting : Nat) (request : List Nat) : State × WRes :=
  match s.countedRefusal sess setting request with
  | some r => (s, .refuse r.1 r.2)
  | none =>
    if s.pfw then (s, .refuse 1 0x06)
    else if (s.nvs.burn.toList ++ s.nvs.burnWait).any (·.setting == setting) then (s, .refuse 1 0x00)
    else
      let k := ((s.tokenFor sess setting request).map (·.keyId)).getD 0
      (s.counted setting sess k request none, .ok)

/-- IMG_GOLDEN_UNLOCK.UNLOCK written 1 (R86). -/
def goldenUnlockWrite (sess : Nat) (s : State) : State × WRes :=
  if s.img.unlocked then (s, .refuse 1 0x00) else s.countedWrite sess 3 [0]

/-! ### The commands -/

def imgStageLenWrite (v : Nat) (s : State) : State := State.hostWrite 0x20030 (stageLenWrite v) s
def imgStageClear (s : State) : State := State.hostWrite 0x20034 stageClear s
def imgPrimaryWrite (v : Nat) (s : State) : State := State.hostWrite 0x20020 (primaryWrite v) s
def fallbackClear (s : State) : State := imgFallbackClear s
def goldenUnlock (sess : Nat) (s : State) : State := State.hostWrite 0x20028 (goldenUnlockWrite sess) s

def execImgVerify (t sess slot arg0 : Nat) (s : State) : Host.Outcome State Fault Refusal := .next (imgVerify sess slot arg0 (s.at t))
def execImgActivate (t sess slot arg0 : Nat) (s : State) : Host.Outcome State Fault Refusal := .next (imgActivate sess slot arg0 (s.at t))
def execImgWriteSlot (t sess slot arg0 arg1 : Nat) (s : State) : Host.Outcome State Fault Refusal :=
  .next (imgWriteSlot sess slot arg0 arg1 (s.at t))
def execImgEraseSlot (t sess slot arg0 : Nat) (s : State) : Host.Outcome State Fault Refusal := .next (imgEraseSlot sess slot arg0 (s.at t))
def execImageFrameArrival (t : Nat) (readOk : Bool) (s : State) : Host.Outcome State Fault Refusal :=
  .next (imageFrameArrival readOk (s.at t))
def execActivationQuiesced (t : Nat) (s : State) : Host.Outcome State Fault Refusal := .next (activationQuiesced (s.at t))
def execActivationBuildDone (t : Nat) (s : State) : Host.Outcome State Fault Refusal := .next (activationBuildDone (s.at t))
def execImgStageLenWrite (t v : Nat) (s : State) : Host.Outcome State Fault Refusal := .next (imgStageLenWrite v (s.at t))
def execImgStageClear (t : Nat) (s : State) : Host.Outcome State Fault Refusal := .next (imgStageClear (s.at t))
def execGoldenUnlock (t sess : Nat) (s : State) : Host.Outcome State Fault Refusal := .next (goldenUnlock sess (s.at t))
def execImgPrimaryWrite (t v : Nat) (s : State) : Host.Outcome State Fault Refusal := .next (imgPrimaryWrite v (s.at t))
def execFallbackClear (t : Nat) (s : State) : Host.Outcome State Fault Refusal := .next (State.hostDo 0x20000 fallbackClear (s.at t))

end Sys2Proof.Machine
end

