-- ==== Sys2Proof/Machine/Tile.lean ====
section
/-!
DEFINITION. Tile discovery (R108 to R112) and binding (R113 to R118).
-/
namespace Sys2Proof.Machine

/-! ### Discovery -/

/-- Fields of an identity memory (R156). -/
def identRev (b : List Nat) : Nat := identLe b 4 1
def identType (b : List Nat) : Nat := identLe b 5 1
def identSerial (b : List Nat) : Nat := identLe b 8 8

/-- A Jesor revision that the carrier accepts (R108). -/
def State.revOk (s : State) (rev : Nat) : Bool := s.bring.carrier.jesorMin ≤ rev && rev ≤ s.bring.carrier.jesorMax

/-- The type that most positions of a list hold; on a tie that of the first (R109). -/
def voteType (ts : List Nat) : Nat :=
  let a := (ts.filter (· == 1)).length
  let b := (ts.filter (· == 2)).length
  if a = b then nth 0 ts 0 else if b < a then 1 else 2

/-- The carrier type from the positions with a readable identity (R109), whose types the caller gives with whether their
serial is the bound one. -/
def carrierType (ps : List (Nat × Bool)) : Nat :=
  let own := (ps.filter (·.2)).map (·.1)
  voteType (if own = [] then ps.map (·.1) else own)

/-- A position that can take part in the vote: a present tile with a readable identity and a type of R156. -/
def State.votes (s : State) (n : Nat) : Bool :=
  let p := s.pos n
  p.present && p.ident != [] && (p.type == 1 || p.type == 2)

/-- The carrier type as the positions stand. -/
def State.carrierNow (s : State) : Nat :=
  carrierType (((List.range 8).filter s.votes).map fun n => ((s.pos n).type, s.boundAt n == some (s.pos n).serial))

/-- The state of a position (R108). `carrier` is the carrier type. -/
def State.posState (s : State) (carrier n : Nat) : Nat :=
  let p := s.pos n
  if !p.present then 0
  else if p.ident = [] then 4
  else if !s.revOk (identRev p.ident) then 6
  else if s.boundAt n = some p.serial ∧ p.type = carrier then 1
  else if p.type ≠ carrier then 5
  else if (s.boundAt n).isSome then 3
  else 2

/-- What a read of an identity memory gives a position. -/
def TilePos.take (p : TilePos) (t : TileRead) : TilePos :=
  let ok := t.present && identOk t
  { p with present := t.present, ident := if ok then t.bytes else [], type := if ok then identType t.bytes else 0,
           serial := if ok then identSerial t.bytes else 0 }

/-- FPL_IDn_WORDi of a position from the bytes read. -/
def State.identShow (s : State) (n : Nat) (t : TileRead) : State :=
  (List.range 64).foldl (fun (s : State) i =>
    s.set (FPL_IDn_WORDi.BYTES n i) (if t.present && t.readable then identLe t.bytes (4 * i) 4 else 0)) s

/-- FPL_POSn and FPL_CARRIER of the positions as they stand. A position that stage 8 treats as not BOUND (state 7 here) has no code
of its own in R108: STATE goes on reading 1, and BOUND_MASK leaves it out (DESIGN CHOICE, log entry 412). -/
def State.posShow (s : State) : State :=
  let s := (List.range 8).foldl (fun (s : State) n =>
    let p := s.pos n
    let s := ((s.set (FPL_POSn_STATE.STATE n) (if p.state = 7 then 1 else p.state)).set (FPL_POSn_STATE.TYPE n) (if p.type ≤ 2 then p.type else 0)).setb
      (FPL_POSn_STATE.BASE_OK n) p.baseOk
    let s := s.set64 (FPL_POSn_SERIAL_LO.SERIAL n) (FPL_POSn_SERIAL_HI.SERIAL n) p.serial
    s.set64 (FPL_POSn_BOUND_LO.SERIAL n) (FPL_POSn_BOUND_HI.SERIAL n) p.bound) s
  let mask := fun (q : TilePos → Bool) => maskOf ((List.range 8).filter fun n => q (s.pos n))
  ((s.set FPL_CARRIER.BOUND_MASK (mask fun p => p.state == 1)).set FPL_CARRIER.PRESENT_MASK (mask (·.present))).set
    FPL_BIND_LEFT.LEFT (64 - s.tally 1)

/-- The fault of a position's state (R111). -/
def posFault : Nat → Nat
  | 4 => 0x0402 | 6 => 0x0404 | 5 => 0x0403 | 3 => 0x0401 | _ => 0

/-- Every position judged against the carrier type and its binding. -/
def State.judge (s : State) (carrier : Nat) : State :=
  (List.range 8).foldl (fun (s : State) n =>
    s.setPos n fun p => { p with state := s.posState carrier n, bound := (s.boundAt n).getD 0 }) (s.set FPL_CARRIER.TYPE carrier)

/-- DISCOVERY_DONE (R106 stage 6, R108 to R111). -/
def discoveryDone (carrier : CarrierRead) (tiles : List TileRead) (s : State) : State :=
  if !s.sys.stages.contains 5 || s.sys.stages.contains 6 then s
  else
    let s := { s with bring.carrier := carrier }
    let s := ((s.set ENG_ID_CARRIER.REV carrier.rev).set ENG_ID_CARRIER.JESOR_MIN carrier.jesorMin).set ENG_ID_CARRIER.JESOR_MAX carrier.jesorMax
    let s := (s.set ENG_IFACE_CAR.EPOCH carrier.epoch).set ENG_IFACE_CAR.OLDEST carrier.oldest
    let s := (List.range 8).foldl (fun (s : State) n =>
      (s.setPos n fun p => p.take (nth {} tiles n)).identShow n (nth {} tiles n)) s
    let s := s.judge s.carrierNow
    let s := (List.range 8).foldl (fun (s : State) n =>
      let c := posFault (s.pos n).state
      if c = 0 then s else s.fault c n) s.posShow
    { s.stageEnded 6 with img.tries := s.slotOrder }.tryNext

/-- BASE_SET_COPY_DONE (R106 stage 8, R126, R242): the base sets stand in DRAM, and a START generation is taken. A position that
fails here while an image committed in stage 7 names it leaves that image active, and its tiles biased in stage 9 (DESIGN CHOICE,
log entry 413). -/
def baseSetCopyDone (failed : List Nat) (s : State) : State :=
  if !s.sys.stages.contains 6 || s.sys.stages.contains 8 then s
  else
    let s := failed.foldl (fun (s : State) n =>
      if (s.pos n).state = 1 then (s.setPos n fun p => { p with state := 7 }).fault 0x0406 n else s) s
    let ok := (List.range 8).filter fun n => (s.pos n).state == 1
    let s := ok.foldl (fun (s : State) n => s.setPos n fun p => { p with baseOk := true }) s
    let base := ok.map fun n => (n, s.baseSet n)
    let s := { s with cal.base := base, cal.newest := { s.cal.newest with tiles := [] }, cal.fresh := [], cal.hist := [], cal.hist2 := [] }
    let upd := base.filter fun (e : Nat × TileSet) => s.img.active.isNone || bit s.tileMask e.1 == 1
    let s := ok.foldl (fun (s : State) n => s.driftBase n) (s.commitGen 0 upd)
    s.showChar.posShow.genApply.stageEnded 8

/-! ### Binding (R113 to R118) -/

/-- Bytes of a factory table file (R245). -/
def tableBytes (line : Bool) : Nat := 640 + 10 * tilePixels line + tilePixels line / 8

/-- The layout of a factory table file (R245): check 9 of R115, without R554. -/
def tableLayoutOk (f : Mem) (line : Bool) : Bool :=
  let e := tableBytes line
  f.le 0 4 == 0x42544654 && f.le 4 2 == 1 && f.le 0x10 4 == tilePixels line && f.byte 7 ≤ 3 && allZero (f.bytes 0x124 220) &&
  f.le (e - 128) 4 == 0x47495346 && f.le (e - 122) 2 == 1 && allZero (f.bytes (e - 120) 8) && allZero (f.bytes (e - 48) 48)

/-- The staged factory table's signature by a factory key (check 7 of R115). -/
def State.tableSigned (s : State) (f : Mem) (len : Nat) : Bool :=
  keyCheck s.bring.fw.factKeys (f.le (len - 124) 2) (f.bytes (len - 112) 64) (f.bytes 0 (len - 128)) 1 1 == 0

/-- The serial that a TILE_BIND names. -/
def State.bindSerial (s : State) (slot : Nat) : Nat := s.opArg slot 1 + 2 ^ 32 * s.opArg slot 2

/-- The REQUEST of a binding (R477). -/
def bindRequest (pos serial : Nat) : List Nat := pos % 256 :: leBytes 8 serial

/-- The checks of R115 in order: the reason of the first that fails, 0 for none. -/
def State.bindReason (s : State) (sess slot : Nat) (tile : TileRead) : Nat :=
  let pos := s.opArg slot 0
  let serial := s.bindSerial slot
  let f := s.img.staging
  let len := s.get IMG_STAGE_LEN.LEN
  let line := identType tile.bytes == 2
  if 64 ≤ s.tally 1 then 7
  else if (s.tokenFor sess 1 (bindRequest pos serial)).isNone then 8
  else if !tile.present then 1
  else if !identOk tile || !s.revOk (identRev tile.bytes) then 9
  else if identSerial tile.bytes ≠ serial then 2
  else if (List.range 8).any fun n => (s.pos n).state == 1 && (s.pos n).type != identType tile.bytes then 3
  else if len ≠ tableBytes line then 6
  else if !s.tableSigned f len then 4
  else if f.le 8 8 ≠ serial ∨ f.byte 6 ≠ identType tile.bytes then 5
  else if !tableLayoutOk f line || !tableContentOk f line then 10
  else 0

/-- TILE_BIND refused (R114, R478): position and table source, and a custodian session. -/
def bindCheck (sess slot : Nat) (s : State) : Option (Nat × Nat) :=
  if 7 < s.opArg slot 0 ∨ s.opArg slot 3 ≠ 0 then some (1, 0x0D)
  else if !s.tmp.sessions.any fun e => e.no == sess && e.role == 2 then some (1, 0x02)
  else none

/-- The copy of a position's table that the next binding writes (R490). -/
def State.bindCopy (s : State) (pos : Nat) : Nat := 1 - nth 0 s.nv.tableAt pos

/-- Words 1 to 3 of the result window of TILE_BIND. -/
def State.bindResult (s : State) (slot reason prev : Nat) : State := s.results slot 0 [reason, s.tally 1, prev, prev / 2 ^ 32]

/-- TILE_BIND accepted: the checks of R115, then the write of the table. -/
def bindBegin (sess slot : Nat) (tile : TileRead) (s : State) : State :=
  let len := s.get IMG_STAGE_LEN.LEN
  let pos := s.opArg slot 0
  let bound := 3 * msec * ceilDiv len 262144 + 300 * us * pagesOf len + 40 * msec
  let r := s.bindReason sess slot tile
  let prev := (s.boundAt pos).getD 0
  let s := s.opAccept sess slot 0x0401 2 bound
  let s := if r = 7 ∨ r = 8 ∨ !tile.present then s
    else (if identOk tile then s.setPos pos fun p => p.take tile else s).identShow pos tile
  if r ≠ 0 then (s.bindResult slot r prev).opEnd slot 4
  else
    let k := ((s.tokenFor sess 1 (bindRequest pos (s.bindSerial slot))).map (·.keyId)).getD 0
    let s := s.opMod slot fun x => { x with key := k, begun := true, aux := [len] }
    s.writeJob slot (blocksOf (1008 + 128 * pos + 64 * s.bindCopy pos) len) (pagesOf len)

def tileBindStart (tile : TileRead) (sess slot : Nat) (s : State) : State × WRes :=
  s.opStart slot 0x0401 (bindCheck sess slot) (bindBegin sess slot tile)

def tileBind (sess slot pos lo hi a3 : Nat) (tile : TileRead) (s : State) : State :=
  if slot < 8 then State.hostWrite (opAddr slot) (fun s => tileBindStart tile sess slot (s.opArgs slot (some pos) (some lo) (some hi) (some a3))) s else s

/-- The read-back of the table (R115): the TABLE record, and the burn once that is durable. A mismatch ends the operation; R114 gives no reason
for it, and word 0 is open. -/
def State.bindReadback (s : State) (slot : Nat) (same : Bool) : State :=
  let pos := s.opArg slot 0
  let serial := s.bindSerial slot
  if same then
    let c := s.bindCopy pos
    let len := nth 0 (s.opx slot).aux 0
    let table : TableS := { serial := serial, file := s.img.staging, len := len }
    let s := { s with nv.tables := modNth (fun (_ : TableS) => table) s.nv.tables (2 * pos + c) }
    let s := s.journal 0x23 ([pos, c, 0, 0] ++ leBytes 8 serial ++ leBytes 4 len) (some slot)
    s.opMod slot fun x => { x with begun := false }
  else ((s.bindResult slot (Config.freeValue 10 s.free) ((s.boundAt pos).getD 0)).opEnd slot 4).nextFree

/-- The TABLE record of a TILE_BIND is durable: its cell is burnt next (R113, R506). -/
def State.bindBurn (s : State) (slot : Nat) : State :=
  s.counted 1 (s.opx slot).sess (s.opx slot).key (bindRequest (s.opArg slot 0) (s.bindSerial slot)) (some slot)

/-- The binding that a burnt cell makes (R116 to R118): the position's table and base set, and the positions as they then
stand; the drift history of a position bound or left is discarded (R264). With no other position BOUND, FPL_CARRIER.TYPE becomes the
new tile's type (DESIGN CHOICE, log entry 411). -/
def State.bindTake (s : State) (pos copy : Nat) : State :=
  let s := s.tableTake pos copy
  let any := (List.range 8).any fun n => n != pos && (s.pos n).state == 1
  let s := if any then s else s.set FPL_CARRIER.TYPE (s.pos pos).type
  let s := (List.range 8).foldl (fun (s : State) n =>
    let b := s.boundAt n
    let gone := ((s.pos n).state == 1 && n != pos && b != some (s.pos n).serial) || ((s.pos n).state == 3 && n != pos && b.isNone)
    s.setPos n fun p => { p with
      bound := b.getD 0, state := if n = pos then 1 else if gone then 2 else p.state,
      baseOk := p.baseOk && !gone || n == pos }) s
  let s := { s with cal.base := (pos, s.baseSet pos) :: s.cal.base.filter (fun (e : Nat × TileSet) => e.1 != pos && (s.pos e.1).state == 1)
                    cal.fresh := pos :: s.cal.fresh.erase pos }
  let s := ((List.range 8).filter fun n => n == pos || (s.boundAt n).isNone).foldl (fun (s : State) n => s.histDrop n) s
  let s := [0x0401, 0x0402, 0x0403, 0x0404].foldl (fun (s : State) c => s.unfault c pos) s
  s.showChar.posShow

/-- TILE_BIND's cell is burnt (R113, R117). -/
def State.bindCommit (s : State) (slot prev : Nat) : State :=
  let pos := s.opArg slot 0
  ((s.bindTake pos (s.bindCopy pos)).bindResult slot 0 prev).opEnd slot 3

def execDiscoveryDone (t : Nat) (carrier : CarrierRead) (tiles : List TileRead) (s : State) : Host.Outcome State Fault Refusal :=
  .next (discoveryDone carrier tiles (s.at t))
def execBaseSetCopyDone (t : Nat) (failed : List Nat) (s : State) : Host.Outcome State Fault Refusal :=
  .next (baseSetCopyDone failed (s.at t))
def execTileBind (t sess slot pos serLo serHi arg3 : Nat) (tile : TileRead) (s : State) : Host.Outcome State Fault Refusal :=
  .next (tileBind sess slot pos serLo serHi arg3 tile (s.at t))

end Sys2Proof.Machine
end

