-- ==== Sys2Proof/Machine/Nvs.lean ====
section
/-!
DEFINITION. The store at work (R490 to R500, R504): what the end of a program, of an erase and of a panel's driving comes to,
compaction, relocation, shutdown and restart; warden firmware (R501 to R503), scrubbing, panel refreshes, and the counted
changes (R505 to R511).
-/
namespace Sys2Proof.Machine

/-! ### Power gone (R138, R525) -/

/-- The journal records of the programs that wait or run, newest first. -/
def progRecs (l : List Prog) : List JRec :=
  (l.filterMap fun p => match p with | .journal r _ => some r | .page _ => none).reverse

/-- What is left when the engine goes through reset: the store, the cells and the panel, what the power unit reports of its
inputs, the test port's reference, and what has left the module. -/
def State.coldState (s : State) : State :=
  let c : State :=
    { now := s.now, nv := s.nv, pwr := { ac := s.pwr.ac, dc := s.pwr.dc, acAt := s.pwr.acAt, dcAt := s.pwr.dcAt, acUsed := s.pwr.acUsed,
                                         lostAt := s.pwr.lostAt, fell := s.pwr.fell, real := s.pwr.real,
                                         pfwAt := s.pwr.pfwAt },
      img := { vrefT := s.img.vrefT }, out := s.out, free := s.free, pending := s.pending }
  [PWR_STATUS.PFW, PWR_STATUS.SOURCE, PWR_STATUS.AC_OK, PWR_STATUS.DC_OK].foldl (fun (c : State) f => c.set f (s.get f)) c

/-- The REFTICK count starts at 0. -/
def State.zeroTime (s : State) : State := 
  { s with now := 0, pwr.acAt := 0, pwr.dcAt := 0, pwr.lostAt := s.pwr.lostAt.map fun _ => 0, pwr.real := 0, pwr.pfwAt := 0 }

/-- The start-up count of this start-up: the newest BOOT record's, plus 1. -/
def State.bootNo (s : State) : Nat :=
  ((s.nv.journal.find? fun r => r.ok && r.type == 0x80).map fun r => leVal (r.payload.take 4)).getD 0 + 1

/-- RESTART (R504): a full start-up from stage 1; the journal programs that wait complete first. -/
def State.restart (s : State) : State :=
  let s := { s with nv.journal := progRecs s.nvs.progs ++ s.nv.journal }
  let c := s.coldState.zeroTime
  { c.set NVS_BOOT_COUNT.COUNT c.bootNo with sys.stages := [1], tmp.used := s.tmp.used }

/-! ### Warden firmware (R501 to R503) -/

/-- The primary copy: that of the newest FW_DIR. -/
def State.fwPrimary (s : State) : Nat := ((s.nv.journal.find? fun r => r.ok && r.type == 0x11).map fun r => nth 0 r.payload 0).getD 0

/-- NVS_FWc registers. -/
def State.fwShow (s : State) : State :=
  [0, 1].foldl (fun (s : State) c =>
    let f := nth ({} : FwCopy) s.nv.fw c
    let s := (s.set (NVS_FWc_VER.VER c) f.desc.version).set (NVS_FWc_INFO.ARB_EPOCH c) f.desc.arb
    (s.set (NVS_FWc_INFO.STATE c) f.state).setb (NVS_FWc_INFO.PRIMARY c) (s.fwPrimary == c)) s

/-- A copy's content changed. -/
def State.fwPut (s : State) (c : Nat) (f : FwCopy) : State := { s with nv.fw := modNth (fun (_ : FwCopy) => f) s.nv.fw c }

/-- The copy that FW_WRITE writes: the one not running, or A under the loader (R503). -/
def State.fwTarget (s : State) : Nat := if s.sys.recovery then 0 else 1 - s.get NVS_STATUS.FW_COPY

/-- The firmware header of R501. -/
def fwHeaderOk (f : Mem) (len : Nat) : Bool :=
  bodyLe f 0 4 == 0x4D465754 && bodyLe f 4 2 == 1 && bodyLe f 6 2 == 0 && lengthOk f (some len) && hdrFrames f ≤ 16384 &&
  128 ≤ hdrBodyLen f && tailZero f && allZero (bodyBytes f 0x15 3) && allZero (bodyBytes f 0x28 88)

/-- What a firmware file declares: its header, and what `Config.fwBody` reads from the rest of its body. -/
def fwDescOf (f : Mem) : FwDesc :=
  { Config.fwBody (bodyBytes f 0 (hdrBodyLen f)) with
    version := bodyLe f 0x10 4, arb := bodyByte f 0x14,
    iface := [0, 1, 2].map fun i => (bodyLe f (0x18 + 4 * i) 2, bodyLe f (0x1A + 4 * i) 2) }

/-- The signature of a firmware file by a key of the boot ROM (R501). -/
def fwSigned (f : Mem) : Bool :=
  let n := hdrFrames f
  sigLayoutOk f n && ((Config.bootKey (sigKey f n)).elim false fun k => edVerify k (sigBytes f n) (signedBytes f n))

/-- The checks that FW_WRITE makes before its first erase (R503): its reason, 0 for none. -/
def State.fwReason (s : State) (f : Mem) (len : Nat) : Nat :=
  if len < 2048 ∨ len % 1024 ≠ 0 then 2
  else if !(List.range (len / 1024)).all (fun i => frameNoOk f i && frameCrcOk f i) then 1
  else if !fwHeaderOk f len || (fwDescOf f).compat.isEmpty then 2
  else if !fwSigned f then 3
  else if bodyByte f 0x14 < s.arbEpoch then 4 else 0

/-- FW_WRITE accepted (R503): SERVICE, the checks, and the write of the copy. -/
def fwBegin (sess slot : Nat) (s : State) : State :=
  let f := s.img.staging
  let len := s.get IMG_STAGE_LEN.LEN
  let s := s.opAccept sess slot 0x0E01 2 (3 * msec * ceilDiv len 262144 + 300 * us * pagesOf len + 200 * msec)
  let s := { s with sys.back := s.sys.mode }.setMode .service
  let r := s.fwReason f len
  let s := s.results slot 0 [r, bodyLe f 0x10 4]
  if r ≠ 0 then s.opEnd slot 4
  else (s.opMod slot fun x => { x with begun := true }).writeJob slot (blocksOf (64 + 64 * s.fwTarget) len) (pagesOf len)

def fwWriteStart (sess slot : Nat) (s : State) : State × WRes := s.opStart slot 0x0E01 (fun _ => none) (fwBegin sess slot)
def fwWrite (sess slot : Nat) (s : State) : State :=
  if slot < 8 then State.hostWrite (opAddr slot) (fwWriteStart sess slot) s else s

/-- The read-back of a firmware copy: FW_DIR is the commit step. -/
def State.fwReadback (s : State) (slot : Nat) (same : Bool) : State :=
  let f := s.img.staging
  if same then
    let s := s.fwPut s.fwTarget { state := 1, desc := fwDescOf f, file := { file := f, frames := hdrFrames f } }
    (s.journal 0x11 ([s.fwTarget, 0, 0, 0] ++ leBytes 4 (bodyLe f 0x10 4) ++ [bodyByte f 0x14]) (some slot)).opMod slot fun x =>
      { x with commit := true, begun := false }
  else (s.result slot 0 5).opEnd slot 4

/-! ### Reading back (R101, R115, R503) -/

/-- A running operation of a command whose blocks are written and whose read-back has not come. -/
def State.awaitsReadback (s : State) (cmd : Nat) : Option Nat :=
  (s.slotOf cmd).filter fun k => s.writeIdle k && (s.opx k).begun

/-- SLOT_WRITE_READBACK_DONE: the read-back of a slot's copy, of a factory table, or of a firmware copy. -/
def slotWriteReadbackDone (same : Bool) (s : State) : State :=
  match s.slotWriter with
  | some l => s.slotReadback l same
  | none =>
    match s.awaitsReadback 0x0401, s.awaitsReadback 0x0E01 with
    | some k, _ => s.bindReadback k same
    | none, some k => s.fwReadback k same
    | none, none => s

/-! ### Scrubbing (R499, R500) -/

/-- The logical block that a physical one serves. -/
def State.logicalOf (s : State) (p : Nat) : Nat := ((s.nv.map.find? (·.2 == p)).map (·.1)).getD p

/-- Dirty blocks in ascending physical order. -/
def State.dirtyBlocks (s : State) : List Nat := s.nv.dirty.foldr insertNat []

/-- Groups of at most 118. -/
def groups118 : (fuel : Nat) → List Nat → List (List Nat)
  | 0, _ => []
  | n + 1, l => if l = [] then [] else l.take 118 :: groups118 n (l.drop 118)

/-- CLEAN records; the last carries the operation's commit. -/
def State.cleanRecs (s : State) (slot : Nat) : List (List Nat) → State
  | [] => s
  | g :: rest =>
    let p := leBytes 2 g.length ++ [0, 0] ++ g.flatMap (leBytes 4)
    (s.journal 0x04 p (if rest = [] then some slot else none)).cleanRecs slot rest

/-- The next dirty block is erased; after the last the CLEAN records are the commit step, and with none the operation ends. -/
def State.scrubNext (s : State) (slot : Nat) : State :=
  let x := s.opx slot
  match x.todo with
  | p :: rest =>
    let s := s.opMod slot fun x => { x with todo := rest }
    let b := s.logicalOf p
    s.eraseStart { phys := p, logical := some b, region := regionOf b, slot := some slot }
  | [] =>
    if x.aux = [] then s.opEnd slot 3
    else (s.cleanRecs slot (groups118 x.aux.length x.aux)).opMod slot fun x => { x with commit := true }

/-- STORE_SCRUB accepted (R500). -/
def scrubBegin (sess slot : Nat) (s : State) : State :=
  let d := s.dirtyBlocks
  let s := s.opAccept sess slot 0x0E02 2 (3 * msec * d.length + 10 * msec)
  let s := { s with sys.back := s.sys.mode }.setMode .service
  ((s.results slot 0 [0, 0]).opMod slot fun x => { x with todo := d, aux := d }).scrubNext slot

def storeScrubStart (sess slot : Nat) (s : State) : State × WRes := s.opStart slot 0x0E02 (fun _ => none) (scrubBegin sess slot)
def storeScrub (sess slot : Nat) (s : State) : State :=
  if slot < 8 then State.hostWrite (opAddr slot) (storeScrubStart sess slot) s else s

/-! ### Erases (R492, R497) -/

/-- A slot's operation still works. -/
def State.opWorks (s : State) (slot : Nat) : Bool := s.slotLive slot && (s.opx slot).outcome.isNone

/-- No spare block is left for an operation's write: it ends FAILED with its chapter's store-write reason (R492). R99 and R114
name none, and word 0 is open there; an erase after its commit step stands. -/
def State.storeFail (s : State) (slot : Nat) : State :=
  let s := s.writeDrop slot
  match s.get (OP_CMD.CMD slot) with
  | 0x0203 => (((s.loadDrop slot).imgResult slot (Config.freeValue 10 s.free) 0 0x3F 0).opEnd slot 4).nextFree
  | 0x0204 => (s.imgResult slot 0 0 0x3F 0).opEnd slot 3
  | 0x0401 => ((s.bindResult slot (Config.freeValue 10 s.free) ((s.boundAt (s.opArg slot 0)).getD 0)).opEnd slot 4).nextFree
  | 0x0E01 => (s.result slot 0 6).opEnd slot 4
  | 0x0E02 => s.opEnd slot 4
  | _ => (s.charAbort slot).opFail slot 6

/-- An erase has ended well, or its block is replaced and erased: what it was for goes on. -/
def State.eraseNext (s : State) (j : EraseJ) : State :=
  match j.slot with
  | none => if j.region = 5 ∧ j.logical.isSome then { s with nv.jfree := s.nv.jfree + 1 } else s
  | some k =>
    if !s.opWorks k then s
    else
      match s.get (OP_CMD.CMD k) with
      | 0x0E02 => s.scrubNext k
      | 0x0204 =>
        let s := s.writeNext k
        if s.writeIdle k then (s.imgResult k 0 0 0x3F 0).opEnd k 3 else s
      | _ => s.writeNext k

/-- A count in word `w` of STORE_SCRUB's result. -/
def State.scrubCount (s : State) (j : EraseJ) (w : Nat) : State :=
  match j.slot with
  | some k => if s.get (OP_CMD.CMD k) = 0x0E02 then s.result k w (s.get (OP_RESULT_w.WORD k w) + 1) else s
  | none => s

/-- The ERASE_INTENT of a block has not been programmed yet, so that its erase has not begun. -/
def State.intentWaits (s : State) (j : EraseJ) : Bool :=
  (progRecs s.nvs.progs).any fun r => r.type == 1 && leVal (r.payload.take 4) == j.phys

/-- A block that cannot be replaced ends the write that needed it. -/
def State.eraseLost (s : State) (j : EraseJ) : State :=
  match j.slot with
  | some k => if s.opWorks k then s.storeFail k else s
  | none => s

/-- FW_WRITE's target holds no firmware from its first erase on. -/
def State.fwErased (s : State) (j : EraseJ) : State :=
  match j.slot with
  | some k => if s.get (OP_CMD.CMD k) = 0x0E01 then s.fwPut s.fwTarget {} |>.fwShow else s
  | none => s

/-- NAND_ERASE_DONE (R497): ERASE_DONE and what waited for it; or the block is retired and its replacement erased (R492). A
block that an ended operation left unerased is dirty (R485, R499). -/
def nandEraseDone (erased blank : Bool) (s : State) : State :=
  match s.nvs.erasing with
  | [] => s
  | j :: rest =>
    if s.intentWaits j then s
    else
      let s := { s with nvs.erasing := rest }.fwErased j
      let works := j.slot.all s.opWorks
      if !works && !erased then
        { s.journal 0x03 (leBytes 4 j.phys) with nv.dirty := j.phys :: s.nv.dirty.filter (· ≠ j.phys) }
      else if erased && blank then
        let r := s.eraseOk j
        let gone := r.1.nv.retired.contains j.phys
        let s := r.1.scrubCount j 0
        let s := if gone then s.scrubCount j 1 else s
        match r.2 with
        | some j' => if works then s.eraseStart j' else s
        | none => if gone then s.eraseLost j else s.eraseNext j
      else
        let r := s.retire j (if erased then 3 else 1)
        let s := r.1.scrubCount j 1
        match r.2 with
        | some j' => if works then s.eraseStart j' else s
        | none => s.eraseLost j

/-! ### The panel (R512 to R517) -/

/-- PANEL_END is durable: the refresh has ended, and what asked for it goes on. -/
def State.panelEnded (s : State) : State :=
  match s.nvs.drive with
  | none => s
  | some d =>
    let s := s.driveEnd d
    let s := match d.slot with
      | some k => if s.opWorks k then (s.result k 0 d.seq).opEnd k 3 else s
      | none => s
    let s := if d.purpose = 2 then s.journal 0x42 [0] else if d.purpose = 3 then s.journal 0x42 [1] else s
    s.drivePump

/-- PANEL_DRIVE_DONE (R513): PANEL_END is appended. -/
def panelDriveDone (s : State) : State :=
  match s.nvs.drive with
  | some d =>
    if (progRecs s.nvs.progs).any (·.type == 0x31) then s
    else
      let s := s.journal 0x31 (leBytes 4 d.seq) d.slot
      match d.slot with
      | some k => if s.opWorks k then s.opMod k fun x => { x with commit := true } else s
      | none => s
  | none => s

/-- PANEL_AUTO_REFRESH (R514): a shown field has changed and the interval has passed. -/
def panelAutoRefresh (s : State) : State :=
  let waited := s.nvs.lastAuto.elim true fun t => t + sec * s.get NVS_PNL_CTRL.MIN_S ≤ s.now
  let stale := s.nv.panelShown != s.panelFields
  if s.on NVS_PNL_CTRL.AUTO_EN && s.on NVS_STATUS.STORE_OK && s.get PWR_STATUS.STATE ≤ 3 && stale && waited && s.nvs.drive.isNone &&
      !s.pfw then
    { s with nvs.lastAuto := some s.now }.driveAsk { kind := 0, purpose := 0 }
  else s

/-- PANEL_REFRESH (R515): a full refresh where the panel is stale or being cleared. -/
def panelCheck (slot : Nat) (s : State) : Option (Nat × Nat) := if 1 < s.opArg slot 0 then some (1, 0x0D) else none

def panelBegin (sess slot : Nat) (s : State) : State :=
  let k := if s.nvs.stale then 1 else s.opArg slot 0
  let bound := (if k = 0 then 400 * msec else 1800 * msec) + if s.nvs.stale then 3200 * msec else 0
  (s.opAccept sess slot 0x0E03 2 bound).driveAsk { kind := k, purpose := 1, slot := some slot }

def panelRefreshStart (sess slot : Nat) (s : State) : State × WRes := s.opStart slot 0x0E03 (panelCheck slot) (panelBegin sess slot)
def panelRefresh (sess slot a0 : Nat) (s : State) : State :=
  if slot < 8 then State.hostWrite (opAddr slot) (fun s => panelRefreshStart sess slot (s.opArgs slot (some a0) none none none)) s else s

/-- An interrupted refresh leaves the panel part-driven (R485, R515). -/
def State.panelStale (s : State) : State := { s.set NVS_EVENTS.PNL_STALE 1 with nvs.stale := true, nvs.drive := none }

/-- A write of NVS_CMD (R504). The refresh that shows SHUTDOWN replaces the automatic one that waits. -/
def nvsCmdWrite (v : Nat) (s : State) : State × WRes :=
  let down := NVS_CMD.SHUTDOWN.ofWord v = 1
  let again := NVS_CMD.RESTART.ofWord v = 1
  if down ∧ again then (s, .refuse 1 0x00)
  else if down ∨ again then
    if down ∧ s.sys.recovery then (s, .refuse 1 0x03)
    else if !(s.ready || s.sys.mode == .quarantine) then (s, .refuse 1 (if s.imaging then 0x0C else if s.sys.mode = .none then 0x05 else 0x03))
    else if s.opBusy ∨ s.pfw then (s, .refuse 1 0x00)
    else ({ s with nvs.restart := again, nvs.driveWait := s.nvs.driveWait.filter (·.purpose ≠ 0) }.driveAsk { kind := 0, purpose := if again then 3 else 2 }, .ok)
  else (s, .ok)

def nvsShutdown (s : State) : State := State.hostWrite 0xE0004 (nvsCmdWrite 1) s
def nvsRestart (s : State) : State := State.hostWrite 0xE0004 (nvsCmdWrite 2) s

/-! ### Programs (R492, R493) -/

/-- A commit record of an operation is durable. -/
def State.commitDone (s : State) (slot : Nat) : State :=
  if !s.opWorks slot then s
  else
    match s.get (OP_CMD.CMD slot) with
    | 0x0401 => s.bindBurn slot
    | 0x0203 => s.slotCommit slot
    | 0x0204 => s.slotErased slot
    | 0x0E01 => s.fwShow.opEnd slot 3
    | 0x0E02 => s.opEnd slot 3
    | 0x0701 | 0x0702 =>
      match s.cal.bankJob with
      | some (k, seq) => (s.bankCommit slot k seq).opEnd slot 3
      | none => s
    | _ => s

/-- A journal record is durable (R493): 512 records fill a block of the ring. -/
def State.recordDone (s : State) (r : JRec) (slot : Option Nat) : State :=
  let s := s.durable r
  let s := if (r.jseq + 511) % 512 = 0 then { s with nv.jfree := s.nv.jfree - 1 } else s
  if r.type = 0x31 then s.panelEnded
  else if r.type = 0x42 ∧ s.nvs.restart ∧ !r.comp then s.restart
  else
    match slot with
    | some k => s.commitDone k
    | none => s

/-- A page of an operation's content is programmed. -/
def State.pageDone (s : State) (slot : Nat) : State :=
  if s.opWorks slot then (s.opMod slot fun x => { x with pages := x.pages - 1 }).writeNext slot else s

/-- A page's program has failed: its block is retired, and its replacement erased and programmed from its first page. -/
def State.pageFailed (s : State) (slot : Nat) : State :=
  if !s.opWorks slot then s
  else
    let x := s.opx slot
    let i := (x.total - x.pages) / 64
    let b := x.first + i
    let r := s.retire { phys := s.phys b, logical := some b, region := regionOf b, slot := some slot } 2
    let s := r.1.opMod slot fun x => { x with pages := x.total - 64 * i }
    match r.2 with
    | some j => s.eraseStart j
    | none => s.storeFail slot

/-- A journal record's program has failed: its block is retired, and the record is programmed at the ring's next erased
page, before those that wait. -/
def State.recordFailed (s : State) (r : JRec) (slot : Option Nat) : State :=
  let b := 208 + (r.jseq - 1) / 512 % 256
  let x := s.retire { phys := s.phys b, logical := some b, region := 5 } 2
  let s := match x.2 with
    | some j => x.1.eraseStart { j with logical := none }
    | none => x.1
  { s with nvs.progs := .journal r slot :: s.nvs.progs }

/-- NAND_PROGRAM_DONE: the oldest program ends. -/
def nandProgramDone (programmed : Bool) (s : State) : State :=
  match s.nvs.progs with
  | [] => s
  | p :: rest =>
    let s := { s with nvs.progs := rest }
    match p, programmed with
    | .journal r k, true => s.recordDone r k
    | .journal r k, false => s.recordFailed r k
    | .page k, true => s.pageDone k
    | .page k, false => s.pageFailed k

/-! ### Compaction (R496) and relocation (R491) -/

/-- The newest record of every key of a list, newest first. -/
def firstBy (key : JRec → List Nat) : List (List Nat) → List JRec → List JRec
  | _, [] => []
  | seen, r :: l => if seen.contains (key r) then firstBy key seen l else r :: firstBy key (key r :: seen) l

/-- The newest record of each key among types. -/
def newestOf (l : List JRec) (types : List Nat) (key : JRec → List Nat) : List JRec :=
  firstBy key [] (l.filter fun r => r.ok && types.contains r.type)

/-- Erase intents without a later ERASE_DONE, of blocks not retired. -/
def openIntents (l : List JRec) (retired : List Nat) : List JRec :=
  (newestOf l [1, 2] fun r => r.payload.take 4).filter fun r => r.type == 1 && !retired.contains (leVal (r.payload.take 4))

/-- The consolidated set: the newest state of every kind, oldest first. -/
def compactSet (l : List JRec) (retired dirty : List Nat) : List (Nat × List Nat) :=
  let of := fun (types : List Nat) (n m : Nat) => newestOf l types fun r => (r.payload.drop n).take m
  let rs := of [0x10] 0 1 ++ of [0x11] 0 0 ++ of [0x20, 0x21] 0 1 ++ of [0x22] 0 0 ++ of [0x23] 0 1 ++ of [0x51] 0 1 ++ of [0x60] 4 4 ++
    of [0x61] 0 4 ++ of [0x50] 0 4 ++ of [0x30] 0 0 ++ of [0x31] 0 0 ++ of [0x80] 0 0 ++ openIntents l retired
  rs.map (fun r => (r.type, r.payload)) ++ dirty.map fun b => (3, leBytes 4 b)

/-- JOURNAL_COMPACTION: CHECKPOINT, the set, a copy of SHUTDOWN while SHUT_OK is 1, then the erases of the oldest blocks. -/
def journalCompaction (s : State) : State :=
  if 16 ≤ s.nv.jfree ∨ s.pfw ∨ !s.on NVS_STATUS.STORE_OK then s
  else
    let l := progRecs s.nvs.progs ++ s.nv.journal
    let shut := l.find? fun r => r.ok && r.type == 0x42
    let ok := s.on NVS_STATUS.SHUT_OK
    let n := s.nvs.progs.length
    let head := (s.nv.jseq - 1) / 512
    let oldest := head + s.nv.jfree + 1
    let old := (List.range (255 - s.nv.jfree)).map fun i => 208 + (oldest + i) % 256
    let s := s.journal 0x81 []
    let s := (compactSet l s.nv.retired s.nv.dirty).foldl (fun (s : State) e => s.journal e.1 e.2) s
    let s := match shut, ok with
      | some r, true => s.journal 0x42 r.payload
      | _, _ => s
    let s := (s.compFrom n).set NVS_EVENTS.COMPACT 1
    old.foldl (fun (s : State) b => s.eraseStart { phys := s.phys b, logical := some b, region := 5 }) s

/-- A block that may be relocated: any but those of FACTORY, the tally log and the spares (R492). -/
def relocatable (v : Nat) : Nat := let i := v % 5024; if i < 128 then 64 + i else 80 + i

/-- BLOCK_RELOCATION: outside RUN, the marked block's content goes to a spare block, and the block is retired. No command
tells which block a read has marked, nor how many sectors it corrected: both are open. -/
def blockRelocation (s : State) : State :=
  if s.sys.run || !s.on NVS_STATUS.STORE_OK then s
  else
    let b := relocatable (Config.freeValue 11 s.free)
    let s := (s.add NVS_ECC_CORR.COUNT (1 + Config.freeValue 12 s.free)).nextFree
    if spareBlocks ≤ s.nv.spareUsed then s.fault 0x0E0C
    else
      let old := s.phys b
      let new := 5104 + s.nv.spareUsed
      let s := { s with nv.spareUsed := s.nv.spareUsed + 1 }
      let s := if spareBlocks < s.nv.spareUsed + 256 then s.fault 0x0E04 else s
      let s := s.eraseStart { phys := new, region := regionOf b }
      let s := s.journal 0x60 (leBytes 2 (regionOf b) ++ [0, 0] ++ leBytes 4 b ++ leBytes 4 new)
      let s := { s with nv.map := setKey b new s.nv.map }.journal 0x61 (leBytes 4 old ++ [5])
      { s.set NVS_EVENTS.RETIRED 1 with nv.retired := old :: s.nv.retired, nv.dirty := s.nv.dirty.filter (· ≠ old) }.fault 0x0E0B

/-! ### Counted changes (R123, R506 to R511) -/

/-- What the registers show of the counted settings. -/
def State.tallyShow (s : State) : State :=
  let s := ((s.set FPL_BIND_LEFT.LEFT (64 - s.tally 1)).set ENG_OVERRIDE_LEFT.LEFT (8 - s.tally 2)).set IMG_GOLDEN.UNLOCKS_LEFT (4 - s.tally 3)
  let s := s.set IMG_ARB_EPOCH.EPOCH s.arbEpoch
  [0, 1, 2, 3].foldl (fun (s : State) i => s.set (ENG_FACILITY_IDi.ID i) (leVal ((s.facility.drop (4 * i)).take 4))) s

/-- The fault of a setting whose last count is consumed (R118, R124, R509). -/
def exhaustFault : Nat → Nat
  | 1 => 0x0407 | 2 => 0x0013 | 3 => 0x0E08 | 4 => 0x0E09 | _ => 0x0E0A

/-- QUAR_OVERRIDE written 1 (R123): in QUARANTINE with OUTCOME 1, which an escalation does not hold (R529). -/
def quarOverrideWrite (sess : Nat) (s : State) : State × WRes :=
  if s.sys.mode ≠ .quarantine then (s, .refuse 1 0x03)
  else if s.img.active.isNone || s.get ENG_COMPAT.OUTCOME != 1 || s.sys.escalated || s.on IMG_STATUS.OVERRIDE then (s, .refuse 1 0x00)
  else s.countedWrite sess 2 (s.comboRequest s.image)

def quarOverride (sess : Nat) (s : State) : State := State.hostWrite 0x148 (quarOverrideWrite sess) s

/-- A spent override ends the quarantine of its combination (R30, R122). -/
def State.overrideTake (s : State) : State :=
  let s := s.decideCompat
  if s.sys.mode = .quarantine ∧ !s.sys.escalated then s.setMode s.outcomeMode else s

/-- What a burnt cell changes. `prev` is the serial that a binding replaces. -/
def State.burnEffect (s : State) (b : BurnS) (prev : Nat) : State :=
  match b.setting, b.slot with
  | 1, some k => s.bindCommit k prev
  | 2, _ => s.overrideTake
  | 3, _ => { s.set IMG_GOLDEN.LOCKED 0 with img.unlocked := true, img.unlockOp := none }
  | 4, some k => (s.results k 0 [0, s.arbEpoch]).opEnd k 3
  | 5, some k => (s.result k 0 0).opEnd k 3
  | _, _ => s

/-- The CT register of a setting. -/
def ctAddr : Nat → Nat
  | 2 => 0x148 | _ => 0x20028

/-- A burn that has failed: the operation ends FAILED, or the write is refused. R114 gives TILE_BIND no reason for it. -/
def State.burnFailed (s : State) (b : BurnS) (prev : Nat) : State :=
  let s := (s.set NVS_EVENTS.BURN_FAIL 1).fault 0x0E07 b.setting
  match b.slot, b.setting with
  | none, _ => s.noteRefuse 5 (ctAddr b.setting) 1 0
  | some k, 1 => ((s.bindResult k (Config.freeValue 10 s.free) prev).opEnd k 4).nextFree
  | some k, 4 => (s.results k 0 [7, s.arbEpoch]).opEnd k 4
  | some k, _ => (s.result k 0 7).opEnd k 4

/-- TALLY_BURN_DONE (R506): DONE and the change, or VOID. -/
def tallyBurnDone (burnt : Bool) (s : State) : State :=
  match s.nvs.burn with
  | none => s
  | some b =>
    let prev := (s.boundAt (nth 0 b.request 0)).getD 0
    let s := { s with nvs.burn := none }
    let s :=
      if burnt then
        let s := (({ s with nv.cells := s.nv.cells ||| 2 ^ b.cell }.tallyLog 2 b).tokenSpent b.session).tallyShow
        let s := s.burnEffect b prev
        if b.count = tallyTotal b.setting then s.fault (exhaustFault b.setting) else s
      else (s.tallyLog 3 b).burnFailed b prev
    s.burnResume

/-- A copy of the firmware, and the active image, hold an epoch below a new one (R510). -/
def State.epochBlocked (s : State) (new : Nat) : Bool :=
  let low := fun (c : Nat) => let f := nth ({} : FwCopy) s.nv.fw c; f.state == 1 && decide (f.desc.arb < new)
  decide (s.bring.fw.arb < new) || low (1 - s.get NVS_STATUS.FW_COPY) || (s.img.active.isSome && decide (hdrArb s.image < new))

/-- R88: slot 0 holds no VALID image of the new epoch, or a load or slot write is in progress; IMG_VERIFY is neither. -/
def State.goldenBlocks (s : State) (new : Nat) : Bool :=
  s.get (IMG_SLOTn_STATUS.STATE 0) != 1 || decide (hdrArb (s.slotNv 0).content.file < new) || s.img.loads.any (·.purpose != 1) ||
    (s.slotOf 0x0203).isSome

/-- The refusals of ARB_EPOCH_INC (R509, R510). -/
def arbCheck (sess slot : Nat) (s : State) : Option (Nat × Nat) :=
  let new := s.opArg slot 0
  match s.countedRefusal sess 4 [new] with
  | some r => some r
  | none => if new ≠ s.arbEpoch + 1 ∨ s.goldenBlocks new ∨ s.epochBlocked new then some (1, 0x00) else none

def arbBegin (sess slot : Nat) (s : State) : State :=
  let new := s.opArg slot 0
  let k := ((s.tokenFor sess 4 [new]).map (·.keyId)).getD 0
  (s.opAccept sess slot 0x0E04 2 (10 * msec)).counted 4 sess k [new] (some slot)

def arbEpochIncStart (sess slot : Nat) (s : State) : State × WRes := s.opStart slot 0x0E04 (arbCheck sess slot) (arbBegin sess slot)
def arbEpochInc (sess slot a0 : Nat) (s : State) : State :=
  if slot < 8 then State.hostWrite (opAddr slot) (fun s => arbEpochIncStart sess slot (s.opArgs slot (some a0) none none none)) s else s

/-- The identity that FACILITY_WRITE names. -/
def State.facArg (s : State) (slot : Nat) : List Nat := [0, 1, 2, 3].flatMap fun i => leBytes 4 (s.opArg slot i)

/-- The refusals of FACILITY_WRITE (R509, R511). -/
def facCheck (sess slot : Nat) (s : State) : Option (Nat × Nat) :=
  let new := s.facArg slot
  match s.countedRefusal sess 5 new with
  | some r => some r
  | none =>
    if s.img.active.isSome && !allZero (hdrFacility s.image) && hdrFacility s.image != new then some (1, 0x00) else none

def facBegin (sess slot : Nat) (s : State) : State :=
  let new := s.facArg slot
  let k := ((s.tokenFor sess 5 new).map (·.keyId)).getD 0
  (s.opAccept sess slot 0x0E05 2 (10 * msec)).counted 5 sess k new (some slot)

def facilityWriteStart (sess slot : Nat) (s : State) : State × WRes := s.opStart slot 0x0E05 (facCheck sess slot) (facBegin sess slot)
def facilityWrite (sess slot a0 a1 a2 a3 : Nat) (s : State) : State :=
  if slot < 8 then
    State.hostWrite (opAddr slot) (fun s => facilityWriteStart sess slot (s.opArgs slot (some a0) (some a1) (some a2) (some a3))) s
  else s

/-! ### The commands -/

def execSlotWriteReadbackDone (t : Nat) (same : Bool) (s : State) : Host.Outcome State Fault Refusal :=
  .next (slotWriteReadbackDone same (s.at t))
def execQuarOverride (t sess : Nat) (s : State) : Host.Outcome State Fault Refusal := .next (quarOverride sess (s.at t))
def execNvsShutdown (t : Nat) (s : State) : Host.Outcome State Fault Refusal := .next (nvsShutdown (s.at t))
def execNvsRestart (t : Nat) (s : State) : Host.Outcome State Fault Refusal := .next (nvsRestart (s.at t))
def execFwWrite (t sess slot : Nat) (s : State) : Host.Outcome State Fault Refusal := .next (fwWrite sess slot (s.at t))
def execStoreScrub (t sess slot : Nat) (s : State) : Host.Outcome State Fault Refusal := .next (storeScrub sess slot (s.at t))
def execPanelRefresh (t sess slot arg0 : Nat) (s : State) : Host.Outcome State Fault Refusal := .next (panelRefresh sess slot arg0 (s.at t))
def execArbEpochInc (t sess slot arg0 : Nat) (s : State) : Host.Outcome State Fault Refusal := .next (arbEpochInc sess slot arg0 (s.at t))
def execFacilityWrite (t sess slot arg0 arg1 arg2 arg3 : Nat) (s : State) : Host.Outcome State Fault Refusal :=
  .next (facilityWrite sess slot arg0 arg1 arg2 arg3 (s.at t))
def execNandEraseDone (t : Nat) (erased blank : Bool) (s : State) : Host.Outcome State Fault Refusal :=
  .next (nandEraseDone erased blank (s.at t))
def execNandProgramDone (t : Nat) (programmed : Bool) (s : State) : Host.Outcome State Fault Refusal :=
  .next (nandProgramDone programmed (s.at t))
def execBlockRelocation (t : Nat) (s : State) : Host.Outcome State Fault Refusal := .next (blockRelocation (s.at t))
def execJournalCompaction (t : Nat) (s : State) : Host.Outcome State Fault Refusal := .next (journalCompaction (s.at t))
def execPanelAutoRefresh (t : Nat) (s : State) : Host.Outcome State Fault Refusal := .next (panelAutoRefresh (s.at t))
def execPanelDriveDone (t : Nat) (s : State) : Host.Outcome State Fault Refusal := .next (panelDriveDone (s.at t))

end Sys2Proof.Machine
end

