-- ==== Sys2Proof/Machine/Abort.lean ====
section
/-!
DEFINITION. Aborts and final states of operations (R482, R485), escalation (R527, R528) and acknowledgement (R522).
-/
namespace Sys2Proof.Machine

/-! ### Abort (R485) -/

/-- The commit step of a slot's operation has begun: its record is queued or programmed. Whether a burn has begun behind its
INTENT is what the arbiter's grant says. -/
def State.commitBegun (s : State) (slot : Nat) : Bool :=
  (s.opx slot).commit || s.nvs.progs.any fun p => match p with | .journal _ k => k == some slot | .page _ => false

/-- The counted change of a slot's operation is given up before its burn: an INTENT written gets its VOID (R506). -/
def State.burnDrop (s : State) (slot : Nat) : State :=
  let mine := fun (b : BurnS) => b.slot == some slot
  let s := ((s.nvs.burn.toList ++ s.nvs.burnWait).filter fun b => mine b && b.intent).foldl (fun (s : State) b => s.tallyLog 3 b) s
  { s with nvs.burnWait := s.nvs.burnWait.filter fun b => !mine b, nvs.burn := s.nvs.burn.filter fun b => !mine b }.burnResume

/-- What an operation has done is rolled back (R485); SOL_RUN decides its own outcome (R372). PANEL_REFRESH cut in its driving, or in
the clearing cycle that it runs first, leaves the panel stale (R515). -/
def State.rollback (s : State) (slot : Nat) (cuts : List SolCut) : State :=
  match s.get (OP_CMD.CMD slot) with
  | 0x0201 => s.loadDrop slot
  | 0x0202 =>
    let src := (s.loadOf slot).elim 0 (·.src)
    ((s.loadDrop slot).set IMG_STATUS.LOADING 0 |>.lastLoad 0 src 0 3).loadUnask
  | 0x0203 => (s.loadDrop slot).writeDrop slot
  | 0x0401 => (s.burnDrop slot).writeDrop slot
  | 0x0701 => s.charAbort slot
  | 0x0702 => s.charAbort slot
  | 0x0901 => s.solAbort slot cuts
  | 0x0E03 =>
    let mine := fun (d : DriveJ) => d.slot == some slot
    let clearing := s.nvs.drive.any (·.kind == 2) && s.nvs.driveWait.head?.any mine
    let driving := s.nvs.drive.any mine || clearing
    let s := { s with nvs.driveWait := s.nvs.driveWait.filter fun d => !mine d }
    if driving then s.panelStale else s
  | 0x0E04 => s.burnDrop slot
  | 0x0E05 => s.burnDrop slot
  | _ => s.writeDrop slot

/-- An abort that the arbiter grants. -/
def State.abortWins (s : State) (slot : Nat) (cuts : List SolCut) : State := (s.rollback slot cuts).opEnd slot 5

/-- An abort reaches a slot that is QUEUED or RUNNING; `abortFirst` is what the arbiter grants where the commit step has not
begun. -/
def State.abortSlot (s : State) (slot : Nat) (abortFirst : Bool) (cuts : List SolCut) : State :=
  let s := s.set (OP_STATUS.ABORT_REQ slot) 1
  let verify := s.get (OP_CMD.CMD slot) == 0x0201
  if s.get (OP_STATUS.STATE slot) = 1 then (s.rollback slot cuts).opFinal slot 5
  else
    match (s.opx slot).outcome with
    | some 3 => if verify then s.opEnd slot 5 else s.opMod slot fun x => { x with late := true }
    | some _ => s
    | none =>
      if verify then s.abortWins slot cuts
      else if s.commitBegun slot || !abortFirst then s.opMod slot fun x => { x with late := true }
      else s.abortWins slot cuts

/-- A write of OP_CTRL: refused for a slot that is not live; a second request has no further effect. -/
def opCtrlWrite (slot v : Nat) (abortFirst : Bool) (cuts : List SolCut) (s : State) : State × WRes :=
  if (OP_CTRL.ABORT slot).ofWord v = 0 then (s, .ok)
  else if !s.slotLive slot then (s, .refuse 1 0x11)
  else if s.on (OP_STATUS.ABORT_REQ slot) then (s, .ok)
  else (s.abortSlot slot abortFirst cuts, .ok)

def opAbort (slot : Nat) (abortFirst : Bool) (cuts : List SolCut) (s : State) : State :=
  if slot < 8 then State.hostWrite (0xD0118 + 0x100 * slot) (opCtrlWrite slot (2 ^ (OP_CTRL.ABORT slot).lsb) abortFirst cuts) s else s

/-! ### Final states (R482) -/

/-- SERVICE or CHARACTERISE is left when its operation ends (R30, R122, R487). -/
def State.opLeave (s : State) (cmd : Nat) : State :=
  match cmd with
  | 0x0202 => if s.img.loads.any (·.purpose == 4) then s else s.loadLeave
  | 0x0701 => if s.sys.mode = .characterise then s.setMode s.imageMode else s
  | 0x0E01 | 0x0E02 => if s.sys.mode = .service then let s := s.decideCompat; s.setMode s.backMode else s
  | _ => s

/-- The golden slot's lock returns when the operation that used the unlock ends (R86). -/
def State.goldenLock (s : State) (slot : Nat) : State :=
  if s.img.unlockOp = some slot then { s.setb IMG_GOLDEN.LOCKED (!s.img.unlocked) with img.unlockOp := none } else s

/-- OP_FINAL_STATE (R482): the outcome decided becomes final; an erase in progress completes first (R485). -/
def opFinalState (slot : Nat) (s : State) : State :=
  if 8 ≤ slot ∨ !s.slotLive slot ∨ (s.nvs.erasing.any fun j => j.slot == some slot) then s
  else
    match (s.opx slot).outcome with
    | none => s
    | some o =>
      let cmd := s.get (OP_CMD.CMD slot)
      let s := (s.opFinal slot o).goldenLock slot
      let s := if cmd = 0x0203 then s.set (IMG_SLOTn_STATUS.WRITING (s.opArg slot 0)) 0 else s
      s.opLeave cmd

/-! ### Escalation (R527, R528) -/

/-- Operations that QUARANTINE does not accept end as by an abort; the arbiter's grant is open. -/
def State.escEnds (s : State) : State :=
  (List.range 8).foldl (fun (s : State) k =>
    if s.slotLive k && (s.get (OP_CMD.CMD k) == 0x0701 || s.get (OP_CMD.CMD k) == 0x0702) then
      (s.abortSlot k (Config.freeBool 2 s.free) []).nextFree
    else s) s

/-- A fault escalates. Where one escalation stands, no second takes place. -/
def State.escalate (s : State) (code : Nat) : State :=
  if s.sys.escalated then s
  else
    let s := s.fault 0x0F01
    let s := ((s.set ALM_ESC_CAUSE.CODE code).set ALM_ESC_CAUSE.INST noInst).set ALM_ESC_MS.MS s.ms
    let s := (s.inc ALM_ESC_COUNT.COUNT).set ALM_EVENTS.ESCALATED 1
    let s := { s with sys.escalated := true,
                      alm.active := s.alm.active.map fun (e : AlmEnt) => if e.code = code then { e with esc := true } else e }
    let s := if s.imaging || s.sys.mode == .characterise then s.modeAtOnce .quarantine else s
    s.escEnds

/-- ESCALATION_TIMER (R527): 0x0104 active for 60 s, 0x0B05 for 10 s. -/
def escalationTimer (code : Nat) (s : State) : State :=
  let due := fun (since : Option Nat) (n : Nat) => since.any fun t => decide (t + n * sec ≤ s.now)
  if code = 0x0104 ∧ due s.alm.heatSince 60 ∧ !s.alm.escHeat then { s with alm.escHeat := true }.escalate 0x0104
  else if code = 0x0B05 ∧ due s.alm.coreSince 10 ∧ !s.alm.escCore then { s with alm.escCore := true }.escalate 0x0B05
  else s

/-- MON_ENTRY_COMPLETE (R408), and a DIE value that reaches 120 °C (R527). -/
def monEntryComplete (codes : List Nat) (s : State) : State :=
  let s := { s with mon.dieTop := false }.entryComplete codes
  if s.mon.dieTop && s.alm.heatSince.isSome && !s.alm.escHeat then { s with alm.escHeat := true }.escalate 0x0104 else s

/-! ### Acknowledgement (R522) -/

/-- A write of ALM_ACK. -/
def almAckWrite (v : Nat) (s : State) : State × WRes :=
  let code := ALM_ACK.CODE.ofWord v
  let inst := ALM_ACK.INST.ofWord v
  if ALM_ACK.ALL.ofWord v = 1 then
    ((s.alm.active.filter fun e => ackable e.code).foldl (fun (s : State) e => s.unfault e.code e.inst) s, .ok)
  else if !s.isActive code inst then (s, .ok)
  else if ackable code then (s.unfault code inst, .ok)
  else (s, .refuse 1 0x00)

def almAck (v : Nat) (s : State) : State := State.hostWrite 0xF0004 (almAckWrite v) s

def execOpAbort (t slot : Nat) (abortFirst : Bool) (cuts : List SolCut) (s : State) : Host.Outcome State Fault Refusal :=
  .next (opAbort slot abortFirst cuts (s.at t))
def execOpFinalState (t slot : Nat) (s : State) : Host.Outcome State Fault Refusal := .next (opFinalState slot (s.at t))
def execEscalationTimer (t code : Nat) (s : State) : Host.Outcome State Fault Refusal := .next (escalationTimer code (s.at t))
def execMonEntryComplete (t : Nat) (codes : List Nat) (s : State) : Host.Outcome State Fault Refusal :=
  .next (monEntryComplete codes (s.at t))
def execAlmAck (t v : Nat) (s : State) : Host.Outcome State Fault Refusal := .next (almAck v (s.at t))

end Sys2Proof.Machine
end

