-- ==== Sys2Proof/Machine/Ref.lean ====
section
/-!
DEFINITION. The delay-locked line (R46, R47).
-/
namespace Sys2Proof.Machine

/-! ### The delay-locked line (R46, R47) -/

/-- The line has locked: the phases run again, from the idle program (R47, R167). -/
def State.dllUp (s : State) : State :=
  if s.on GOV_REF_STATUS.DLL_LOCK then s
  else { s.set GOV_REF_STATUS.DLL_LOCK 1 with alm.dllSince := s.now, fpl.frozen := none }.unfault 0x0101 |>.idleStart

/-- DLL_LOCK: stage 2 of start-up ends with the first lock, and the monitor converter's self-calibration begins (R106). -/
def dllLock (s : State) : State :=
  if s.sys.stages = [] ∨ s.on GOV_REF_STATUS.DLL_LOCK ∨ 2 ≤ s.get PWR_STATUS.STATE then s
  else
    let s := s.dllUp
    if s.sys.stages.contains 2 then s else (s.stageEnded 2).selfCal

/-- Frames and raw lines whose read track has not ended are dropped whole; those of an average leave it. -/
def State.flightCut (s : State) : State :=
  let cut := s.fpl.frames.filter (·.lastSample.isNone)
  let s := (cut.map (·.no)).foldl (fun (s : State) no => s.bbCut no) s
  { s with
    cal.avg := { s.cal.avg with taken := s.cal.avg.taken - (cut.filter fun r => r.avg.isSome && r.drop == .kept).length }
    fpl.frames := s.fpl.frames.filter (·.lastSample.isSome)
    swp.rows := s.swp.rows.filter (·.lastSample.isSome)
    swp.reqs := [] }

/-- The run, or an accepted run command, ends at once. -/
def State.runStopNow (s : State) : State := if s.sys.run then s.runOver else if s.sys.runAt.isSome then s.runCancel else s

/-- DLL_LOSS_OF_LOCK (R47, R527): the phases stop, the frame in flight is dropped, RUN ends; the third raise within 60 s escalates.
In stage 2 of start-up it is the failure of that stage: 0x0101 stands until the line locks (R106). -/
def dllLossOfLock (s : State) : State :=
  if !s.on GOV_REF_STATUS.DLL_LOCK then
    if s.sys.stages.contains 1 && !s.sys.stages.contains 2 then s.level true 0x0101 else s
  else
    let s := (s.phasesStop.set GOV_REF_STATUS.DLL_LOCK 0).set GOV_EVENTS.DLL_UNLOCK 1
    let s := (s.flightCut.runStopNow.idleCut.set FPL_PG_STATUS.READ_RUN 0).fault 0x0101
    let times := s.now :: s.alm.dllTimes.filter fun t => s.now ≤ t + 60 * sec
    let s := { s with alm.dllTimes := times, fpl.lastB := none }
    if 3 ≤ times.length then { s with alm.escDll := true }.escalate 0x0101 else s

def execDllLock (t : Nat) (s : State) : Host.Outcome State Fault Refusal := .next (dllLock (s.at t))
def execDllLossOfLock (t : Nat) (s : State) : Host.Outcome State Fault Refusal := .next (dllLossOfLock (s.at t))

end Sys2Proof.Machine
end

