-- ==== Sys2Proof/Machine/Mgmt.lean ====
section
/-!
DEFINITION. The management port's address (R464), and the life of a session (R474, R475).
-/
namespace Sys2Proof.Machine

/-! ### Sessions -/

/-- ENG_SESSIONS follows the sessions held. -/
def State.sessShow (s : State) : State :=
  (s.set ENG_SESSIONS.COUNT s.tmp.sessions.length).setb ENG_SESSIONS.CUST (s.tmp.sessions.any (·.role == 2))

/-- A session closes; its pending token goes with it (R475). -/
def State.sessClose (s : State) (no : Nat) : State :=
  { s with tmp.sessions := s.tmp.sessions.filter (·.no != no) }.sessShow

/-- Every session closes. -/
def State.sessCloseAll (s : State) : State := { s with tmp.sessions := [] }.sessShow

/-- SESSION_TIMEOUT (R475). -/
def sessionTimeout (no : Nat) (s : State) : State :=
  match s.tmp.sessions.find? (·.no == no) with
  | some e => if e.last + sec * s.get ENG_SESSION_TIMEOUT.S ≤ s.now then s.sessClose no else s
  | none => s

/-! ### The address in use (R464) -/

/-- The stored setting of an ENG_MGMT register that this start-up took. -/
def State.bootCfg (s : State) (addr : Nat) : Nat := ((s.tmp.bootCfg.find? (·.1 == addr)).map (·.2)).getD 0

/-- The address in use; a change closes every session. -/
def State.mgmtAddr (s : State) (ip src : Nat) : State :=
  let s := if ip = s.get ENG_MGMT_ACTIVE_IP.ADDR then s else s.sessCloseAll
  (s.set ENG_MGMT_ACTIVE_IP.ADDR ip).set ENG_MGMT_STATE.SRC src

/-- The stored address. -/
def State.mgmtStatic (s : State) : State := s.mgmtAddr (s.bootCfg 0x44) 1

/-- The DHCP client runs. -/
def State.dhcpOn (s : State) : Bool := s.bootCfg 0x40 == 1

/-- The address settings of a start-up take effect. -/
def State.mgmtBoot (s : State) : State :=
  let s := { s with tmp.bootCfg := [(0x40, s.get ENG_MGMT_CTRL.DHCP_EN), (0x44, s.get ENG_MGMT_IP.ADDR), (0x48, s.get ENG_MGMT_PREFIX.LEN),
                                    (0x4C, s.get ENG_MGMT_GW.ADDR)] }
  if s.dhcpOn then s else s.mgmtStatic

/-- A message of the DHCP client leaves. -/
def State.dhcpAsk (s : State) (ip : Nat) : State := { s.emit (.mgmt "DHCP" ip) with tmp.asked := some s.now }

/-- MANAGEMENT_LINK_UP: the 30 s of R464 begin. -/
def managementLinkUp (s : State) : State :=
  let s := { s.set ENG_MGMT_STATE.LINK 1 with tmp.linkAt := some s.now }
  if s.dhcpOn then s.dhcpAsk 0 else s

/-- MANAGEMENT_LINK_DOWN; the address in use stays. -/
def managementLinkDown (s : State) : State := { s.set ENG_MGMT_STATE.LINK 0 with tmp.linkAt := none }

/-- DHCP_REPLY: a lease given or renewed. -/
def dhcpReply (ip seconds : Nat) (s : State) : State :=
  if s.dhcpOn then { s with tmp.lease := some (ip, seconds, s.now), tmp.asked := none }.mgmtAddr ip 2 else s

/-- DHCP_TIMER: a renewal at half the lease time, a lease run out, the fallback 30 s after the link came up, or a retry, 60 s after
the message before it. -/
def dhcpTimer (s : State) : State :=
  if !s.dhcpOn then s
  else
    let again := s.tmp.asked.all fun t => decide (t + 60 * sec ≤ s.now)
    let held : Option Nat := match s.tmp.lease with
      | some (ip, n, at_) => if at_ + n * sec ≤ s.now then none else some ip
      | none => none
    match held with
    | some ip =>
      match s.tmp.lease with
      | some (_, n, at_) => if 2 * at_ + n * sec ≤ 2 * s.now ∧ again then s.dhcpAsk ip else s
      | none => s
    | none =>
      let s := { s with tmp.lease := none }
      if s.tmp.linkAt.any fun t => decide (t + 30 * sec ≤ s.now) then (if again then s.mgmtStatic.dhcpAsk 0 else s.mgmtStatic) else s

def execManagementLinkUp (t : Nat) (s : State) : Host.Outcome State Fault Refusal := .next (managementLinkUp (s.at t))
def execManagementLinkDown (t : Nat) (s : State) : Host.Outcome State Fault Refusal := .next (managementLinkDown (s.at t))
def execDhcpReply (t ip seconds : Nat) (s : State) : Host.Outcome State Fault Refusal := .next (dhcpReply ip seconds (s.at t))
def execDhcpTimer (t : Nat) (s : State) : Host.Outcome State Fault Refusal := .next (dhcpTimer (s.at t))
def execSessionTimeout (t sess : Nat) (s : State) : Host.Outcome State Fault Refusal := .next (sessionTimeout sess (s.at t))

end Sys2Proof.Machine
end

