-- ==== Sys2Proof/Machine/Bring.lean ====
section
/-!
DEFINITION. Start-up (R106, R107): reset, the warden's firmware (R502), the store stage (R495, R498, R508, R516), bring-in and
the mode; thermal settling (R128).
-/
namespace Sys2Proof.Machine

/-! ### Reset release -/

/-- RESET_RELEASE (R106 stage 1): the REFTICK count starts at 0, on the on-module oscillator. -/
def resetRelease (s : State) : State :=
  if !s.pwr.unit ∨ s.sys.stages ≠ [] then s
  else { s.zeroTime.set NVS_BOOT_COUNT.COUNT s.bootNo with sys.stages := [1] }

/-- The faults that waited for the warden are raised as it resumes (R525); 0x0104 is active from then on. -/
def State.wakeFaults (s : State) : State :=
  let s : State := if s.pwr.asleep.contains (0x0104, noInst) then { s with alm.heatSince := some (s.alm.heatSince.getD s.now) } else s
  s.pwr.asleep.foldl (fun (s : State) (p : Nat × Nat) => s.fault p.1 p.2) { s with pwr.asleep := [] }

/-- The conditions of the power unit and the comparator that hold still, to be raised afresh (R525). -/
def State.powerFaults (s : State) : List (Nat × Nat) :=
  (if s.pfw then [(0x0301, noInst)] else []) ++ (if s.on MON_STATUS.OT_COMP then [(0x0104, noInst)] else []) ++
    (if s.get PWR_STATUS.SOURCE = 2 ∧ s.pwr.acUsed then [(0x0306, noInst)] else [])

/-- A full start-up from stage 3 (R145, R149): neither the REFTICK count nor T is reset; `ref` keeps the reference's state. What the
descent discarded stays counted; the solver window and the staging area stay where DRAM did (R347). STATE reads Pearl until
White is reached (DESIGN CHOICE, log entry 516). -/
def State.startAgain (s : State) (ref : Bool) : State :=
  let c := s.coldState
  let keep := fun (c : State) (f : Fld) => c.set f (s.get f)
  let c := if ref then
      [GOV_REF_STATUS.SRC, GOV_REF_STATUS.EXT_VALID, GOV_REF_STATUS.QUALIFIED, GOV_REF_STATUS.EXT_SEEN].foldl keep c
    else c
  let c := [PWR_DISCARD_COUNT.COUNT, PWR_EVENTS.PFW_RAISED, PWR_EVENTS.PFW_CLEARED, PWR_EVENTS.SRC_SWITCH, PWR_EVENTS.WAKE_TRIG,
    PWR_EVENTS.DISCARD, PWR_EVENTS.ASCENT_DEFERRED, MON_STATUS.OT_COMP].foldl keep c
  let c := if s.pwr.dramLost then c else { c with sol.win := s.sol.win, img.staging := s.img.staging }
  let waiting := s.powerFaults ++ s.pwr.asleep.filter fun p => !s.powerFaults.contains p
  let c := { c with sys.stages := [1, 2], fil.tBase := s.fil.tBase, fil.tAt := s.fil.tAt, fil.rate := s.fil.rate,
                    gov.gates := if ref then s.gov.gates else 0, tmp.used := s.tmp.used,
                    pwr.rebuild := some (s.pwr.ascentAt.getD (s.wall, s.get PWR_STATUS.STATE)), pwr.asleep := waiting }
  ((((c.set NVS_BOOT_COUNT.COUNT c.bootNo).set PWR_STATUS.STATE 1).set PWR_STATUS.MOVING 1).dllUp).selfCal

/-- The start-up of a return from Slate or Black has come to White (R139): PWR_LAST_EXIT reports the ascent. -/
def State.whiteAgain (s : State) : State :=
  match s.pwr.rebuild with
  | some (t, k) =>
    let s := { (s.set PWR_STATUS.STATE 0).set PWR_STATUS.MOVING 0 with pwr.rebuild := none }
    (s.set PWR_LAST_EXIT.US ((s.wall - t) / us)).set PWR_LAST_EXIT.FROM k
  | none => s

/-! ### Stage 3 (R502) -/

/-- The registers stored on write, with the fields that they hold (R494). -/
def storedFields : List (Nat × Fld) :=
  [(0x20020, IMG_PRIMARY.SLOT), (0x38, ENG_ACL_ADDR.ADDR), (0x3C, ENG_ACL_PREFIX.LEN), (0x40, ENG_MGMT_CTRL.DHCP_EN), (0x44, ENG_MGMT_IP.ADDR),
   (0x48, ENG_MGMT_PREFIX.LEN), (0x4C, ENG_MGMT_GW.ADDR), (0x30018, PWR_DIP_COUNT.COUNT), (0x3001C, PWR_FAIL_COUNT.COUNT)]

/-- The newest CONFIG record of every stored register, those that wait to be programmed among them. -/
def State.configReplay (s : State) : State :=
  let rs := newestOf (progRecs s.nvs.progs ++ s.nv.journal) [0x50] fun r => r.payload.take 4
  rs.foldl (fun (s : State) r =>
    match storedFields.find? fun e => leBytes 4 e.1 == r.payload.take 4 with
    | some e => s.set e.2 (leVal (r.payload.drop 4))
    | none => s) s

/-- The firmware that runs, and the registers that show it. -/
def State.fwRuns (s : State) (copy : Nat) (fw : FwDesc) : State :=
  let s := { (s.set NVS_STATUS.FW_COPY copy).set ENG_ID_FIRMWARE.VER fw.version with bring.fw := fw }
  let s := (s.set ENG_CUST_KEYS.KEYS fw.custKeys.length).set ENG_CUST_KEYS.REVOKED (fw.custKeys.filter (·.revoked)).length
  let s := [0, 1, 2].foldl (fun (s : State) i =>
    let d := nth ((0, 0) : Nat × Nat) fw.iface i
    (s.set (ENG_IFACE_FW_i.EPOCH i) d.1).set (ENG_IFACE_FW_i.OLDEST i) d.2) s
  (s.set ENG_COMPAT_TABLE.ENTRIES fw.compat.length).fwShow

/-- The recovery loader takes over (R502). -/
def State.loaderStart (s : State) : State :=
  let s := s.wakeFaults.whiteAgain
  let s := { s.set NVS_STATUS.RECOVERY 1 with sys.recovery := true, sys.mode := .quarantine }.fault 0x0E02
  (s.configReplay.mgmtBoot).fwShow

/-- WARDEN_FW_CHECK_DONE: the primary copy is read first, then the other one; `accepted` says that its frame CRCs and its
signature are correct, `fw` what it holds. -/
def wardenFwCheckDone (accepted : Bool) (fw : FwDesc) (s : State) : State :=
  if !s.sys.stages.contains 2 || s.sys.stages.contains 3 || s.sys.recovery then s
  else
    let second := s.on NVS_STATUS.FW_FALLBACK
    let c := if second then 1 - s.fwPrimary else s.fwPrimary
    let ok := accepted && decide (s.arbEpoch ≤ fw.arb)
    let old := nth ({} : FwCopy) s.nv.fw c
    let s := s.fwPut c { old with state := if ok then 1 else 2, desc := fw }
    if ok then (((s.fwRuns c fw).configReplay).mgmtBoot.wakeFaults).stageEnded 3
    else if second then s.loaderStart
    else (s.set NVS_STATUS.FW_FALLBACK 1).fault 0x0E01

/-! ### Stage 5: the tally (R508) -/

/-- Whether a setting's burnt cells are contiguous from its first. -/
def tallyWhole (cells setting : Nat) : Bool :=
  let f := tallyField setting
  (List.range (tallyCount cells setting)).all fun i => bit cells (f.1 + i) == 1

/-- An INTENT of a list (newest first) that no DONE or VOID closes: the newest record of its cell. -/
def openTally (l : List TRec) : List TRec :=
  ((List.range 333).filterMap fun c => l.find? fun r => r.cell == c).filter (·.kind == 1)

/-- A tally record appended to both copies. -/
def State.tallyPut (s : State) (r : TRec) : State := { s with nv.tlog0 := r :: s.nv.tlog0, nv.tlog1 := r :: s.nv.tlog1 }

/-- An open INTENT closed: DONE where its cell is burnt, for a binding with the table that its TABLE record names; else VOID. -/
def State.tallyClose (s : State) (r : TRec) : State :=
  let done := bit s.nv.cells r.cell == 1
  let s := s.tallyPut { r with kind := if done then 2 else 3, boot := s.get NVS_BOOT_COUNT.COUNT, ms := s.ms }
  if done && r.setting == 1 then
    let pos := nth 0xFF r.request 0
    match s.nv.journal.find? fun j => j.ok && j.type == 0x23 && j.payload.take 1 == [pos] with
    | some j => s.tableTake pos (nth 0 j.payload 1)
    | none => s
  else s

/-- TALLY_RECONCILE (R508). -/
def State.reconcile (s : State) : State :=
  let gaps := [1, 2, 3, 4, 5].filter fun k => !tallyWhole s.nv.cells k
  let s := gaps.foldl (fun (s : State) k => s.fault 0x0E05 k) s
  let only1 := s.nv.tlog1.filter fun r => !s.nv.tlog0.contains r
  let mend := s.nv.tlog0 != s.nv.tlog1
  let s := if mend then { s with nv.tlog0 := only1 ++ s.nv.tlog0, nv.tlog1 := only1 ++ s.nv.tlog0 }.fault 0x0E0E else s
  let opens := openTally s.nv.tlog0
  let s := opens.foldl (fun (s : State) r => s.tallyClose r) s
  let bare := [1, 2, 3, 4, 5].filter fun k =>
    (List.range (tallyTotal k)).any fun i =>
      let c := (tallyField k).1 + i
      bit s.nv.cells c == 1 && !s.nv.tlog0.any fun r => r.cell == c && r.kind == 2
  let s := bare.foldl (fun (s : State) k => s.fault 0x0E06 k) s
  if gaps ≠ [] ∨ mend ∨ opens ≠ [] ∨ bare ≠ [] then s.set NVS_EVENTS.TALLY_REPAIR 1 else s

/-! ### Stage 5: the journal (R495, R498, R499, R504, R516) -/

/-- A torn record at the write point is ignored; other records whose CRC fails are counted. -/
def State.journalScan (s : State) : State :=
  let j := match s.nv.journal with
    | r :: l => if r.ok then r :: l else l
    | [] => []
  let bad := (j.filter fun r => !r.ok).length
  let s : State := { s with nv.journal := j }
  let s := (s.set NVS_JRNL_BAD.COUNT bad).showShut
  if bad ≠ 0 then s.fault 0x0E03 else s

/-- The block map, the retired and the dirty blocks that the journal holds. -/
def State.blockReplay (s : State) : State :=
  let j := s.nv.journal
  let map := (newestOf j [0x60] fun r => (r.payload.drop 4).take 4).map fun r => (leVal ((r.payload.drop 4).take 4), leVal ((r.payload.drop 8).take 4))
  let ret := (newestOf j [0x61] fun r => r.payload.take 4).map fun r => leVal (r.payload.take 4)
  let used := (map.map (·.2) ++ ret).foldl (fun (a : Nat) b => if 5104 ≤ b then max a (b - 5103) else a) 0
  let dirty := j.reverse.foldl (fun (d : List Nat) r =>
    let b := leVal (r.payload.take 4)
    if !r.ok then d
    else if r.type = 3 then b :: d.filter (· ≠ b)
    else if r.type = 2 then d.filter (· ≠ b)
    else if r.type = 4 then
      let named := (List.range (leVal (r.payload.take 2))).map fun i => leVal ((r.payload.drop (4 + 4 * i)).take 4)
      d.filter fun x => !named.contains x
    else d) []
  { s with nv.map := map, nv.retired := ret, nv.spareUsed := max used s.nv.spareUsed, nv.dirty := dirty.filter fun b => !ret.contains b }

/-- Blocks with an ERASE_INTENT and no later ERASE_DONE are erased again (R498); one at its limit is replaced (R492). -/
def State.reerase (s : State) : State :=
  (openIntents s.nv.journal s.nv.retired).foldl (fun (s : State) r =>
    let p := leVal (r.payload.take 4)
    let j : EraseJ := { phys := p, logical := some (s.logicalOf p), region := leVal ((r.payload.drop 4).take 2) }
    let x := s.eraseOk j
    let s := match x.2 with
      | some j' => x.1.eraseStart j'
      | none => x.1.eraseNext j
    s.inc NVS_REERASE_COUNT.COUNT) s

/-- A fall of the rails that was not orderly (R138). -/
def State.fallFound (s : State) : State :=
  if !s.pwr.fell then s
  else
    let s := { s with pwr.fell := false }
    if shutOk s.nv.journal then s
    else
      let s := (s.inc PWR_FAIL_COUNT.COUNT).fault 0x0302
      s.config 0x3001C (s.get PWR_FAIL_COUNT.COUNT)

/-- The newest PANEL_BEGIN has no PANEL_END (R516). -/
def panelCut (j : List JRec) : Bool :=
  match j.find? fun r => r.ok && (r.type == 0x30 || r.type == 0x31) with
  | some r => r.type == 0x30
  | none => false

/-- A spare that the journal holds stays held, with the match that was in force (R208); HELD_CHAN reads none where it holds none. -/
def State.holdReplay (s : State) : State :=
  let s := s.set VFE_SPARE_STATE.HELD_CHAN 0x3F
  match s.nv.journal.find? fun r => r.ok && r.type == 0x51 with
  | some r =>
    if nth 0 r.payload 1 = 1 then s
    else
      let c := nth 0 r.payload 0
      let m := s.nv.heldMatch.getD (0, 0)
      { (s.set VFE_SPARE_STATE.PHASE 6).set VFE_SPARE_STATE.HELD_CHAN c with vfe.mofs := m.1, vfe.mg := m.2 }.fault 0x0503 c
  | none => s

/-- BANK_SELECT (R250): banks as they read; factory tables with 0x0707 where a bank held BANK_DONE and neither is complete. -/
def State.bankSelect (s : State) : State :=
  let s := { s with nv.banks := s.nv.banks.map fun (b : BankS) => if b.state = 1 ∧ !b.tiles.all (·.2.ok) then { b with state := 3 } else b }
  let held := s.nv.banks.any fun b => b.state == 1 || b.state == 3
  let s := if held && s.newestBank.isNone then s.fault 0x0707 else s
  s.showBanks

/-- The newest generation that the journal records (R242). -/
def State.genReplay (s : State) : State :=
  match s.nv.journal.find? fun r => r.ok && r.type == 0x22 with
  | some r =>
    let g := leVal (r.payload.take 4)
    { (s.set CAL_GEN.GEN g).set CAL_GEN_COMMITTED.GEN g with cal.newest.no := g, cal.force.no := g }
  | none => s

/-- What the FACTORY region and the cells of the factory give the registers that the module works with (R36, R490). -/
def State.factoryLoad (s : State) : State :=
  let s := ((s.set GOV_RO_SCALE.SCALE Config.roScale).set GOV_RO_VSENS.VSENS (655 + Config.roVsens % 1312)).set MON_DIE_K0.K0 Config.dieK0
  s.set MON_DIE_K1.K1 Config.dieK1

/-- STORE_STAGE_DONE (R106 stage 5). -/
def storeStageDone (s : State) : State :=
  if !s.sys.stages.contains 3 || s.sys.stages.contains 5 || (s.pfw && openIntents s.nv.journal s.nv.retired != []) then s
  else
    let s := (s.factoryLoad.reconcile).journalScan
    let s := (s.blockReplay.reerase).configReplay
    let s := s.fallFound
    let s := (s.genReplay.bankSelect).holdReplay
    let s := [0, 1, 2, 3].foldl (fun (s : State) k => s.slotShow k 3 0) s
    let s := (s.tallyShow.fwShow).set NVS_STATUS.STORE_OK 1
    let s := if panelCut s.nv.journal then
        { s.set NVS_EVENTS.PNL_STALE 1 with nvs.stale := true }.driveAsk { kind := 1, purpose := 0 }
      else s
    s.stageEnded 5

/-! ### Stages 9 and 10 -/

/-- Tile bias applied to the positions of the active image (R106, R176), and settling (R128). -/
def State.biasOn (s : State) : State :=
  let s := (s.biasApply { s.activeSet with bias := s.fpl.bias }).1
  { s with bring.biasMask := 0 }.settleStart s.tileMask

/-- BRING_IN_DONE (R106 stages 9 and 10): the mode is set under R30, and BOOT is journaled. -/
def bringInDone (s : State) : State :=
  if !(s.sys.stages.contains 7 && s.sys.stages.contains 8) || s.sys.up then s
  else
    let s := ((s.biasOn.set VFE_PWR_STATUS.ON 1).set VFE_PWR_STATUS.REF_OK 1).ilvFactorySets.govClear
    let s := { (s.stageEnded 9).stageEnded 10 with sys.up := true }.whiteAgain
    let s := (s.decideCompat).modeAnew
    s.journal 0x80 (leBytes 4 (s.get NVS_BOOT_COUNT.COUNT) ++ [s.get NVS_STATUS.FW_COPY, s.get IMG_STATUS.SRC])

/-! ### Thermal settling (R128) -/

/-- The instant of the newest settling check due: 20 s after the start of settling, and every second after it. -/
def State.checkDue (s : State) : Nat := s.bring.checkAt + sec * ((s.now - s.bring.checkAt) / sec)

/-- Every sensor of every biased tile, the failed ones left out, is steady at the check that is due. -/
def State.settled (s : State) : Bool := s.tilesSteady s.checkDue s.bring.biasMask

/-- SETTLING_CHECK: the check that is due, once per second from 20 s on; settling ends at one that passes, and a shutter cycle is
forced in RUN (R127). -/
def settlingCheck (s : State) : State :=
  if s.bring.settleFrom.isNone || s.now < s.bring.checkAt then s
  else if s.settled then
    let s := { s.set PWR_STATUS.SETTLING 0 with bring.settleFrom := none }.unfault 0x0405
    if s.sys.run then s.forceCycle else s
  else { s with bring.checkAt := s.checkDue + sec }

/-- SETTLING_TIMEOUT: 300 s of settling. -/
def settlingTimeout (s : State) : State :=
  match s.bring.settleFrom with
  | some t0 => if t0 + 300 * sec ≤ s.now ∧ !s.isActive 0x0405 noInst then s.fault 0x0405 else s
  | none => s

def execResetRelease (t : Nat) (s : State) : Host.Outcome State Fault Refusal := .next (resetRelease (s.at t))
def execWardenFwCheckDone (t : Nat) (accepted : Bool) (fw : FwDesc) (s : State) : Host.Outcome State Fault Refusal :=
  .next (wardenFwCheckDone accepted fw (s.at t))
def execStoreStageDone (t : Nat) (s : State) : Host.Outcome State Fault Refusal := .next (storeStageDone (s.at t))
def execBringInDone (t : Nat) (s : State) : Host.Outcome State Fault Refusal := .next (bringInDone (s.at t))
def execSettlingCheck (t : Nat) (s : State) : Host.Outcome State Fault Refusal := .next (settlingCheck (s.at t))
def execSettlingTimeout (t : Nat) (s : State) : Host.Outcome State Fault Refusal := .next (settlingTimeout (s.at t))

end Sys2Proof.Machine
end

