-- ==== Sys2Proof/Machine/Frame.lean ====
section
/-!
DEFINITION. Frames of a staring run: the boundary (R21, R171, R173, R385 to R387), the tracks (R163 to R167), the backlog
(R38), the completion and the slack (R48 to R64), and the boundaries of a characterisation.
-/
namespace Sys2Proof.Machine

/-! ### The record of a boundary -/

/-- The header flags that a boundary gives its frame or line (R449). -/
def State.frameFlags (s : State) : Nat :=
  2 * b2n (s.get CAL_STATUS.UNCAL_MASK != 0) + 4 * b2n (s.get CAL_STATUS.FACT_DRIFT_MASK != 0) +
  16 * s.get PWR_STATUS.SETTLING + 32 * b2n (s.get GOV_STATE.TIER != 0) +
  256 * b2n (s.get ENG_COMPAT.OUTCOME == 1) + 512 * b2n (s.on GOV_REF_STATUS.HOLDOVER || s.timeHeld)

/-- The record that a boundary at `b` begins, everything in force there (R21, R220). -/
def State.newRec (s : State) (b no : Nat) (line : Bool) : FrameRec :=
  let v := s.activeSet
  let st := s.stamp b
  let tier := s.get GOV_STATE.TIER
  let tr := fun n => dtRaw (s.get (FPL_TEMPn.TSA n)) (s.get (FPL_TEMPn.TSB n)) (nth 0 s.fpl.sensor n) (tileSet s.cal.force.tiles n).tref
  { no := no, line := line, boundary := b, tier := tier, flags := s.frameFlags, format := formatAt s.image tier, vset := s.ilv 32,
    epoch := s.get FPL_EPOCH_APPLIED.EPOCH, gen := s.cal.force.no, prog := v.prog, int := v.int,
    period := if line then v.nomper else v.period, gains := (List.range 8).map (gainOf v.gains),
    secs := st.1, ns := st.2, temps := (tilesOf s.tileMask).map fun n => (n, clampS16 (tr n), decide (clampS16 (tr n) ≠ tr n)),
    ft := (tilesOf s.tileMask).map fun n => (n, s.fpaT n), set := s.cal.force.tiles, out := s.outSet, lanes := s.laneSegs }

/-- The deadline of a record from its own settings (R49, R173). -/
def State.recDeadline (s : State) (r : FrameRec) : Nat :=
  s.deadlineOf { s.activeSet with period := r.period, nomper := r.period }

/-! ### What changes at a boundary (R21) -/

/-- The tier and the lockout at a boundary (R55, R58, R65). The first boundary of a run makes the choice of R61, which counts as a
tier change whatever the tier was; the lockout that it begins lasts through the 16 boundaries after it (DEDUCED, log entry 214). -/
def State.boundaryTier (s : State) : State :=
  let s := if s.gov.boundaries = 0 then s.tierSet (s.gov.tierNext.getD (s.get GOV_STATE.TIER))
    else if s.gov.tierNext.any (· != s.get GOV_STATE.TIER) then s.tierApply
    else if s.gov.tierMade then { s with gov.tierNext := none }
    else
      let s := { s with gov.tierNext := none }
      let l := s.get GOV_STATE.LOCKOUT
      if l = 0 then s
      else { s.set GOV_STATE.LOCKOUT (l - 1) with gov.lockDue := s.gov.lockDue || l == 1 }
  let s : State := { s with gov.tierMade := false }
  let cool := if 0 < s.mon.dieCool then s.gov.cool + 1 else 0
  let s : State := if s.gov.hot then { s with gov.cool := cool % 16, gov.hot := decide (cool < 16) } else s
  { s with gov.predDue := s.gov.predDue || s.gov.boundaries == 16, gov.boundaries := min 17 (s.gov.boundaries + 1) }

/-- The settings, the generation, the interleave sets and windows and the tier at a boundary at `b`; whether an offset-disturbing
setting changed (R175). -/
def State.boundaryChange (s : State) (b : Nat) (apply : Bool) : State × Bool :=
  let old := s.fpl.lastSet.getD s.activeSet
  let s := govPredictionEnd (govLockoutEnd s)
  let s := if apply then s.setApply else s
  let new := s.activeSet
  let dist := apply && disturbs old new
  let s := if dist then ((s.shadowGain old.gains new.gains b).uncalAll).avgRestart else s
  ((s.genApply.ilvApplyAll.ilvCloseAll).boundaryTier, dist)

/-- Tier 3 keeps and drops in turn (R55): the state after it, and whether this one is kept. -/
def State.tier3 (s : State) : State × Bool :=
  if s.get GOV_STATE.TIER = 3 then ({ s with gov.keepNext := !s.gov.keepNext }, s.gov.keepNext) else (s, true)

/-- The generation in force is not that of the boundary before. -/
def State.newGen (s : State) : Bool := s.cor.orphanGen.any (· != s.cal.force.no)

/-- The reset of the filters that a boundary brings (R382), for the image's filters. -/
def State.boundaryReset (s : State) (b : Nat) (why : Bool) : State × Bool :=
  let r := why || s.resetWaits b
  ((if r then s.filReset else s).resetsTake b, r)

/-! ### The next boundary of a staring run -/

/-- The boundary that comes next: its instant, whether the pending set acts at it, whether it falls later than its
schedule, whether an FSYNC edge re-phases it. -/
structure NextB where
  at_ : Nat
  apply : Bool := false
  stretch : Bool := false
  phase : Bool := false
  deriving DecidableEq, Repr

/-- The least instant that the frame before allows a first boundary (R173), while its samples are outstanding. -/
def State.readGuard (s : State) : Nat :=
  match s.fpl.lastB, s.fpl.lastSet with
  | some b, some o =>
    if s.reading then
      let v := s.fpl.pending.getD s.activeSet
      let po := progOf s.image o.prog
      let e := b + o.int + po.readOff
      16 * ceilDiv (max (e + po.guard) (e + rLen s.image o.prog - (v.int + (progOf s.image v.prog).readOff))) 16
    else 0
  | _, _ => 0

/-- A boundary at an FSYNC edge (R385 to R387). -/
def State.edgeB (s : State) (phase : Bool) (e : Nat) : NextB := { at_ := s.fsyncAt e, apply := s.pendingDue (e / 16), phase := phase }

/-- The first boundary of a run accepted at `r` (R30). -/
def State.firstB (s : State) (r : Nat) : NextB :=
  let b := max (max (16 * ceilDiv (r + 50 * us) 16) s.readGuard) (16 * s.tick)
  { at_ := b, apply := s.pendingDue (b / 16) }

/-- The boundary that follows one at `lb` by the period (R171, R173). A set committed after the scheduled instant, which a
stretch had held open, waits for the boundary after. -/
def State.plainB (s : State) (lb : Nat) : NextB :=
  let o := s.fpl.lastSet.getD s.activeSet
  let sb := lb + 16 * o.period
  match s.fpl.pending with
  | some v =>
    if s.pendingDue (sb / 16) then
      let b := stretchTo s.image o v lb
      { at_ := b, apply := true, stretch := decide (sb < b) }
    else if sb < 16 * s.fpl.commitAt then { at_ := 16 * (s.fpl.commitAt + 1), stretch := true } else { at_ := sb }
  | none => { at_ := sb }

/-- The next boundary of the staring run in progress or accepted. -/
def State.nextB (s : State) : Option NextB :=
  let mode := s.get FIL_SYNC_CTRL.MODE
  if mode = 3 then s.fil.fsync.map (s.edgeB false)
  else match s.sys.runAt with
    | some r => some (s.firstB r)
    | none =>
      match s.fpl.lastB with
      | none => none
      | some lb =>
        let p := s.plainB lb
        match mode, s.fil.fsync with
        | 2, some e => if lb + 16 * (s.fpl.lastSet.getD s.activeSet).period ≤ e then some p else some (s.edgeB true e)
        | _, _ => some p

/-! ### The boundary -/

/-- The format of the newest frame without SHUTTER_HOLD that is delivered or on its way to delivery (R254). -/
def State.liveFmt (s : State) : Option Nat :=
  match (s.fpl.frames.filter fun r => !r.held && r.drop == .kept && r.admitted).getLast? with
  | some r => some r.format
  | none => s.cor.live.map (·.format)

/-- The delivered format of a frame (R229, R254). -/
def State.deliveredFmt (s : State) (held : Bool) : Nat :=
  (if held then s.liveFmt else none).getD (formatAt s.image (s.get GOV_STATE.TIER))

/-- The entry of a kept frame judged (R440): admitted and its PREV_GAP. -/
def State.frameAdmit (s : State) (b : Nat) (r : FrameRec) : State × FrameRec :=
  let s := s.captureBoundary b
  if r.drop ≠ .kept then (s, r)
  else
    let bpp := bppOf r.format
    let a := s.takeIn r.no 0 (regionBytes bpp (s.regionsAt bpp))
    (a.1, { r with admitted := a.2.1, prevGap := a.2.2 })

/-- The record of a frame joins those in flight, and the trigger outputs show it (R389). -/
def State.frameIn (s : State) (b : Nat) (r : FrameRec) : State :=
  let s : State := { s with fpl.frames := s.fpl.frames ++ [r], fpl.lastB := some b, fpl.lastSet := some s.activeSet }
  ((((s.toutTake).toutPulse 1 b).set FPL_PG_STATUS.EXP_RUN 1).set FPL_PG_STATUS.ACQ_PROG r.prog).boundaryShow r

/-- The end of the integration of a frame's last row (R165). -/
def State.lastRowEnd (s : State) (r : FrameRec) : Nat :=
  let t := readTree s.image r.prog
  r.boundary + r.int + (rowInList t (nodesRows t - 1) - rowInList t 0)

/-- A frame of a shutter cycle's average ends it no earlier than the integration of its last row does (R253). -/
def State.avgStep (s : State) (r : FrameRec) : State := if r.avg.isSome then { s with cal.stepAt := s.lastRowEnd r } else s

/-- A frame boundary at instant `n.at_` taken (R21, R30, R55, R173, R252 to R254, R382, R394, R440). -/
def State.takeBoundary (s : State) (n : NextB) : State :=
  let b := n.at_
  let first := s.sys.runAt.isSome
  let late := n.phase && (match s.fil.fsync with | some e => decide (e + 32 < b) | none => false)
  let s := if first then s.startRun else s
  let s := if n.phase || s.get FIL_SYNC_CTRL.MODE == 3 then { s with fil.fsync := none } else s
  let s := if late then s.fsyncLate else s
  let s := s.refBoundary b
  let c := s.boundaryChange b n.apply
  let s := if n.stretch then (c.1.inc FPL_STRETCH_COUNT.COUNT).set FPL_EVENTS.STRETCH 1 else c.1
  let s := (((s.settleEnd b).resumeEnd b).periodDue b).cycleStart b
  let s := if first then s.forceCycle else if c.2 then s.forceEpoch else s
  let k := s.tier3
  let made := s.fpl.madeDrop
  let s : State := { k.1 with fpl.madeDrop := !k.2 }
  let s := if k.2 then s else s.inc GOV_DECIM_COUNT.COUNT
  let held := s.holds
  let s : State := if held then { s with vfe.busy := true } else if s.vfe.busy then { s with vfe.busy := false, vfe.cycleEnd := b } else s
  let a := s.avgTake k.2
  let fmt := a.1.deliveredFmt held
  let newFmt := k.2 && (match a.1.cor.format with | some f => f != fmt | none => false)
  let z := a.1.boundaryReset b (first || n.apply || n.phase || newFmt || a.1.newGen)
  let stepped := z.1.stepBoundary.2
  let s := z.1.stepBoundary.1
  let s : State := if k.2 then { s with cor.format := some fmt } else s
  let r := s.newRec b s.sys.frameNo false
  let r : FrameRec := { r with
    drop := if k.2 then .kept else .tier3, format := fmt, predicted := decide (s.gov.boundaries ≤ 16), avg := a.2,
    held := held, live := !held, reset := z.2
    flags := (r.flags + 8 * b2n held + 64 * b2n (made && k.2)) ||| (512 * b2n stepped) }
  let q := { s.avgStep r with sys.frameNo := s.sys.frameNo + 1 }.frameAdmit b r
  q.1.frameIn b q.2

/-- The boundary of a characterisation that comes next: the first of a point at any REFTICK a period after the last boundary, the
others at every period, NOMPER on a line carrier (R301). -/
def State.charNext (s : State) : Nat :=
  let v := s.activeSet
  match s.fpl.lastB with
  | some lb =>
    let nb := lb + 16 * (if s.lineImage then v.nomper else v.period)
    if s.cal.avg.taken = 0 then max nb (16 * s.tick) else nb
  | none => 16 * s.tick

/-- The tier of a characterisation is 0 and its frames go nowhere but into its average (R63, R270, R271, R301). -/
def State.charBoundary (s : State) : State :=
  let b := s.charNext
  if s.get CAL_CHAR_STATE.STATE = 3 ∧ s.cal.avg.taken < s.cal.avg.want ∧ b ≤ s.now ∧ s.on GOV_REF_STATUS.DLL_LOCK then
    let s := s.idleCut.genApply.ilvApplyAll
    let s : State := { s with cal.avg := { s.cal.avg with taken := s.cal.avg.taken + 1 } }
    s.frameIn b { s.newRec b 0 s.lineImage with avg := some (0, 0) }
  else s

/-- RUN ends at a due boundary (R30); with no edge to wait for, an escalation in MODE 3 ends it at once. -/
def State.stopDue (s : State) : Bool :=
  s.sys.run && s.sys.stopAt.isSome &&
    match s.nextB with
    | some n => decide (n.at_ ≤ s.now)
    | none => s.sys.mode == .quarantine || s.get FIL_SYNC_CTRL.MODE != 3

/-- The first boundary of a run waits for the code that R61 chose. -/
def State.codeWaits (s : State) : Bool := s.sys.runAt.isSome && s.gov.vMoving

/-- FRAME_BOUNDARY (R21, R30): the boundary that is due is taken, or ends RUN. A line image has line boundaries. -/
def frameBoundary (s : State) : State :=
  if s.sys.mode = .characterise then s.charBoundary
  else if s.lineImage || !(s.sys.run || s.sys.runAt.isSome) then s
  else if s.stopDue then s.runOver
  else match s.nextB with
    | some n => if n.at_ ≤ s.now ∧ s.sys.stopAt.isNone ∧ !s.codeWaits then s.takeBoundary n else s
    | none => s

/-- RUN_START (R30): the first boundary of a run; in SWEEP, RUN begins 50 µs after the command, for a line boundary waits
for a scan (R292). -/
def runStart (s : State) : State :=
  match s.sys.runAt with
  | some r => if s.lineImage then (if r + 50 * us ≤ s.now ∧ !s.codeWaits then s.startRun else s) else frameBoundary s
  | none => s

/-- RUN_END (R30): in SWEEP at the next boundary, which comes with a requested line or NOMPER after the cause, and at once
outside a scan. -/
def runEnd (s : State) : State :=
  if s.lineImage then
    match s.sys.stopAt with
    | some t =>
      let due := !s.scanning || s.swp.reqs.any (fun (q : Nat × Nat × Bool) => decide (tickAfter q.2.1 ≤ s.now)) ||
        decide (t + 16 * s.get SWP_ACT_NOMPER.NOMPER ≤ s.now)
      if s.sys.run && due then s.runOver else s
    | none => s
  else if s.stopDue then s.runOver else s

/-! ### The tracks (R163 to R167) -/

/-- The first element that satisfies `p`, changed. -/
def modFirst {α : Type} (p : α → Bool) (f : α → α) : List α → List α
  | [] => []
  | a :: l => if p a then f a :: l else a :: modFirst p f l

/-- READ_TRACK_START (R165): the oldest frame whose read track waits begins it, once the one before has ended; its gain codes reach the
front-ends (R169, R179). -/
def readTrackStart (s : State) : State :=
  match s.fpl.frames.find? (·.lastSample.isNone) with
  | some r =>
    let a := r.boundary + r.int + (progOf s.image r.prog).readOff
    if r.readStart.isNone && decide (a ≤ s.now) then
      let s := if s.fpl.readGains = r.packGains then s else s.gainWindows s.fpl.readGains r.packGains
      { s.set FPL_PG_STATUS.READ_RUN 1 with
        fpl.readGains := r.packGains
        fpl.frames := modFirst (·.lastSample.isNone) (fun r => { r with readStart := some a }) s.fpl.frames }
    else s
  | none => s

/-- Samples that a Tier 3 drop of object lines takes from a raw line (R55): band rows of dropped object lines. -/
def State.rowDropped (s : State) (r : FrameRec) (band : Nat) : Bool :=
  r.line && 0 ≤ r.index && (match (r.index - 8 * (band : Int)) with
    | .ofNat j => s.swp.dropped.contains j
    | .negSucc _ => false)

/-- Records whose work is over: dropped frames, whose reset the next frame takes over. -/
def State.popDrops (s : State) : State :=
  match s.fpl.frames with
  | r :: l =>
    if !r.line && r.lastSample.isSome && r.drop != .kept then
      { s with fpl.frames := l }.filSkip r.tier r.reset
    else s
  | [] => s

/-- An acquisition of a characterisation is in progress (R271). -/
def State.acquiring (s : State) : Bool :=
  s.sys.mode == .characterise && s.get CAL_CHAR_STATE.STATE == 3 && decide (0 < s.cal.avg.taken) && decide (s.cal.avg.taken < s.cal.avg.want)

/-- The idle program restarts once the last read track has ended (R167, R292), not within an acquisition of a characterisation. -/
def State.idleAgain (s : State) : State :=
  if s.reading || s.fpl.idle || s.acquiring then s
  else if (s.sys.run && !(s.lineImage && !s.scanning)) || s.sys.runAt.isSome then s
  else s.idleStart

/-- A frame of an average read out (R253, R271). -/
def State.avgFrame (s : State) (r : FrameRec) : State :=
  match r.avg with
  | some p => if r.drop = .kept then { s with cal.avg := s.cal.avg.add s.lineImage r p } else s
  | none => s

/-- READ_TRACK_END (R165, R48): the last converter sample, which ends the read track; stations 3 and 4 of the frame. -/
def readTrackEnd (video : List PixelVideo) (s : State) : State :=
  match s.fpl.frames.find? (·.lastSample.isNone) with
  | some r =>
    match r.readStart with
    | some a =>
      let e := a + rLen s.image r.prog
      if e ≤ s.now then
        let keep := s.station34 r (video.filter fun p => !s.rowDropped r p.row)
        let gone := keep.1.station34 { r with drop := .tier3 } (video.filter fun p => s.rowDropped r p.row)
        let r' : FrameRec := { r with lastSample := some e, cest := s.cestHere, raw := keep.2 }
        let s := gone.1.shadowAdd r video
        let l := modFirst (·.lastSample.isNone) (fun _ => r') s.fpl.frames
        let s : State := { s with fpl.frames := if s.sys.mode = .characterise then l.filter (·.lastSample.isNone) else l }
        let s := (s.avgFrame r').toutTrack r.prog true a e
        let s := s.setb FPL_PG_STATUS.READ_RUN (s.fpl.frames.any fun q => q.readStart.isSome && q.lastSample.isNone)
        (s.popDrops).idleAgain
      else s
    | none => s
  | none => s

/-- EXPOSE_TRACK_END (R163, R167): the phases return to REST_LEVELS; the idle program's track repeats from step 0. -/
def exposeTrackEnd (s : State) : State :=
  match s.fpl.idle, idleProg s.image, s.fpl.lastB, s.fpl.lastSet with
  | true, some n, _, _ =>
    let e := s.fpl.idleAt + eLen s.image n
    if e ≤ s.now then { s.toutTrack n false s.fpl.idleAt e with fpl.idleAt := e } else s
  | false, _, some b, some v =>
    let e := b + eLen s.image v.prog
    if s.on FPL_PG_STATUS.EXP_RUN && decide (e ≤ s.now) then
      (s.toutTrack v.prog false b e).set FPL_PG_STATUS.EXP_RUN 0
    else s
  | _, _, _, _ => s

/-- BACKLOG_OVERFLOW (R38): the frame or line being read is dropped whole. A frame of an average leaves it. -/
def backlogOverflow (s : State) : State :=
  let p := fun (r : FrameRec) => r.readStart.isSome && r.lastSample.isNone && r.drop == .kept
  match s.fpl.frames.find? p with
  | some r =>
    let s : State := { s with fpl.frames := modFirst p (fun r => { r with drop := .overflow }) s.fpl.frames }
    let s : State := if r.avg.isSome then
        { s with cal.avg := { s.cal.avg with taken := s.cal.avg.taken - 1,
                                             want := if s.get CAL_STATUS.CYCLE = 3 ∨ s.sys.mode = .characterise then s.cal.avg.want else s.cal.avg.want - 1 } }
      else s
    let s := (((s.inc GOV_OVF_COUNT.COUNT).set GOV_EVENTS.OVF 1).fault 0x0112).tierForce (s.get GOV_CTRL.TIER_MAX)
    if r.admitted then s.bbCut r.no else s
  | none => s

/-! ### Completion (R48, R50, R52, R57, R62) -/

/-- Slack recorded and judged: `last` the last-sample tick; the tier byte of R51 is answered. -/
def State.slackOf (s : State) (r : FrameRec) (last : Nat) : State × Nat :=
  let c : Int := (ceilDiv s.now 16 : Nat) - (last : Int)
  let slack := (s.recDeadline r : Int) - c
  let s := s.recordSlack r.no r.tier slack
  let s := if r.predicted then
      s.govDecide r.tier (s.predSlack r.tier r.cest) (if r.tier = 0 then none else some (s.predSlack (r.tier - 1) r.cest))
    else s.govDecide r.tier slack (if r.tier = 0 then none else s.slackBelow r.tier c)
  (s, tierByte r.tier r.predicted (decide (slack < 0)))

/-- FILL of an area image: 0 where the plane has no fill point. -/
def State.areaFill (s : State) (fmt : Nat) : Nat :=
  let sz := s.plane.size
  let own := ((s.areaRegions).map fun g => g.w * g.h).sum
  if (stageOf s.image 0x22).isSome ∧ own < sz.1 * sz.2 then fillCode fmt (s.get COR_GAP_VALUE.VALUE) else 0

/-- Stations 5 to 7 of a live frame: pixels, blocks, flags. -/
def State.frameLive (s : State) (r : FrameRec) : State × List OutPix × List (Nat × List Nat) × Nat :=
  let f := s.image
  let ped := r.out.ped
  let k : Stat5 := ⟨f, false, r.format, ped, r.tier, s.eccOf r.gen, r.gains, r.temps, r.set, r.raw⟩
  let ts := (tilesOf s.tileMask).map fun n => (n, k.tile n)
  let s := ts.foldl (fun (s : State) t => s.corCount t.2.2) s
  let s := r.temps.foldl (fun (s : State) e => s.dtSat e.1 e.2.2) s
  let left := decide (2 ≤ s.fil.lastTier) && decide (r.tier < 2)
  let a := tempAvg f r.format ped r.tier left (if r.reset then [] else s.fil.hist) (ts.flatMap fun t => t.2.1) r.flags
  let px := binArea r.format ped (imgBx f) (imgBy f) a.2.1
  let blocks := if (stageOf f 0x30).isSome then
      ts.map fun t => (t.1, statBlock t.1 r.format (s.statFlags r t.1) r.epoch r.tier r.gen (px.filter (·.tile == t.1)) t.2.2 (k.t t.1))
    else []
  let s : State := { s with
    fil.hist := a.1, fil.lastTier := r.tier, cor.live := if r.admitted then some ⟨r.format, px, blocks.map (·.2)⟩ else s.cor.live }
  (s, px, blocks, a.2.2)

/-- The pixels and blocks that a frame carries: its own, or those of the newest live frame (R254). -/
def State.frameOut (s : State) (r : FrameRec) : State × List OutPix × List (Nat × List Nat) × Nat :=
  match s.cor.live with
  | some l =>
    if r.held then
      (s.filSkip r.tier r.reset, l.pixels,
       l.blocks.map (fun b => (nth 0 b 0, heldBlock b r.epoch r.tier r.gen)), r.flags)
    else s.frameLive r
  | none =>
    let q := s.frameLive r
    if r.held then (s.filSkip r.tier r.reset, q.2.1,
      q.2.2.1.map (fun b => (b.1, heldBlock b.2 r.epoch r.tier r.gen)), r.flags) else q

/-- FRAME_COMPLETE of a staring frame; GOV_TIER_FRAMES counts it as made, admitted or not. -/
def State.frameDone (s : State) (r : FrameRec) (lastAt : Nat) : State :=
  let s : State := { s.inc (tierFrames r.tier) with fpl.frames := s.fpl.frames.drop 1 }
  let r : FrameRec := if r.held then { r with format := (s.cor.live.map (·.format)).getD r.format } else r
  let q := s.frameOut r
  let s := q.1.set COR_STATUS.FORMAT r.format
  if r.admitted then
    let last := lastAt / 16
    let g := s.slackOf r last
    let v := g.1.asOut r.out
    let split := (stageOf s.image 0x22).isNone
    let wh := if split then (v.plane.w, v.plane.h) else v.plane.size
    let h := { recHead r 0 g.2 (q.2.2.2 ||| (128 * b2n (spareActive s.image r))) last with
      w := wh.1, h := wh.2, planes := b2n split, fill := v.areaFill r.format }
    g.1.bbFill r.no (v.fillEntry h (v.areaPixels q.2.1 h.bpp) q.2.2.1)
  else s

/-- EPOCH_APPLY (R171): outside RUN; in RUN the boundary has applied the set. -/
def epochApply (s : State) : State := if s.sys.run then s else s.setApply

/-- PADDLE_CLOSED (R253, R414). -/
def paddleClosed (s : State) : State :=
  if s.get CAL_STATUS.CYCLE = 1 then s.paddleClosed.monTrigger 0 else s

/-- PADDLE_OPENED (R253). -/
def paddleOpened (s : State) : State := s.paddleOpened

def execRunStart (t : Nat) (s : State) : Host.Outcome State Fault Refusal := .next (runStart (s.at t))
def execRunEnd (t : Nat) (s : State) : Host.Outcome State Fault Refusal := .next (runEnd (s.at t))
def execFrameBoundary (t : Nat) (s : State) : Host.Outcome State Fault Refusal := .next (frameBoundary (s.at t))
def execReadTrackStart (t : Nat) (s : State) : Host.Outcome State Fault Refusal := .next (readTrackStart (s.at t))
def execReadTrackEnd (t : Nat) (video : List PixelVideo) (s : State) : Host.Outcome State Fault Refusal :=
  .next (readTrackEnd video (s.at t))
def execExposeTrackEnd (t : Nat) (s : State) : Host.Outcome State Fault Refusal := .next (exposeTrackEnd (s.at t))
def execBacklogOverflow (t : Nat) (s : State) : Host.Outcome State Fault Refusal := .next (backlogOverflow (s.at t))
def execEpochApply (t : Nat) (s : State) : Host.Outcome State Fault Refusal := .next (epochApply (s.at t))
def execPaddleClosed (t : Nat) (s : State) : Host.Outcome State Fault Refusal := .next (paddleClosed (s.at t))
def execPaddleOpened (t : Nat) (s : State) : Host.Outcome State Fault Refusal := .next (paddleOpened (s.at t))

end Sys2Proof.Machine
end

