-- ==== Sys2Proof/Machine/Pwr.lean ====
section
/-!
DEFINITION. The inputs, hold-up and the power-fail warning (R130 to R138, R153), and the power ladder (R139 to R151).
-/
namespace Sys2Proof.Machine

/-! ### Inputs (R130 to R132) -/

/-- PWR_STATUS of the inputs: SOURCE 1 AC, 2 DC, 0 none. -/
def State.inputShow (s : State) (source : Nat) : State :=
  let s := ((s.setb PWR_STATUS.AC_OK s.pwr.ac).setb PWR_STATUS.DC_OK s.pwr.dc).set PWR_STATUS.SOURCE source
  { s with pwr.acUsed := s.pwr.acUsed || source == 1, pwr.lostAt := if source = 0 then some (s.pwr.lostAt.getD s.wall) else none }

/-- The power unit moves from one input to another (R131). -/
def State.inputSwitch (s : State) (source : Nat) : State :=
  let s := (s.inputShow source).set PWR_EVENTS.SRC_SWITCH 1
  if source = 2 then (if s.pwr.acUsed then s.faultAwake 0x0306 else s) else s.unfaultAwake 0x0306

/-- AC_INPUT_LOST. -/
def acInputLost (s : State) : State :=
  let s := { s with pwr.ac := false }
  if s.get PWR_STATUS.SOURCE = 1 then (if s.pwr.dc then s.inputSwitch 2 else s.inputShow 0) else s.inputShow (s.get PWR_STATUS.SOURCE)

/-- DC_INPUT_LOST. -/
def dcInputLost (s : State) : State :=
  let s := { s with pwr.dc := false }
  if s.get PWR_STATUS.SOURCE = 2 then (if s.pwr.ac then s.inputSwitch 1 else s.inputShow 0) else s.inputShow (s.get PWR_STATUS.SOURCE)

/-- INPUT_IN_RANGE: with no input in use the module draws from it at once; AC otherwise carries again by AC_RETURN. -/
def inputInRange (ac : Bool) (s : State) : State :=
  let s : State := if ac then (if s.pwr.ac then s else { s with pwr.ac := true, pwr.acAt := s.wall })
    else (if s.pwr.dc then s else { s with pwr.dc := true, pwr.dcAt := s.wall })
  let src := s.get PWR_STATUS.SOURCE
  if src ≠ 0 then s.inputShow src
  else if ac then (s.inputShow 1).unfaultAwake 0x0306
  else if s.pwr.acUsed then s.inputSwitch 2 else s.inputShow 2

/-- AC_RETURN (R131): AC in range for 1 s without a break. -/
def acReturn (s : State) : State :=
  if s.pwr.ac && s.get PWR_STATUS.SOURCE == 2 && decide (s.pwr.acAt + sec ≤ s.wall) then s.inputSwitch 1 else s

/-- AC_OVERVOLTAGE (R130), in 0.1 V rms. -/
def acOvervoltage (vrms : Nat) (s : State) : State := if s.pwr.ac ∧ 2770 < vrms ∧ vrms ≤ 3050 then s.faultAwake 0x0303 else s

/-- AC_OVERVOLTAGE_CLEAR. -/
def acOvervoltageClear (s : State) : State := s.unfaultAwake 0x0303

/-- POWER_UNIT_START (R132): an input has been in range for 50 ms. -/
def powerUnitStart (s : State) : State :=
  let ready := fun (b : Bool) (t : Nat) => b && decide (t + 50 * msec ≤ s.wall)
  if !s.pwr.unit && (ready s.pwr.ac s.pwr.acAt || ready s.pwr.dc s.pwr.dcAt) then { s with pwr.unit := true } else s

/-! ### The ladder (R139 to R151) -/

/-- The state in which the module is or comes to be when a step in progress ends. -/
def State.ladderAt (s : State) : Nat := s.pwr.stepTo.getD (s.get PWR_STATUS.STATE)

/-- A step begins. -/
def State.stepBegin (s : State) (k : Nat) : State := { s.set PWR_STATUS.MOVING 1 with pwr.stepTo := some k }

/-- The next movement toward the target of a module that is in a state and not in a step (R142 to R144); an ascent from Grey or
deeper waits for the warning to clear (R136), and for the comparator's release. The drain limit of a descent without RUN runs from
the request (DESIGN CHOICE, log entry 513). -/
def State.moveNext (s : State) : State :=
  let at_ := s.get PWR_STATUS.STATE
  let goal := s.get PWR_TARGET.STATE
  if at_ < goal then
    let s := { s with pwr.ascentAt := none, pwr.deferred := false, pwr.heldOff := false }
    if at_ = 0 then
      let s := s.askRunEnd
      { s.set PWR_STATUS.MOVING 1 with pwr.runEnd := if s.sys.run then none else some s.now }
    else s.stepBegin (at_ + 1)
  else if goal < at_ then
    let s := { s with pwr.ascentAt := some (s.pwr.ascentAt.getD (s.wall, at_)) }
    if 3 ≤ at_ ∧ s.pfw then { (s.set PWR_STATUS.MOVING 0).set PWR_EVENTS.ASCENT_DEFERRED 1 with pwr.deferred := true }
    else if 3 ≤ at_ ∧ s.on MON_STATUS.OT_COMP then { s.set PWR_STATUS.MOVING 0 with pwr.heldOff := true }
    else s.stepBegin (at_ - 1)
  else { s.set PWR_STATUS.MOVING 0 with pwr.ascentAt := none, pwr.deferred := false, pwr.heldOff := false }

/-- A target accepted: it takes effect at once where no step is in progress, else when the step, or the start-up of a return, has
ended (R143). The drain before the step into Pearl is no step: a request for White ends it at once (DESIGN CHOICE, log entry 514). -/
def State.retarget (s : State) (code : Nat) : State :=
  let s := s.set PWR_TARGET.STATE code
  if s.pwr.stepTo.isSome || s.pwr.rebuild.isSome then s
  else if s.on PWR_STATUS.MOVING && s.get PWR_STATUS.STATE == 0 && code != 0 then s
  else s.moveNext

/-- A write of PWR_TARGET (R141, R149). -/
def pwrTargetWrite (v : Nat) (s : State) : State × WRes :=
  let code := PWR_TARGET.STATE.ofWord v
  let at_ := s.ladderAt
  if 5 < code then (s, .refuse 1 0x0D)
  else if at_ < code ∨ (s.pwr.rebuild.isSome ∧ code ≠ 0) then
    if !s.sys.up then (s, .refuse 1 0x05)
    else if !(s.imaging || s.sys.mode == .quarantine) then (s, .refuse 1 0x03)
    else if s.opBusy then (s, .refuse 1 0x0F)
    else if 4 ≤ code ∧ s.get PWR_CTRL.DRAM_HOLD = 0 ∧ (s.get IMG_STATUS.SRC = 4 ∨ s.get IMG_STATUS.SRC = 5) then (s, .refuse 1 0x00)
    else (s.retarget code, .ok)
  else if code < at_ ∧ 3 ≤ at_ ∧ s.on MON_STATUS.OT_COMP then (s, .refuse 1 0x00)
  else (s.retarget code, .ok)

def pwrTarget (v : Nat) (s : State) : State := State.hostWrite 0x30000 (pwrTargetWrite v) s

/-- Every port is idle and nothing waits to be sent. -/
def State.drainedNow (s : State) : Bool :=
  s.prt.entries.isEmpty && s.fpl.frames.isEmpty && s.swp.rows.isEmpty && s.swp.outq.isEmpty && s.prt.ports.all fun p => decide (p.busyTo ≤ s.now)

/-- DESCENT_DRAIN_END (R142): RUN has ended, no shutter cycle or swap runs, its opening is confirmed and its update committed, and
the buffer is empty or the limit has passed. -/
def descentDrainEnd (s : State) : State :=
  let waits := s.on PWR_STATUS.MOVING && s.pwr.stepTo.isNone && s.get PWR_STATUS.STATE == 0 && s.get PWR_TARGET.STATE != 0
  let late := s.pwr.runEnd.any fun t => decide (t + msec * s.get PWR_DRAIN_LIMIT.MS ≤ s.now)
  let cycle := s.get CAL_STATUS.CYCLE != 0 || s.cal.update
  if waits && !s.sys.run && s.sys.runAt.isNone && !cycle && (s.drainedNow || late) then s.stepBegin 1 else s

/-- The cages that lose their light take their links down (R150). -/
def State.cagesDark (s : State) : State := [0, 1, 2, 3].foldl (fun (s : State) p => if s.portLit p then s else s.linkLost p) s

/-- The core rail set to a code by a step of the ladder. -/
def State.railSet (s : State) (v : Nat) : State := { s.set GOV_STATE.VCODE v with gov.vTo := none, gov.vMoving := false, mon.vAt := s.now }

/-- Pearl entered from White: VSTART. -/
def State.toPearl (s : State) : State := s.railSet (s.get GOV_VLIMIT.VSTART)

/-- Silver entered from Pearl: the delay-locked line and the front-ends off, cages not held in low power. -/
def State.toSilver (s : State) : State :=
  ((((s.idleCut.set GOV_REF_STATUS.DLL_LOCK 0).set SWP_ENC_STATUS.REFERENCED 0).set VFE_PWR_STATUS.ON 0).set VFE_PWR_STATUS.REF_OK 0).railSet 0 |>.cagesDark

/-- Grey entered from Silver: tile bias off, the monitor converter off, tile memory and filter histories lost. -/
def State.toGrey (s : State) : State :=
  let s := { (s.set PWR_STATUS.SETTLING 0).monOff with bring.biasMask := 0, bring.settleFrom := none, fil.hist := [], cor.live := none }
  s.unfault 0x0405

/-- Slate entered from Grey: cages dark, PTP not served; without DRAM_HOLD the frames held are discarded (R142, R149). -/
def State.toSlate (s : State) : State :=
  let s := s.cagesDark.holdEnter
  if s.get PWR_CTRL.DRAM_HOLD = 1 then s
  else
    let r := s.bbDiscard
    let s := { r.1.add PWR_DISCARD_COUNT.COUNT r.2 with pwr.dramLost := true }
    if r.2 = 0 then s else (s.set PWR_EVENTS.DISCARD 1).faultAwake 0x0305

/-- Black entered: every session closes (R475). -/
def State.toBlack (s : State) : State := s.sessCloseAll

/-- The front-ends powered (R181). -/
def State.frontEndsOn (s : State) : State := (s.set VFE_PWR_STATUS.ON 1).set VFE_PWR_STATUS.REF_OK 1

/-- White reached from below (R146, R147): front-ends on; after Grey or deeper, tile bias, settling and offsets as at first
light. PWR_LAST_EXIT reports the ascent. -/
def State.toWhite (s : State) : State :=
  let s := s.frontEndsOn.idleStart
  let s := match s.pwr.ascentAt with
    | some (t, k) => (s.set PWR_LAST_EXIT.US ((s.wall - t) / us)).set PWR_LAST_EXIT.FROM k
    | none => s
  let s := { s with pwr.ascentAt := none }
  if s.bring.biasMask = 0 then s.biasOn.uncalAll else s

/-- What entering a state does, from above (`down`) or below. -/
def State.ladderEnter (s : State) (k : Nat) (down : Bool) : State :=
  match k, down with
  | 0, _ => s.toWhite
  | 1, true => s.toPearl
  | 1, false => (s.dllUp.railSet (s.get GOV_VLIMIT.VSTART)).frontEndsOn
  | 2, true => s.toSilver
  | 2, false => s.selfCal
  | 3, true => s.toGrey
  | 3, false => s.wakeFaults
  | 4, true => s.toSlate
  | 5, _ => s.toBlack
  | _, _ => s

/-- A step that has ended: the module is settled in the state, and moves on. -/
def State.stepEnd (s : State) (k : Nat) : State :=
  let down := decide (s.get PWR_STATUS.STATE < k)
  ({ s.set PWR_STATUS.STATE k with pwr.stepTo := none }.ladderEnter k down).heatUpdate.moveNext

/-- LADDER_STEP_DONE (R139, R140). Black is left by BLACK_EXIT; the return from Slate without DRAM is a full start-up (R149); the
step that powers the front-ends waits for the self-calibration (R148), and the step into Slate for a panel refresh in progress (18, "A
panel refresh during a descent"). -/
def ladderStepDone (s : State) : State :=
  match s.pwr.stepTo with
  | none => s
  | some k =>
    let at_ := s.get PWR_STATUS.STATE
    if at_ = 5 ∨ (k ≤ 1 ∧ k < at_ ∧ s.on MON_STATUS.CALIBRATING) ∨ (k = 4 ∧ at_ < k ∧ s.nvs.drive.isSome) then s
    else if k < at_ ∧ s.pwr.dramLost then s.startAgain true
    else s.stepEnd k

/-- The active table and the history of escalation are empty on leaving Black (R525, R527); the slots read IDLE (R489). -/
def State.blackLeave (s : State) : State :=
  let s := { s with alm := {}, ops := {} }
  let s := (List.range 8).foldl (fun (s : State) k =>
    let fs := [OP_CMD.CMD k, OP_STATUS.STATE k, OP_STATUS.ABORT_REQ k, OP_STATUS.PARTIAL k, OP_STATUS.ABORT_LATE k, OP_STATUS.PROGRESS k,
               OP_STATUS.GEN k, OP_SESSION.SESSION k]
    let s := s.setAll fs 0
    (List.range 48).foldl (fun (s : State) w => s.set (OP_RESULT_w.WORD k w) 0) s) s
  let s := s.setAll [GOV_REF_STATUS.SRC, GOV_REF_STATUS.EXT_VALID, GOV_REF_STATUS.QUALIFIED] 0
  let waiting := s.powerFaults ++ s.pwr.asleep.filter fun p => !s.powerFaults.contains p
  { s with gov.gates := 0, gov.refTo := none, pwr.asleep := waiting }.refHold

/-- The advance of REFTICK is the time spent in Black, to within ±50 ppm and one REFTICK (R145). -/
def State.advanceOk (s : State) (advance : Nat) : Bool :=
  let d : Int := s.wall - s.now
  decide ((16 * (advance : Int) - d).natAbs * 20000 ≤ d.natAbs + 320000)

/-- BLACK_EXIT (R145, R149): the REFTICK count, and T with it, advance; a copy whose CRC fails, or DRAM not kept, means a full
start-up from stage 3. Otherwise the warden resumes, and raises what waited for it (R525). -/
def blackExit (advance : Nat) (imageOk : Bool) (s : State) : State :=
  if s.get PWR_STATUS.STATE ≠ 5 ∨ s.pwr.stepTo ≠ some 4 ∨ !s.advanceOk advance then s
  else
    let s := { s with now := s.now + 16 * advance }
    let s := s.blackLeave
    let mark := fun (s : State) => s.set64 PWR_BLACK_ADVANCE_LO.TICKS PWR_BLACK_ADVANCE_HI.TICKS advance
    if s.pwr.dramLost then mark (s.startAgain false)
    else if !imageOk then (mark (s.startAgain false)).fault 0x0304
    else (mark s).wakeFaults.stepEnd 4

/-- TRIGGER_WAKE (R144). -/
def triggerWake (input : Nat) (s : State) : State :=
  let en := if input = 0 then s.on PWR_CTRL.WAKE_TRIG0 else input == 1 && s.on PWR_CTRL.WAKE_TRIG1
  if en ∧ s.get PWR_STATUS.STATE ≠ 0 then
    if s.get PWR_TARGET.STATE = 0 then s.set PWR_EVENTS.WAKE_TRIG 1 else (s.set PWR_EVENTS.WAKE_TRIG 1).retarget 0
  else s

/-- OVERTEMP_RELEASE (R424): an ascent that the comparator held goes on. -/
def overtempReleased (s : State) : State :=
  let s := overtempRelease s
  if s.pwr.heldOff then { s with pwr.heldOff := false }.moveNext else s

/-! ### The power-fail warning (R134 to R137) -/

/-- PFW_RAISE: no input is in use, and at least 2 ms have passed since the loss. -/
def pfwRaise (s : State) : State :=
  if s.pfw || !s.pwr.lostAt.any fun t => decide (t + 2 * msec ≤ s.wall) then s
  else ((({ s with pwr.pfwAt := s.wall }.set PWR_STATUS.PFW 1).set PWR_EVENTS.PFW_RAISED 1).faultAwake 0x0301).journal 0x40 []

/-- PFW_CLEAR: an input is in use again, and the warning has lasted at least 1 ms; the dip is counted, and what waited goes on (R135,
R136). -/
def pfwClear (s : State) : State :=
  if !s.pfw || s.get PWR_STATUS.SOURCE == 0 || decide (s.wall < s.pwr.pfwAt + msec) then s
  else
    let s := ((s.set PWR_STATUS.PFW 0).set PWR_EVENTS.PFW_CLEARED 1).inc PWR_DIP_COUNT.COUNT |>.unfaultAwake 0x0301
    let s := (s.journal 0x41 []).config 0x30018 (s.get PWR_DIP_COUNT.COUNT)
    let s := ((s.eraseResume).burnResume).drivePump.flushLog.vResume
    if s.pwr.deferred then { s with pwr.deferred := false }.moveNext else s

/-- The rails may fall (R133, R134): no input has been in use for 20 ms, and 12 ms have passed since the warning rose. -/
def State.mayFall (s : State) : Bool :=
  s.pfw && decide (s.pwr.pfwAt + 12 * msec ≤ s.wall) && s.pwr.lostAt.any fun t => decide (t + 20 * msec ≤ s.wall)

/-- RAILS_FALL (R138): the engine enters reset. The journal record being programmed is torn, those that wait are not written; a
burn cut by the fall may or may not have taken. -/
def railsFall (s : State) : State :=
  if !s.mayFall then s else
  let recs := progRecs s.nvs.progs
  let torn := match s.nvs.progs with
    | .journal r _ :: _ => [{ r with ok := false }]
    | _ => []
  let cells := match s.nvs.burn with
    | some b => if Config.freeBool 4 s.free then s.nv.cells ||| 2 ^ b.cell else s.nv.cells
    | none => s.nv.cells
  let s := { s with nv.journal := torn ++ s.nv.journal, nv.jseq := s.nv.jseq - (recs.length - torn.length), nv.cells := cells,
                    free := s.free + 1 }
  let c := s.coldState.set PWR_STATUS.PFW 0
  { c with pwr.unit := false, pwr.fell := true }

def execPowerUnitStart (t : Nat) (s : State) : Host.Outcome State Fault Refusal := .next (powerUnitStart (s.at t))
def execAcInputLost (t : Nat) (s : State) : Host.Outcome State Fault Refusal := .next (acInputLost (s.at t))
def execAcReturn (t : Nat) (s : State) : Host.Outcome State Fault Refusal := .next (acReturn (s.at t))
def execAcOvervoltage (t vrms : Nat) (s : State) : Host.Outcome State Fault Refusal := .next (acOvervoltage vrms (s.at t))
def execAcOvervoltageClear (t : Nat) (s : State) : Host.Outcome State Fault Refusal := .next (acOvervoltageClear (s.at t))
def execDcInputLost (t : Nat) (s : State) : Host.Outcome State Fault Refusal := .next (dcInputLost (s.at t))
def execInputInRange (t : Nat) (ac : Bool) (s : State) : Host.Outcome State Fault Refusal := .next (inputInRange ac (s.at t))
def execPfwClear (t : Nat) (s : State) : Host.Outcome State Fault Refusal := .next (pfwClear (s.at t))
def execRailsFall (t : Nat) (s : State) : Host.Outcome State Fault Refusal := .next (railsFall (s.at t))
def execPwrTargetWrite (t v : Nat) (s : State) : Host.Outcome State Fault Refusal := .next (pwrTarget v (s.at t))
def execDescentDrainEnd (t : Nat) (s : State) : Host.Outcome State Fault Refusal := .next (descentDrainEnd (s.at t))
def execLadderStepDone (t : Nat) (s : State) : Host.Outcome State Fault Refusal := .next (ladderStepDone (s.at t))
def execBlackExit (t advance : Nat) (imageOk : Bool) (s : State) : Host.Outcome State Fault Refusal :=
  .next (blackExit advance imageOk (s.at t))
def execTriggerWake (t input : Nat) (s : State) : Host.Outcome State Fault Refusal := .next (triggerWake input (s.at t))
def execOvertempRelease (t : Nat) (s : State) : Host.Outcome State Fault Refusal := .next (overtempReleased (s.at t))

end Sys2Proof.Machine
end

