-- ==== Sys2Proof/Machine/Jtag.lean ====
section
/-!
DEFINITION. The test port (R95 to R98, R545 to R547): its instructions, the test-port load, boundary scan.
-/
namespace Sys2Proof.Machine

/-! ### Instructions (R95) -/

/-- An instruction takes effect; the test logic acts only while VREF_T stands (R545). Any instruction but EXTEST gives the
trigger outputs and lamps back (R547). -/
def State.tapSelect (s : State) (opcode : Nat) : State :=
  if s.img.vrefT then { s with img.instr := opcode, img.extest := opcode == 0 } else s

/-- A data register is captured and shifted out under its instruction. -/
def State.scanOut (s : State) (reg : String) (v : Nat) : State := if s.img.vrefT then s.emit (.scan reg v) else s

/-- IDCODE of a stepping code (R546). -/
def idcodeOf (stepping : Nat) : Nat := 2 ^ 28 * (stepping % 16) + 2 ^ 12 * 0x5320 + 2 * 0x279 + 1

def imgload (s : State) : State := s.tapSelect 0x20
def imgstat (s : State) : State := (s.tapSelect 0x21).scanOut "IMGSTAT" (s.get IMG_TP_STATUS.STAT % 2 ^ 24)
def idcode (s : State) : State := (s.tapSelect 2).scanOut "IDCODE" (idcodeOf Config.stepping)

/-- SAMPLE/PRELOAD: every cell captures its pin. -/
def samplePreload (pins : Nat) (s : State) : State := (s.tapSelect 1).scanOut "BOUNDARY" (pins % 2 ^ 16)
def extest (s : State) : State := s.tapSelect 0

/-- BYPASS, or an opcode that no instruction has; the bypass register captures 0. An opcode of the list selects its own
register, so the command has no effect with one. -/
def bypass (opcode : Nat) (s : State) : State :=
  if [0, 1, 2, 0x20, 0x21].contains (opcode % 256) then s else (s.tapSelect 0xFF).scanOut "BYPASS" 0

/-- The output cells with what they drive: TOUT0 and TOUT1 with their enables, the two lamps (R547). -/
def cellPins (cells : Nat) : List Output :=
  (if bit cells 8 = 1 then [.pin 7 (bit cells 7 == 1)] else []) ++ (if bit cells 10 = 1 then [.pin 9 (bit cells 9 == 1)] else []) ++
    [.pin 11 (bit cells 11 == 1), .pin 12 (bit cells 12 == 1)]

/-- Update-DR under EXTEST. -/
def extestUpdateDr (cells : Nat) (s : State) : State :=
  if s.img.vrefT && s.img.extest then
    (cellPins cells).foldl (fun s (o : Output) => s.emit o) { s with img.cells := cells % 2 ^ 16 }
  else s

/-- Test-Logic-Reset selects IDCODE, the instruction that IEEE 1149.1 puts in force there. -/
def testLogicReset (s : State) : State := { s with img.instr := 2, img.extest := false }

/-- VREF_T falls below 1.0 V: Test-Logic-Reset, and a load waits for a new frame 0 (phase 5). -/
def vrefTLoss (s : State) : State :=
  let wait := fun (l : LoadS) => if l.purpose = 4 ∧ l.phase = 1 then { l with phase := 5 } else l
  testLogicReset { s with img.vrefT := false, img.loads := s.img.loads.map wait }

def vrefTReturn (s : State) : State := { s with img.vrefT := true }

/-! ### The test-port load (R30, R96 to R98) -/

/-- Video stops at once: frames and lines in flight are dropped whole before station 8, and RUN ends. -/
def State.videoCut (s : State) : State :=
  let s := s.bbRemove fun (e : Entry) => !e.complete
  { s with fpl.frames := [], fpl.lastB := none, swp.rows := [], swp.outq := [], swp.reqs := [] }.runStopNow

/-- LOAD at once, whatever the mode; the mode to come back to is that before LOAD, SERVICE or CHARACTERISE. Before stage 10
the module has no mode (R107). -/
def State.loadEnter (s : State) : State :=
  let keep := s.sys.mode == .load || s.sys.mode == .service || s.sys.mode == .characterise
  if s.sys.up then { s with sys.back := if keep then s.sys.back else s.sys.mode, sys.next := none }.setMode .load else s

/-- What a test-port load displaces: a host activation ends ABORTED, slot tries stop, a characterisation ends. -/
def State.loadDisplace (s : State) : State :=
  let acts := (s.img.loads.filter (·.purpose == 0)).map (·.slot)
  let s := acts.foldl (fun (s : State) k => s.abortWins k []) s
  let s : State := { s with img.tries := [], img.loads := s.img.loads.filter fun l => l.purpose != 3 && l.purpose != 4 }
  match s.slotOf 0x0701 with
  | some k => s.abortWins k []
  | none => s

/-- Frame 0 starts or restarts the load, and is its first frame. -/
def State.tpBegin (s : State) : State :=
  let s := s.loadDisplace.videoCut.loadEnter
  let l : LoadS := { purpose := 4, src := 5, slot := 9, file := s.img.tpFile, phase := 1, started := s.now }
  let s : State := { s with img.loads := s.img.loads ++ [l] }
  ((s.set IMG_STATUS.TESTPORT 1).tpShow 0 0 1).loadFrame l true

/-- The module can take a test-port load: VREF_T stands (R545), the warden runs, and DRAM is powered. -/
def State.tpReady (s : State) : Bool := s.img.vrefT && s.sys.stages.contains 3 && decide (s.get PWR_STATUS.STATE < 4)

/-- Update-DR under IMGLOAD (R96): the frame goes to its place in the test port's own area of DRAM. -/
def testportFrame (frame : List Nat) (s : State) : State :=
  if !(s.tpReady && s.img.instr == 0x20) then s
  else
    let bytes := padTo 0 1024 frame
    let put := fun (n : Nat) => s.img.tpFile.store (1024 * n) bytes
    if leVal (bytes.take 4) = 0 then { s with img.tpFile := put 0 }.tpBegin
    else
      match s.loadOf 9 with
      | some l =>
        if l.phase = 1 then
          let l := { l with file := put l.n }
          ({ s with img.tpFile := put l.n }.loadPut l).loadFrame l true
        else s
      | none => s

def execImgload (t : Nat) (s : State) : Host.Outcome State Fault Refusal := .next (imgload (s.at t))
def execTestportFrame (t : Nat) (frame : List Nat) (s : State) : Host.Outcome State Fault Refusal := .next (testportFrame frame (s.at t))
def execImgstat (t : Nat) (s : State) : Host.Outcome State Fault Refusal := .next (imgstat (s.at t))
def execIdcode (t : Nat) (s : State) : Host.Outcome State Fault Refusal := .next (idcode (s.at t))
def execSamplePreload (t pins : Nat) (s : State) : Host.Outcome State Fault Refusal := .next (samplePreload pins (s.at t))
def execExtest (t : Nat) (s : State) : Host.Outcome State Fault Refusal := .next (extest (s.at t))
def execExtestUpdateDr (t cells : Nat) (s : State) : Host.Outcome State Fault Refusal := .next (extestUpdateDr cells (s.at t))
def execBypass (t opcode : Nat) (s : State) : Host.Outcome State Fault Refusal := .next (bypass opcode (s.at t))
def execTestLogicReset (t : Nat) (s : State) : Host.Outcome State Fault Refusal := .next (testLogicReset (s.at t))
def execVrefTLoss (t : Nat) (s : State) : Host.Outcome State Fault Refusal := .next (vrefTLoss (s.at t))
def execVrefTReturn (t : Nat) (s : State) : Host.Outcome State Fault Refusal := .next (vrefTReturn (s.at t))

end Sys2Proof.Machine
end

