-- ==== Sys2Proof/Machine/Line.lean ====
section
/-!
DEFINITION. Lines of a sweep run: the line boundary (R168, R286 to R289, R297 to R299), the output line (R294 to R303,
R306, R313 to R320, R377, R380), its completion, and the scan record in the buffer (R324).
-/
namespace Sys2Proof.Machine

/-! ### The line boundary -/

/-- A requested boundary may not be taken (R168, R288). -/
def State.lineOverrun (s : State) (b : Nat) : Bool :=
  match s.fpl.lastB, s.fpl.lastSet with
  | some lb, some o =>
    let f := s.image
    let v := if s.pendingDue (b / 16) then s.fpl.pending.getD s.activeSet else s.activeSet
    decide (b < lb + 16 * s.get SWP_ACT_MINPER.MINPER) || decide (b < lb + eLen f o.prog) ||
      decide (b + v.int + (progOf f v.prog).readOff < lb + o.int + (progOf f o.prog).readOff + rLen f o.prog)
  | _, _ => false

/-- The record of a raw line of the present forward run, in the delay lines or on its way to them. -/
def State.rawLine (s : State) (j : Nat) : Option FrameRec :=
  (s.swp.rows ++ s.fpl.frames).find? fun r => r.line && r.run == s.swp.runNo && r.index == (j : Int)

/-- A raw line taken and, so far, delivered to station 4. -/
def State.rawKept (s : State) (j : Nat) : Bool := (s.rawLine j).any (·.drop == .kept)

/-- Object index `j` lies in the object region. -/
def State.inObject (s : State) (j : Nat) : Bool :=
  s.get SWP_SCAN_OBJ_START.START ≤ j &&
    (s.get SWP_SCAN_OBJ_COUNT.COUNT == 0 || decide (j < s.get SWP_SCAN_OBJ_START.START + s.get SWP_SCAN_OBJ_COUNT.COUNT))

/-- BIN on a line image. -/
def State.lineBin (s : State) : Bool := (stageOf s.image 0x21).isSome

/-- The record of a raw line changed, wherever it is. -/
def State.modRaw (s : State) (j : Nat) (g : FrameRec → FrameRec) : State :=
  let f := fun (r : FrameRec) => if r.line && r.run == s.swp.runNo && r.index == (j : Int) then g r else r
  { s with swp.rows := s.swp.rows.map f, fpl.frames := s.fpl.frames.map f }

/-- The output line whose band-3 raw line `i` has its boundary here is judged (R440). -/
def State.lineAdmit (s : State) (i : Nat) : State :=
  if i < 24 then s
  else
    let j := i - 24
    if s.inObject j && s.rawKept j && s.rawKept (j + 8) && s.rawKept (j + 16) && !s.swp.dropped.contains j &&
        s.swp.high.all (· < j) && !s.lineBin then
      let bpp := (s.rawLine j).elim 2 fun r => bppOf r.format
      let a := s.takeIn (2 ^ 32 * s.get SWP_SCAN_NO.NUMBER + j) 1 (regionBytes bpp (s.regionsAt bpp))
      a.1.modRaw j fun r => { r with admitted := a.2.1, prevGap := a.2.2 }
    else s

/-- A line of Tier 3 dropped in turn (R55), from the object line whose band 0 this boundary reads: what an earlier run made of
that line no longer counts. -/
def State.lineTier3 (s : State) (i : Nat) : State × Bool :=
  let k := s.tier3
  let made := s.fpl.madeDrop
  let s : State := { k.1 with fpl.madeDrop := !k.2, swp.dropped := k.1.swp.dropped.filter (· != i) }
  if k.2 then (s, made)
  else ({ s.inc GOV_DECIM_COUNT.COUNT with swp.dropped := i :: s.swp.dropped }, false)

/-- The raw line of a forward boundary. -/
def State.forwardLine (s : State) (i b : Nat) (apply : Bool) : State :=
  let c := (s.refBoundary b).boundaryChange b apply
  let s := if apply then { c.1.stripEpoch.runBegin with swp.top := some i } else c.1
  let fresh := s.swp.lastTaken != some s.swp.runNo
  let d := s.lineTier3 i
  let fmt := formatAt s.image (s.get GOV_STATE.TIER)
  let newFmt := match s.cor.format with | some f => f != fmt | none => false
  let z := d.1.boundaryReset b (fresh || apply || newFmt || d.1.newGen)
  let stepped := z.1.stepBoundary.2
  let s := z.1.stepBoundary.1
  let st := s.get SWP_SCAN_OBJ_START.START
  let s : State := if i = st then
      { s with swp.computeDue := s.swp.computeDue || !s.swp.computed
               swp.scan := { s.swp.scan with gen := if s.swp.scan.stripOk then s.swp.scan.gen else s.cal.force.no } }
    else s
  let s := if st ≤ i then s.set SWP_SCAN_STATE.STATE 4 else s
  let r := s.newRec b (2 ^ 32 * s.get SWP_SCAN_NO.NUMBER + i) true
  let r : FrameRec := { r with
    index := i, run := s.swp.runNo, reset := z.2, predicted := decide (s.gov.boundaries ≤ 16)
    flags := (r.flags + 64 * b2n d.2) ||| (512 * b2n stepped) }
  let s : State := { s with swp.lastTaken := some s.swp.runNo, cor.format := some fmt }
  (s.captureBoundary b |>.frameIn b r).lineAdmit i

/-- The raw line of a boundary in REVERSE (R289). -/
def State.reverseLine (s : State) (i b : Nat) (apply : Bool) : State :=
  let s := ((s.refBoundary b).boundaryChange b apply).1
  let s := (if apply then s.stripEpoch else s).inc SWP_REVLINE_COUNT.COUNT
  let stepped := s.stepBoundary.2
  let s := s.stepBoundary.1
  let r := s.newRec b 0 true
  (s.captureBoundary b).frameIn b { r with index := i, drop := .reverse, flags := r.flags ||| (512 * b2n stepped) }

/-- LINE_BOUNDARY (R287): the oldest requested boundary. -/
def lineBoundary (s : State) : State :=
  if s.sys.mode = .characterise then s.charBoundary
  else match s.swp.reqs with
    | [] => s
    | (i, c, fwd) :: rest =>
      let b := tickAfter c
      if !s.sys.run || s.now < b then s
      else if s.sys.stopAt.isSome then (s.runOver).idleAgain
      else
        let s : State := { s with swp.reqs := rest }
        if s.lineOverrun b then ((s.inc FPL_OVERRUN_COUNT.COUNT).set FPL_EVENTS.OVERRUN 1).fault 0x0408
        else
          let s := (if s.fpl.idle then s.idleCut else s).set SWP_LINE_INDEX.INDEX i
          let apply := s.pendingDue (b / 16)
          if fwd then s.forwardLine i b apply else s.reverseLine i b apply

/-- The instant of the boundary of the run that is due: a frame boundary, or a requested line boundary. -/
def State.dueBoundary (s : State) : Option Nat :=
  if s.lineImage then
    if s.sys.run then (s.swp.reqs.head?.map fun (q : Nat × Nat × Bool) => tickAfter q.2.1).filter (· ≤ s.now) else none
  else if s.sys.run then (s.nextB.map (·.at_)).filter (· ≤ s.now) else none

/-- A change that acts at a boundary may act now: outside RUN, or at the boundary that is due. -/
def State.mayActNow (s : State) : Bool := !s.sys.run || s.dueBoundary.isSome

/-- CALGEN_APPLY (R242): the newest committed generation comes into force at the boundary that is due, outside RUN at once. -/
def calgenApply (s : State) : State := if s.mayActNow then s.genApply else s

/-- ILV_SET_APPLY (R191): the updated set of a front-end takes effect at the boundary that is due. -/
def ilvSetApply (fe : Nat) (s : State) : State := if s.dueBoundary.isSome then s.ilvApply fe else s

/-- ILV_WINDOW_CLOSE (R193): a full window closes at the boundary that is due. -/
def ilvWindowClose (fe : Nat) (s : State) : State := if s.dueBoundary.isSome then s.ilvClose fe else s

/-- SHUTTER_CYCLE_START (R252, R259): a due cycle starts at the boundary that is due. -/
def shutterCycleStart (s : State) : State :=
  match s.dueBoundary with
  | some b => if s.sys.stopAt.isNone then s.cycleStart b else s
  | none => s

/-- REF_SWITCH (R43): in RUN a change decided takes place at the boundary that is due, the first at least 1 REFTICK after the
decision, with the step that the command carries; outside RUN the decision has brought it. -/
def refSwitch (phaseStep : Int) (s : State) : State :=
  match s.gov.refTo, s.dueBoundary with
  | some src, some b => if s.refDue b then s.refTake src phaseStep else s
  | _, _ => s

/-- TIER_CHANGE (R57, R59): the scheduled change takes effect at the boundary that is due; the first boundary of a run makes the
choice of R61 itself. -/
def tierChange (s : State) : State :=
  match s.gov.tierNext, s.dueBoundary with
  | some t, some _ =>
    if t = s.get GOV_STATE.TIER ∨ s.gov.boundaries = 0 then s else { s.tierApply with gov.tierMade := true }
  | _, _ => s

/-- TIME_STEP (R394): in RUN the step that waits is made at the boundary that is due, and its frame or line carries REF_HOLDOVER;
outside RUN no step waits. -/
def timeStep (s : State) : State :=
  if s.fil.stepDue.isSome && s.dueBoundary.isSome then { s.stepTake with fil.stepMade := true } else s

def execShutterCycleStart (t : Nat) (s : State) : Host.Outcome State Fault Refusal := .next (shutterCycleStart (s.at t))
def execTimeStep (t : Nat) (s : State) : Host.Outcome State Fault Refusal := .next (timeStep (s.at t))

/-! ### The output line -/

/-- The four raw lines of object line `j`. -/
def State.fourLines (s : State) (j : Nat) : Option (List FrameRec) :=
  let l := (List.range 4).filterMap fun k => s.swp.rows.find? fun r => r.index == ((j + 8 * k : Nat) : Int) && r.drop == .kept
  if l.length = 4 then some l else none

/-- The raw codes of an object line: band k from its k-th raw line. -/
def bandPixels (l : List FrameRec) : List Pix :=
  (List.range 4).flatMap fun k => ((nth {} l k).raw).filter fun p => p.row == k

/-- VCS supplied a pixel of some band (R201). -/
def State.lineSpare (s : State) (l : List FrameRec) : Bool :=
  (List.range 4).any fun k => (tilesOf s.tileMask).any fun n =>
    match laneOf s.image (4 * n + k) with
    | some c => spareRows 1 (nth [] (nth ({} : FrameRec) l k).lanes c)
    | none => false

/-- The flags of an object line: its band-0 boundary's, REF_HOLDOVER of any raw line of its span, SPARE_ACTIVE,
SEAM_FILLED (R298, R316, R395). -/
def State.lineFlags (s : State) (j : Nat) (l : List FrameRec) : Nat :=
  let span := s.swp.rows.filter fun (r : FrameRec) => decide ((j : Int) ≤ r.index) && decide (r.index ≤ ((j + 24 : Nat) : Int))
  let seam := seamMode s.image != 0 && decide (0 < seamCount (4096 / max 1 (imgXavg s.image)) s.lineLayout.1)
  let held := span.any fun (r : FrameRec) => bit r.flags 9 == 1 || (r.heldAfter && decide (r.index < ((j + 24 : Nat) : Int)))
  (nth {} l 0).flags ||| (512 * b2n held) ||| (128 * b2n (s.lineSpare l)) ||| (1024 * b2n seam)

/-- A strip output line (R306): averaged the first time it completes; the last one makes the computation due. -/
def State.stripDone (s : State) (j : Nat) (l : List FrameRec) : State :=
  let r : FrameRec := { nth {} l 0 with raw := bandPixels l }
  let ts := (List.range 4).flatMap fun k => (nth ({} : FrameRec) l k).temps.map fun (e : Nat × Int × Bool) => (e.1 * 4 + k, e.2.1)
  let s := s.stripLine (s.inRegion true j) j r ts
  { s with swp.seen := j :: s.swp.seen, swp.computeDue := s.swp.computeDue || (j == s.lastStrip && !s.swp.computed) }

/-- Object lines that the high-water mark passes without emission (R294). -/
def State.skipped (s : State) (j : Nat) : Nat :=
  let from_ := match s.swp.high with | some h => h + 1 | none => s.get SWP_SCAN_OBJ_START.START
  ((List.range (j - from_)).filter fun k => !s.swp.dropped.contains (from_ + k)).length

/-- The emission of an object line counted (R294, R323). -/
def State.emitCount (s : State) (j : Nat) : State :=
  let n := s.skipped j
  let d := s.swp.scan
  let s := if n = 0 then s else (s.add SWP_SKIP_COUNT.COUNT n).set SWP_EVENTS.SKIP 1
  { s.set SWP_HIGHWATER.INDEX j with
    swp.high := some j
    swp.scan := { d with emitted := d.emitted + 1, first := some (d.first.getD j), last := some j, skipped := d.skipped + n } }

/-- A line reaches BIN (R380). -/
def State.toBin (s : State) (reset : Bool) (o : OutLine) : State :=
  let b := (o.j - s.get SWP_SCAN_OBJ_START.START) / max 1 (imgBy s.image)
  let s := match s.swp.bin with
    | some (c, _) => if c ≠ b ∨ reset then s.binClose else s
    | none => s
  { s with swp.bin := some (b, ((s.swp.bin.map (·.2)).getD []) ++ [o]) }

/-- Stations 5 to 7 of an emitted object line. -/
def State.lineEmit (s : State) (j : Nat) (l : List FrameRec) (reset : Bool) : State :=
  let f := s.image
  let r := nth {} l 0
  let ped := r.out.ped
  let k : Stat5 := ⟨f, true, r.format, ped, r.tier, s.eccOf r.gen, r.gains, r.temps, r.set, bandPixels l⟩
  let ts := (tilesOf s.tileMask).map k.tile
  let flags := s.lineFlags j l
  let s := (s.emitCount j).set COR_STATUS.FORMAT r.format
  let s := ts.foldl (fun (s : State) t => s.corCount t.2) s
  let s := r.temps.foldl (fun (s : State) e => s.dtSat e.1 e.2.2) s
  let px := xavg r.format ped (imgXavg f) (ts.flatMap (·.1))
  let sh := if (stageOf f 0x24).isSome then shade f r.set ped px else (px, 0)
  let s := s.add SWP_SHD_SAT_COUNT.COUNT sh.2
  let px := (s.asOut r.out).stitchLine r.format ped sh.1
  let s := s.edgeLine r.format j px
  let left := decide (2 ≤ s.fil.lastTier) && decide (r.tier < 2)
  let a := tempAvg f r.format ped r.tier left (if reset then [] else s.fil.hist) px flags
  let s : State := { s with fil.hist := a.1, fil.lastTier := r.tier }
  let o : OutLine := ⟨j, { r with flags := a.2.2 }, ((nth ({} : FrameRec) l 3).lastSample).getD s.now, a.2.1, ts.map (·.2)⟩
  let s := if s.lineBin then s.toBin reset o else s
  { s with swp.outq := s.swp.outq ++ [o] }

/-- A complete object line: to the strips, discarded, or emitted (R294). -/
def State.lineComplete (s : State) (j : Nat) (l : List FrameRec) (reset : Bool) : State :=
  if s.inRegion false j || s.inRegion true j then s.stripDone j l
  else if !s.inObject j then s.inc SWP_GAPLINE_COUNT.COUNT
  else if s.swp.high.any (j ≤ ·) then s.inc SWP_REPEAT_COUNT.COUNT
  else s.lineEmit j l reset

/-- A reset that no output line has taken passes to the next one (R382). -/
def State.resetPending (s : State) (j : Nat) : Bool := s.swp.rows.any fun r => r.reset && decide (r.index ≤ (j : Int))

/-- Rows that no later output line needs leave the delay lines (R296). -/
def State.rowsPrune (s : State) (j : Nat) (taken : Bool) : State :=
  let lost := !taken && s.resetPending j
  let rows := s.swp.rows.filter fun r => (j : Int) < r.index
  let rows := match rows with
    | r :: rest => { r with reset := r.reset || lost } :: rest
    | [] => []
  { s with swp.rows := rows }.set SWP_ALIGN_STATUS.DEPTH (min 24 rows.length)

/-- An object line that is not emitted: the tier of its band-0 boundary passes TEMPAVG without a value (R54). -/
def State.tierPass (s : State) (j : Nat) : State :=
  match s.swp.rows.find? fun r => r.index == (j : Int) with
  | some r => s.filSkip r.tier false
  | none => s

/-- A raw line of the present forward run passes band 3 (R297). -/
def State.rawDone (s : State) (r : FrameRec) (i : Nat) : State :=
  let s : State := { s with swp.rows := s.swp.rows ++ [r] }
  if i < 24 then s.set SWP_ALIGN_STATUS.DEPTH (min 24 s.swp.rows.length)
  else
    let j := i - 24
    let whole := s.fourLines j
    match whole, s.swp.dropped.contains j with
    | some l, false =>
      let out := s.inObject j && !s.swp.high.any (j ≤ ·)
      (if out then s else s.tierPass j).lineComplete j l (s.resetPending j) |>.rowsPrune j out
    | _, _ =>
      let cut := (s.rawLine j).any (·.admitted)
      let s := s.tierPass j
      let s := if cut then s.bbCut (2 ^ 32 * s.get SWP_SCAN_NO.NUMBER + j) else s
      s.rowsPrune j false

/-- OUTPUT_LINE_EMIT (R297): the oldest raw line read reaches station 6. A line of a run that has ended is discarded, and
with it the output line admitted at its boundary. -/
def outputLineEmit (s : State) : State :=
  match s.fpl.frames with
  | r :: l =>
    if !r.line || r.lastSample.isNone || s.sys.mode == .characterise then s
    else
      let s : State := { s with fpl.frames := l }
      if r.drop = .reverse then s
      else if s.scanning && s.swp.run && r.run == s.swp.runNo then
        let i := r.index.toNat
        let s := s.rawDone r i
        if i = s.lastIndex then { s with swp.endDue := some 1 } else s
      else if 24 ≤ r.index then s.bbCut (r.no - 24) else s
  | [] => s

/-! ### Completion -/

/-- FRAME_COMPLETE of an output line (R48, R298); with BIN the line is measured and its bin is the entry. -/
def State.lineDone (s : State) (o : OutLine) : State :=
  let s : State := { s.inc (tierFrames o.recd.tier) with swp.outq := s.swp.outq.drop 1 }
  if s.lineBin then (s.slackOf o.recd (o.last / 16)).1
  else if o.recd.admitted then
    let g := s.slackOf o.recd (o.last / 16)
    g.1.lineFill o.recd 1 g.2 o.recd.flags (o.last / 16) o.px o.counts
  else s

/-- FRAME_COMPLETE (R48): the oldest frame read, or the oldest output line, is complete in the burst buffer. -/
def frameComplete (s : State) : State :=
  let s := s.popDrops
  match s.swp.outq, s.fpl.frames with
  | o :: _, _ => s.lineDone o
  | [], r :: _ =>
    match r.lastSample with
    | some a => if !r.line && r.drop == .kept then s.frameDone r a else s
    | none => s
  | [], [] => s

/-! ### Scans -/

/-- ENCODER_INDEX (R279, R283, R291, R414): a change of I is accepted; a rise in FORWARD is an index edge. -/
def encoderIndex (s : State) : State :=
  let l := s.get SWP_ENC_STATUS.LEVELS
  if 1 < s.get PWR_STATUS.STATE || !s.filtOk s.swp.iAt then s
  else
    let rise := bit l 2 == 0
    let s : State := { s.set SWP_ENC_STATUS.LEVELS (l % 4 + 4 * b2n rise) with swp.iAt := some s.now }
    if rise then
      let r := s.indexEdge
      if r.2 then r.1.monTrigger 1 else r.1
    else s

/-- SCAN_END (R293): the event that ends the scan has come. -/
def scanEnd (s : State) : State :=
  if !s.scanning then s
  else match s.swp.endDue, s.swp.hostEnd with
    | some c, _ => (s.scanOver c).idleAgain
    | none, some t => if t + 16 * s.get SWP_ACT_NOMPER.NOMPER ≤ s.now then (s.scanOver 2).idleAgain else s
    | none, none => s

/-- The header of a scan record: what R448 gives no value for a record is open. -/
def State.recordHead (s : State) (no gap : Nat) : Head :=
  let v := fun k => Config.freeValue 9 (s.free + k)
  { kind := 3, fmt := v 0 % 3, no := no, epoch := v 1 % 2 ^ 16, tier := v 2 % 256, gen := v 3 % 2 ^ 32, secs := v 4 % 2 ^ 48,
    ns := v 5 % 10 ^ 9, gap := gap, flags := v 6 % 2 ^ 11, w := v 7 % 2 ^ 16, h := v 8 % 2 ^ 16, fill := v 9 % 2 ^ 32,
    gains := v 10 % 2 ^ 16, int := v 11 % 2 ^ 32, period := v 12 % 2 ^ 32, prog := v 13 % 16, tick := v 14 % 2 ^ 64,
    last := v 15 % 2 ^ 32 }

/-- SCAN_RECORD (R324): the record of the ended scan is judged, as the newest entry, and stands in its words. -/
def scanRecord (s : State) : State :=
  match s.recordDue with
  | none => s
  | some b =>
    let no := 2 ^ 32 * leVal ((b.drop 8).take 4) + 0xFFFFFFFF
    let a := (s.showRecord b).takeIn no 3 0
    if a.2.1 then
      let h := a.1.recordHead no a.2.2
      let s : State := { a.1 with free := a.1.free + 16 }
      s.bbFill no fun e => { s.fillEntry h (fun _ => []) [] e with record := b }
    else a.1

def execRefSwitch (t : Nat) (phaseStep : Int) (s : State) : Host.Outcome State Fault Refusal := .next (refSwitch phaseStep (s.at t))
def execTierChange (t : Nat) (s : State) : Host.Outcome State Fault Refusal := .next (tierChange (s.at t))
def execIlvWindowClose (t fe : Nat) (s : State) : Host.Outcome State Fault Refusal := .next (ilvWindowClose fe (s.at t))
def execIlvSetApply (t fe : Nat) (s : State) : Host.Outcome State Fault Refusal := .next (ilvSetApply fe (s.at t))
def execCalgenApply (t : Nat) (s : State) : Host.Outcome State Fault Refusal := .next (calgenApply (s.at t))
def execLineBoundary (t : Nat) (s : State) : Host.Outcome State Fault Refusal := .next (lineBoundary (s.at t))
def execOutputLineEmit (t : Nat) (s : State) : Host.Outcome State Fault Refusal := .next (outputLineEmit (s.at t))
def execFrameComplete (t : Nat) (s : State) : Host.Outcome State Fault Refusal := .next (frameComplete (s.at t))
def execEncoderIndex (t : Nat) (s : State) : Host.Outcome State Fault Refusal := .next (encoderIndex (s.at t))
def execScanEnd (t : Nat) (s : State) : Host.Outcome State Fault Refusal := .next (scanEnd (s.at t))
def execScanRecord (t : Nat) (s : State) : Host.Outcome State Fault Refusal := .next (scanRecord (s.at t))

end Sys2Proof.Machine
end

