-- ==== Sys2Proof/Machine/View.lean ====
section
/-!
DEFINITION. What a READ of a register returns (R12, R13, R468): the fields of the register file, and the fields that follow
the state of a block.
-/
namespace Sys2Proof.Machine

/-- The fields of a word as the register file holds them; WO fields and reserved bits read 0. -/
def State.plainWord (s : State) (addr : Nat) : Nat :=
  match fieldsAt addr with
  | some fs => (fs.map fun f => if f.acc == .wo then 0 else s.get f * 2 ^ f.lsb).sum
  | none => 0

/-- The lower and the upper 32 bits of a value. -/
def lo32 (v : Nat) : Nat := v % 2 ^ 32
def hi32 (v : Nat) : Nat := v / 2 ^ 32 % 2 ^ 32

/-- Word `i` of some bytes; 0 beyond them. -/
def byteWord (bs : List Nat) (i : Nat) : Nat := leVal ((bs.drop (4 * i)).take 4)

/-! ### ENG and OPS -/

/-- ENG_TOKEN as a session reads it (R478). -/
def State.tokenWord (s : State) (sess : Nat) : Nat :=
  match (s.tmp.sessions.find? (·.no == sess)).bind (·.token) with
  | some k => 1 + 16 * k.setting + 256 * (k.count % 256)
  | none => 0

/-- OP_STATUS with its PROGRESS (R483). -/
def State.opStatusWord (s : State) (k : Nat) : Nat :=
  s.plainWord (0xD0114 + 0x100 * k) - 2 ^ 16 * s.get (OP_STATUS.PROGRESS k) + 2 ^ 16 * (s.progress k % 1024)

def State.engWord (s : State) (sess addr : Nat) : Option Nat :=
  if 0x110 ≤ addr ∧ addr < 0x120 then
    let d := stepDecl ((addr - 0x110) / 4)
    some (d.1 + 2 ^ 16 * d.2)
  else match addr with
    | 0x00 => some (0x32 + 2 ^ 16 * (Config.hwRev % 256))
    | 0x04 => some (lo32 Config.serial)
    | 0x08 => some (hi32 Config.serial)
    | 0x0C => some (lo32 s.secs)
    | 0x10 => some s.engStatus
    | 0x58 => some (lo32 Config.mgmtMac)
    | 0x5C => some (Config.mgmtMac / 2 ^ 32 % 2 ^ 16)
    | 0x6C => some (s.tokenWord sess)
    | 0x100 => some stepping
    | _ => none

def State.opsWord (s : State) (addr : Nat) : Option Nat :=
  if addr = 0xD0000 then some (((List.range 8).map fun k => s.get (OP_STATUS.STATE k) * 2 ^ (3 * k)).sum)
  else if 0xD0100 ≤ addr ∧ addr < 0xD0900 ∧ addr % 0x100 = 0x14 then some (s.opStatusWord ((addr - 0xD0100) / 0x100))
  else none

/-! ### The data path: GOV, PWR, COR, SWP, SOL, FIL, PRT -/

/-- SOL_STATUS: a batch runs, of the host, of the module; host batches accepted; the tier of the one that runs. -/
def State.solStatus (s : State) : Nat :=
  let host := s.sol.batches.find? (·.tier.isSome)
  let own := s.vfe.solving ≠ [] || s.cal.refit.isSome || s.swp.fitDue.isSome || s.get CAL_CHAR_STATE.STATE == 4
  b2n (host.isSome || own) + 2 * b2n host.isSome + 4 * b2n own + 16 * (s.sol.batches.length % 8) +
    256 * ((host.bind (·.tier)).getD 0)

/-- FIL_STATUS (R377). -/
def State.filStatus (s : State) : Nat :=
  let f := s.image
  imgDepth f + 2 ^ 8 * depthAt f s.fil.lastTier + 2 ^ 16 * min 127 s.fil.hist.length + 2 ^ 24 * stageParam f 0x21 0 1 +
    2 ^ 27 * stageParam f 0x21 1 1

/-- Words that follow the active image, the geometry and the generation in force: COR_STATUS, and in a line image SWP_ALIGN_STATUS,
SWP_ALIGN_BYTES, SWP_STITCH_STATUS, SWP_STITCH_OFFn and SWP_SHD_STATUS (R296, R312, R314). -/
def State.imageWord (s : State) (addr : Nat) : Option Nat :=
  if addr = 0x60000 then some (s.showStages.plainWord addr)
  else if s.lineImage ∧ (addr = 0x80200 ∨ addr = 0x80204 ∨ (0x80880 ≤ addr ∧ addr ≤ 0x808C0)) then some (s.showLine.plainWord addr)
  else none

/-- Words of the GOV, PWR, COR and SWP blocks. What the power unit measures is open. -/
def State.pathWord (s : State) (addr : Nat) : Option Nat :=
  if 0x30030 ≤ addr ∧ addr < 0x30040 then some (Config.freeValue (16 + (addr - 0x30030) / 4) s.free % 2 ^ 16)
  else if 0x60800 ≤ addr ∧ addr < 0x60A00 then some (s.bpmWord ((addr - 0x60800) / 4))
  else if 0x81000 ≤ addr ∧ addr < 0x85000 then some (s.refWord ((addr - 0x81000) / 4))
  else match addr with
    | 0x10110 => some (s.gov.holdSince.elim 0 fun t => (s.now - t) / sec % 2 ^ 24)
    | 0x80018 => some (unsigned 32 s.encRate)
    | 0x90000 => some s.solStatus
    | 0xA0000 => some s.filStatus
    | 0xA0408 => some (lo32 (s.stamp s.now).1)
    | 0xA0438 => some (s.holdTime % 2 ^ 24)
    | 0xA0108 => some (lo32 (nth (0, 0) s.fil.tins 0).1)
    | 0xA0118 => some (lo32 (nth (0, 0) s.fil.tins 1).1)
    | _ => s.imageWord addr

/-- Words of the PRT block. -/
def State.prtWord (s : State) (addr : Nat) : Option Nat :=
  if 0xC0100 ≤ addr ∧ addr < 0xC0500 then
    let p := (addr - 0xC0100) / 0x100
    match addr % 0x100 with
    | 0x14 => some (lo32 (portMac p))
    | 0x18 => some (hi32 (portMac p))
    | 0x20 => some (lo32 (s.pauseMs p))
    | _ => none
  else if 0xC0800 ≤ addr ∧ addr < 0xC1000 then
    let c := (addr - 0xC0800) / 0x80
    match addr % 0x80 with
    | 0x04 => some (s.chanState c + 2 ^ 8 * s.get (PRT_CHn_STATUS.REFUSE c))
    | 0x58 => some (Config.localQpn c % 2 ^ 24)
    | _ => none
  else none

/-! ### NVS -/

/-- The bytes of an event log entry (R519). -/
def LogEnt.bytes (e : LogEnt) : List Nat :=
  let b := leBytes 2 e.code ++ [e.kind, e.inst] ++ leBytes 4 e.boot ++ leBytes 4 e.ms ++ leBytes 6 e.sec ++ leBytes 4 e.ns ++
    leBytes 4 e.status ++ [0, 0]
  b ++ leBytes 4 (crc32 b)

/-- Entries that the event log ring holds of all that were written: the block that an entry opened was erased first. -/
def logHeld (n : Nat) : Nat := if n ≤ 512 * 8192 then n else 511 * 8192 + ((n - 1) % 8192 + 1)

/-- The tally cells, with those burnt at the factory (R505). -/
def State.cellsAll (s : State) : Nat := s.nv.cells % 2 ^ 384 + 2 ^ 384 * (Config.serial % 2 ^ 64) + 2 ^ 448 * (Config.factoryCells % 2 ^ 64)

/-- The SEQ of the newest PANEL_END; 0 where there is none. -/
def State.panelEndSeq (s : State) : Nat :=
  ((s.nv.journal.find? fun r => r.ok && r.type == 0x31).map fun r => leVal (r.payload.take 4)).getD 0

/-- Green row of R518, counted from 0. -/
def State.lampGreen (s : State) : Nat :=
  let p := s.get PWR_STATUS.STATE
  if p = 5 ∨ !s.pwr.unit then 0
  else if s.on IMG_STATUS.TESTPORT then 1
  else if p = 4 then 2
  else if p ≠ 0 then 3
  else if s.sys.run then 4
  else if s.sys.mode = .none ∨ s.sys.mode = .quarantine then 6 else 5

/-- Amber row of R518, counted from 0. -/
def State.lampAmber (s : State) : Nat :=
  if s.get PWR_STATUS.STATE = 5 ∨ !s.pwr.unit then 0
  else if s.on IMG_STATUS.TESTPORT then 1
  else if s.sys.mode = .none ∨ s.sys.recovery then 2
  else if s.sys.mode = .quarantine then 3
  else if s.alm.active ≠ [] then 4 else 5

def State.nvsWord (s : State) (addr : Nat) : Option Nat :=
  if 0xE0100 ≤ addr ∧ addr < 0xE0120 then
    let k := (addr - 0xE0100) / 4
    if 1 ≤ k ∧ k ≤ 5 then some (s.tally k + 2 ^ 16 * tallyTotal k) else none
  else if 0xE0120 ≤ addr ∧ addr < 0xE0160 then some (bits s.cellsAll (8 * (addr - 0xE0120)) 32)
  else if 0xE0180 ≤ addr ∧ addr < 0xE01C0 then
    some (byteWord (((s.nv.tlog0.reverse)[s.get NVS_TLOG_SEL.INDEX]?).elim [] TRec.bytes) ((addr - 0xE0180) / 4))
  else if 0xE0220 ≤ addr ∧ addr < 0xE0240 then
    let i := s.get NVS_LOG_SEL.INDEX
    some (byteWord (if i < logHeld s.nv.events.length then (s.nv.events[i]?).elim [] LogEnt.bytes else []) ((addr - 0xE0220) / 4))
  else match addr with
    | 0xE0024 => some (lo32 s.nv.jseq)
    | 0xE0028 => some (hi32 s.nv.jseq)
    | 0xE002C => some (s.nv.jfree % 2 ^ 9)
    | 0xE0038 => some s.nv.dirty.length
    | 0xE003C => some (spareBlocks - s.nv.spareUsed)
    | 0xE0040 => some s.nv.retired.length
    | 0xE0044 => some ((s.nv.erases.map (·.2)).foldl max 0)
    | 0xE0160 => some s.nv.tlog0.length
    | 0xE0200 => some (lo32 (logHeld s.nv.events.length))
    | 0xE0300 => some (s.panelState + 16 * s.nvs.lastKind)
    | 0xE0304 => some (lo32 s.panelEndSeq)
    | 0xE030C => some (lo32 s.nv.panelCount)
    | 0xE0390 => some (s.lampGreen + 16 * s.lampAmber)
    | _ => none

/-! ### ALM -/

def State.almWord (s : State) (addr : Nat) : Option Nat :=
  if addr = 0xF0000 then
    some (min 64 s.alm.active.length + 2 ^ 8 * b2n (s.isActive 0x0F01 noInst) + 2 ^ 9 * b2n (s.isActive 0x0F02 noInst))
  else if 0xF0100 ≤ addr ∧ addr < 0xF0500 then
    match s.alm.active[(addr - 0xF0100) / 16]? with
    | none => some 0
    | some e =>
      match addr % 16 with
      | 0 => some (e.code + 2 ^ 16 * e.inst + 2 ^ 24 * b2n (ackable e.code) + 2 ^ 25 * b2n e.esc)
      | 4 => some e.count
      | 8 => some (lo32 e.first)
      | _ => some (lo32 e.last)
  else none

/-! ### The word read -/

/-- The fields that follow the state of a block, where the address holds one. -/
def State.liveWord (s : State) (sess addr : Nat) : Option Nat :=
  match addr / 0x10000 with
  | 0 => s.engWord sess addr
  | 12 => s.prtWord addr
  | 13 => s.opsWord addr
  | 14 => s.nvsWord addr
  | 15 => s.almWord addr
  | _ => s.pathWord addr

/-- The value that a session reads at an address of the register space. -/
def State.view (s : State) (sess addr : Nat) : Nat := (s.liveWord sess addr).getD (s.plainWord addr)

/-- The latches of a READ (FIL_TIME_NOW, FIL_TINn_TS): the low word holds the others at its instant. -/
def State.latch (s : State) (addr : Nat) : State :=
  match addr with
  | 0xA0408 =>
    let t := s.stamp s.now
    (s.set FIL_TIME_NOW_SEC_HI.SEC (t.1 / 2 ^ 32)).set FIL_TIME_NOW_NS.NS t.2
  | 0xA0108 => s.set (FIL_TINn_TS_NS.NS 0) (nth (0, 0) s.fil.tins 0).2
  | 0xA0118 => s.set (FIL_TINn_TS_NS.NS 1) (nth (0, 0) s.fil.tins 1).2
  | _ => s

/-- The addresses of `n` registers from `addr` on. -/
def regAddrs (addr n : Nat) : List Nat := (List.range n).map fun i => addr + 4 * i

/-- A READ (R468): the state after it, and the values, all of one instant. -/
def State.readRegs (s : State) (sess addr n : Nat) : State × List Nat :=
  let s := (regAddrs addr n).foldl State.latch s
  ({ s with free := s.free + 1 }, (regAddrs addr n).map (s.view sess))

end Sys2Proof.Machine
end

