-- ==== Sys2Proof/Machine/Write.lean ====
section
/-!
DEFINITION. A write of one register (R12 to R14, R552, R553): the registers whose write does something, and all others.
-/
namespace Sys2Proof.Machine

/-! ### Fields without a behaviour of their own -/

/-- A field written: RW takes the value, a 1 clears a W1C bit, an RO field ignores it (R12, R552). -/
def State.putField (s : State) (v : Nat) (f : Fld) : State :=
  match f.acc with
  | .rw => s.set f (f.ofWord v)
  | .w1c => s.set f (clearBits (s.get f) (f.ofWord v))
  | _ => s

/-- Every RW and W1C field of a word written. -/
def State.putFields (s : State) (fs : List Fld) (v : Nat) : State := fs.foldl (fun s f => s.putField v f) s

/-- A written RW field lies outside its range (R14). -/
def outOfRange (fs : List Fld) (v : Nat) : Bool :=
  fs.any fun f => f.acc == .rw && (decide (f.ofWord v < f.lo) || decide (f.hi < f.ofWord v))

/-- A commit resets the register (R103), so LOAD refuses its write (R105). -/
def commitResets (addr : Nat) (fs : List Fld) : Bool := resetRange addr && fs.any (·.acc == .rw)

/-- A write of the RW and W1C fields of a register, with what refuses it: no register, RO alone (R12), LOAD (R105), a range
(R14). A 1 in a reserved bit has no effect, and the named fields take effect (chapter 00, "A reserved bit during a
write"). -/
def plainWrite (addr v : Nat) (s : State) : State × WRes :=
  match fieldsAt addr with
  | none => (s, .refuse 1 0)
  | some fs =>
    if fs.all (·.acc == .ro) then (s, .refuse 1 0x01)
    else if s.sys.mode = .load ∧ commitResets addr fs then (s, .refuse 1 0x03)
    else if outOfRange fs v then (s, .refuse 1 0x0D)
    else (s.putFields fs v, .ok)

/-! ### Command bits -/

/-- Actions taken in turn until one is refused. -/
def actions : List (Bool × (State → State × WRes)) → State → State × WRes
  | [], s => (s, .ok)
  | (on, f) :: l, s =>
    if on then
      match f s with
      | (s, .ok) => actions l s
      | r => r
    else actions l s

/-- An action that nothing refuses. -/
def always (f : State → State) (s : State) : State × WRes := (f s, .ok)

/-! ### ENG, OPS, NVS, ALM -/

/-- A register stored in NAND on write (R464, R474, R494). -/
def storedWrite (addr v : Nat) (s : State) : State × WRes :=
  match plainWrite addr v s with
  | (s, .ok) => (s.config addr (s.plainWord addr), .ok)
  | r => r

/-- A write of OP_CMD (R481). TILE_BIND reads the tile that is there. -/
def opCmdWrite (sess slot cmd : Nat) (s : State) : State × WRes :=
  match cmd with
  | 0x0201 => imgVerifyStart sess slot s
  | 0x0202 => imgActivateStart sess slot s
  | 0x0203 => imgWriteStart sess slot s
  | 0x0204 => imgEraseStart sess slot s
  | 0x0401 => tileBindStart (Config.tileRead (s.opArg slot 0) s.free) sess slot s.nextFree
  | 0x0701 => calCharacteriseStart sess slot s
  | 0x0702 => calRevertStart sess slot s
  | 0x0901 => solRunStart sess slot s
  | 0x0E01 => fwWriteStart sess slot s
  | 0x0E02 => storeScrubStart sess slot s
  | 0x0E03 => panelRefreshStart sess slot s
  | 0x0E04 => arbEpochIncStart sess slot s
  | 0x0E05 => facilityWriteStart sess slot s
  | c => s.opStart slot c (fun _ => none) id

/-- A write in an operation slot (R481, R485). The arbiter's grant to an abort, and what a solver batch has done by then, are
open. -/
def slotWrite (sess addr v : Nat) (s : State) : State × WRes :=
  let k := (addr - 0xD0100) / 0x100
  match addr % 0x100 with
  | 0x00 => opCmdWrite sess k (v % 2 ^ 16) s
  | 0x04 | 0x08 | 0x0C | 0x10 => if s.slotLive k then (s, .refuse 1 0) else plainWrite addr v s
  | 0x18 => opCtrlWrite k v (Config.freeBool 6 s.free) (Config.abortCuts s.free) s.nextFree
  | _ => plainWrite addr v s

/-! ### The data path -/

/-- VFE_SPARE_CTRL: ROT_EN, and RELEASE (R209). -/
def spareCtrlWrite (v : Nat) (s : State) : State × WRes :=
  s.loadGuard fun s =>
  actions [(VFE_SPARE_CTRL.RELEASE.ofWord v == 1, spareReleaseWrite),
    (true, always fun s => s.set VFE_SPARE_CTRL.ROT_EN (VFE_SPARE_CTRL.ROT_EN.ofWord v))] s

/-- The strip and edge settings, locked while a scan is not IDLE; the heaters follow them (R305). -/
def refWrite (addr v : Nat) (s : State) : State × WRes :=
  if !s.refFree then (s, .refuse 1 0)
  else
    match plainWrite addr v s with
    | (s, .ok) => (s.heatUpdate, .ok)
    | r => r

/-- Commands of the timing and image path. -/
def pathWrite (addr v : Nat) : State → State × WRes :=
  let b := fun i => bit v i == 1
  match addr with
  | 0x10000 => govCtrlWrite v
  | 0x10004 => govVlimitWrite v
  | 0x1000C => govThresholdWrite false v
  | 0x10010 => govThresholdWrite true v
  | 0x10040 => actions [(b 0, always govClrCounts), (b 1, always govClrMin)]
  | 0x10100 => govRefCtrlWrite v
  | 0x30000 => pwrTargetWrite v
  | 0x40000 => epochCommit v
  | 0x50600 => spareCtrlWrite v
  | 0x50804 => actions [(b 0, always vfeClrClip), (b 1, always vfeClrSpare)]
  | 0x60004 | 0x60008 | 0x6000C => corOutputWrite addr v
  | 0x60014 => actions [(b 0, always corClrCounts)]
  | 0x7001C => calShutCmdWrite v
  | 0x70304 => calCharCmdWrite v
  | 0x80020 => actions [(b 0, encZeroWrite)]
  | 0x80040 => lineCplWrite v
  | 0x8011C => actions [(b 0, scanArmWrite), (b 1, scanEndWrite)]
  | 0x80138 => actions [(b 0, always swpClrCounts)]
  | 0x80800 | 0x80804 | 0x80808 | 0x80900 | 0x80904 => refWrite addr v
  | 0x90024 => actions [(b 0, always solClrCounts)]
  | _ => if 0x40300 ≤ addr ∧ addr < 0x40380 then fplGeomWrite addr v else plainWrite addr v

/-- Commands of FIL, MON and PRT. -/
def portWrite (addr v : Nat) : State → State × WRes :=
  let b := fun i => bit v i == 1
  let ch := (addr - 0xC0800) / 0x80
  match addr with
  | 0xA0004 => filSyncCtrlWrite v
  | 0xA0008 => actions [(b 0, always filSyncReset)]
  | 0xA0400 => todSrcWrite v
  | 0xA0420 => actions [(b 0, timeSet)]
  | 0xB0004 => actions [(b 0, monCalibrate), (b 1, monInjGo), (b 2, monSeqApply)]
  | 0xB0030 => actions [(b 0, always monClrCounts)]
  | 0xC0000 => bbCtrlWrite v
  | 0xC0008 => actions [(b 0, bbArm), (b 1, bbStop), (b 2, bbFlush)]
  | 0xC0030 => actions [(b 0, always prtClrCounts)]
  | _ =>
    if 0xA0200 ≤ addr ∧ addr < 0xA0220 then toutWrite addr v
    else if 0xB0380 ≤ addr ∧ addr < 0xB0500 then monAlarmWrite addr v
    else if 0xC0104 ≤ addr ∧ addr < 0xC0500 ∧ ([0x04, 0x08, 0x0C, 0x10, 0x1C].contains (addr % 0x100)) then portConfigWrite addr v
    else if 0xC0800 ≤ addr ∧ addr < 0xC1000 then
      if addr % 0x80 = 0 then channelCtrlWrite ch v
      else if addr % 0x80 = 0x50 then consWrite ch v
      else if [0x08, 0x0C, 0x10, 0x14, 0x30, 0x34, 0x38, 0x3C, 0x40, 0x44, 0x48, 0x4C].contains (addr % 0x80) then portConfigWrite addr v
      else plainWrite addr v
    else plainWrite addr v

/-- The blocks of control: ENG, IMG, OPS, NVS, ALM. A 0 in a CT field is no request (R553). -/
def controlWrite (sess addr v : Nat) : State → State × WRes :=
  match addr with
  | 0x14 => modeCmdWrite v
  | 0x38 | 0x3C | 0x40 | 0x44 | 0x48 | 0x4C => storedWrite addr v
  | 0x148 => actions [(bit v 0 == 1, quarOverrideWrite sess)]
  | 0x20020 => primaryWrite v
  | 0x20028 => actions [(bit v 0 == 1, goldenUnlockWrite sess)]
  | 0x20030 => stageLenWrite (IMG_STAGE_LEN.LEN.ofWord v)
  | 0x20034 => actions [(bit v 0 == 1, stageClear)]
  | 0xE0004 => nvsCmdWrite v
  | 0xF0004 => almAckWrite v
  | _ => if 0xD0100 ≤ addr ∧ addr < 0xD0900 then slotWrite sess addr v else plainWrite addr v

/-- A write of a register by a session. -/
def regWrite (sess addr v : Nat) (s : State) : State × WRes :=
  match addr / 0x10000 with
  | 0 | 2 | 13 | 14 | 15 => controlWrite sess addr v s
  | 10 | 11 | 12 => portWrite addr v s
  | _ => pathWrite addr v s

/-- REGISTER_WRITE: a register written by a session, as a command of its own. -/
def registerWrite (sess addr v : Nat) (s : State) : State := State.hostWrite addr (regWrite sess addr (v % 2 ^ 32)) s

def execRegisterWrite (t sess addr v : Nat) (s : State) : Host.Outcome State Fault Refusal := .next (registerWrite sess addr v (s.at t))

end Sys2Proof.Machine
end

