-- ==== Sys2Proof/Machine/Tmp.lean ====
section
/-!
DEFINITION. TMP, the management protocol (R465 to R478): how a request is judged, the ten operations, and the reply.
-/
namespace Sys2Proof.Machine

/-! ### Replies (R466, R469 to R471) -/

/-- What a request comes to: STATUS, REASON, COUNT, and the payload of its reply. -/
structure Ans where
  status : Nat := 0
  reason : Nat := 0
  count : Nat := 0
  payload : List Nat := []

/-- A refusal. -/
def no (status reason : Nat) : Ans := { status := status, reason := reason }

/-- The bytes of a reply (R466). -/
def replyBytes (op : Nat) (q : TmpReq) (sess : Nat) (a : Ans) : List Nat :=
  leBytes 4 0x52504D54 ++ [1, op, a.status, 0] ++ leBytes 4 sess ++ leBytes 4 q.seq ++ leBytes 4 q.addr ++ leBytes 2 a.count ++
    leBytes 2 a.reason ++ a.payload

/-- A reply goes to the source of its request; its STATUS is byte 6. -/
def State.tmpOut (s : State) (q : TmpReq) (bytes : List Nat) : State :=
  (if nth 0 bytes 6 = 0 then s else s.inc ENG_TMP_ERR.COUNT).emit (.tmpReply q.srcIp q.srcPort bytes)

/-- A request answered; a refusal is the newest one (R470). -/
def State.tmpAnswer (s : State) (op : Nat) (q : TmpReq) (sess : Nat) (a : Ans) : State :=
  (if a.status = 0 then s else s.noteRefuse op q.addr a.status a.reason).tmpOut q (replyBytes op q sess a)

/-- A session changed. -/
def State.sessMod (s : State) (n : Nat) (f : Sess → Sess) : State :=
  { s with tmp.sessions := s.tmp.sessions.map fun e => if e.no = n then f e else e }

/-- An executed request answered: it becomes LAST, and its reply is held (R472). -/
def State.tmpFinish (s : State) (op : Nat) (q : TmpReq) (a : Ans) : State :=
  (s.tmpAnswer op q q.session a).sessMod q.session fun e => { e with seq := q.seq, held := replyBytes op q q.session a }

/-! ### Step 1: the header (R467, R472) -/

/-- REQ_LEN of a SETTING (R477). -/
def reqLen : Nat → Nat
  | 1 => 9 | 2 => 19 | 3 => 1 | 4 => 1 | _ => 16

/-- A token block's fields. -/
def tkSetting (b : List Nat) : Nat := nth 0 b 4
def tkKey (b : List Nat) : Nat := leVal ((b.drop 6).take 2)
def tkCount (b : List Nat) : Nat := leVal ((b.drop 8).take 2)
def tkLen (b : List Nat) : Nat := leVal ((b.drop 10).take 2)
def tkRequest (b : List Nat) : List Nat := (b.drop 16).take (tkLen b)
def tkSig (b : List Nat) : List Nat := (b.drop (16 + tkLen b)).take 64

/-- COUNT and length agree with OP (R467). -/
def lengthFits (op : Nat) (q : TmpReq) : Bool :=
  let n := q.payload.length
  let block := 4 ≤ q.count && q.count ≤ 1024 && q.count % 4 == 0
  match op with
  | 1 => n == 4
  | 2 => n == 68
  | 4 => n == 0 && 1 ≤ q.count && q.count ≤ 256
  | 5 => n == 4 * q.count && 1 ≤ q.count && q.count ≤ 256
  | 6 => n == 8 && q.count == 1
  | 7 => n == 0 && block
  | 8 => n == q.count && block
  | 9 => 16 ≤ n && n == 80 + tkLen q.payload
  | _ => n == 0

/-- What a block or a ROLE that R467 and R477 do not know makes of a request: malformed. -/
def malformed (op : Nat) (q : TmpReq) : Bool :=
  (op == 1 && decide (1 < nth 0 q.payload 0)) ||
    (op == 9 && (leVal (q.payload.take 4) != 0x4B4F5454 || tkSetting q.payload == 0 || decide (5 < tkSetting q.payload)))

/-- The REASON of a header that fails. -/
def headerBad (op : Nat) (q : TmpReq) : Option Nat :=
  if q.version ≠ 1 then some 0x0103
  else if q.addr % 4 ≠ 0 then some 0x0104
  else if !lengthFits op q then some 0x0102
  else if malformed op q then some 0
  else if op = 9 ∧ tkLen q.payload ≠ reqLen (tkSetting q.payload) then some 0x0102
  else none

/-! ### OPEN (R474) -/

/-- A session number that has not been used: the open choice where it is free, else one above every number used. -/
def State.freshSession (s : State) : Nat :=
  let c := Config.freeValue 14 s.free % 2 ^ 32
  if c = 0 ∨ s.tmp.used.contains c then s.tmp.used.foldl max 0 + 1 else c

/-- The source lies inside the prefix that may OPEN. -/
def State.aclOk (s : State) (ip : Nat) : Bool :=
  let n := 2 ^ (32 - s.get ENG_ACL_PREFIX.LEN)
  ip / n == s.get ENG_ACL_ADDR.ADDR / n

/-- The reply payload of OPEN. -/
def State.openPayload (s : State) (e : Sess) : List Nat :=
  e.nonce ++ leBytes 8 Config.serial ++ leBytes 4 (s.get ENG_SESSION_TIMEOUT.S)

/-- A new session. -/
def State.sessOpen (s : State) (q : TmpReq) (role : Nat) : State :=
  let n := s.freshSession
  let e : Sess := { no := n, ip := q.srcIp, port := q.srcPort, role := role, nonce := leBytes 16 (Config.freeValue 15 s.free), last := s.now,
                    seq := q.seq, opened := s.now, openSeq := q.seq }
  let a : Ans := { payload := s.openPayload e }
  let e := { e with held := replyBytes 1 q n a }
  let s := { s with free := s.free + 1, tmp.sessions := s.tmp.sessions ++ [e], tmp.used := n :: s.tmp.used }.sessShow
  s.tmpAnswer 1 q n a

/-- OPEN. -/
def State.tmpOpen (s : State) (q : TmpReq) : State :=
  let role := nth 0 q.payload 0
  match s.tmp.sessions.find? fun e =>
      e.ip == q.srcIp && e.port == q.srcPort && e.openSeq == q.seq && decide (s.now ≤ e.opened + sec) with
  | some e => (s.inc ENG_TMP_RETRY.COUNT).tmpAnswer 1 q e.no { payload := s.openPayload e }
  | none =>
    if s.sys.recovery ∧ role = 1 then s.tmpAnswer 1 q 0 (no 1 0x03)
    else if !s.aclOk q.srcIp then s.tmpAnswer 1 q 0 (no 4 0x0202)
    else if 4 ≤ s.tmp.sessions.length ∨ (role = 1 ∧ s.tmp.sessions.any (·.role != 0)) then s.tmpAnswer 1 q 0 (no 2 0)
    else s.sessOpen q role

/-! ### AUTH and TOKEN (R476 to R478) -/

/-- A custodian key of the running firmware that is not revoked. -/
def State.custKey (s : State) (id : Nat) : Option (List Nat) :=
  (s.bring.fw.custKeys.find? (·.id == id)).bind fun k => if k.revoked then none else some k.key

/-- The bytes that AUTH signs. -/
def authMessage (sess : Nat) (nonce : List Nat) : List Nat :=
  [0x54, 0x43, 0x55, 0x53] ++ leBytes 8 Config.serial ++ leBytes 4 sess ++ nonce

def State.tmpAuth (s : State) (q : TmpReq) (e : Sess) : State × Ans :=
  if e.role ≠ 1 then (s, no 4 0x0203)
  else
    let good := match s.custKey (leVal (q.payload.take 2)) with
      | some k => edVerify k (q.payload.drop 4) (authMessage e.no e.nonce)
      | none => false
    if good then ((s.sessMod e.no fun e => { e with role := 2 }).sessShow, {}) else (s.sessClose e.no, no 4 0x0203)

/-- The bytes that a token signs. -/
def tokenMessage (b : List Nat) : List Nat := leBytes 8 Config.serial ++ [tkSetting b] ++ leBytes 2 (tkCount b) ++ tkRequest b

def State.tmpToken (s : State) (q : TmpReq) (e : Sess) : State × Ans :=
  let b := q.payload
  if e.role ≠ 2 then (s, no 4 0x0203)
  else
    match s.custKey (tkKey b) with
    | none => (s, no 1 0x0301)
    | some k =>
      let used := s.tally (tkSetting b)
      if !edVerify k (tkSig b) (tokenMessage b) then (s, no 1 0x0302)
      else if tkCount b ≠ used + 1 then (s, no 1 0x0303)
      else if tallyTotal (tkSetting b) ≤ used then (s, no 1 0x0304)
      else (s.sessMod e.no fun e => { e with token := some ⟨tkSetting b, tkKey b, tkCount b, tkRequest b⟩ }, {})

/-! ### Registers (R468) -/

/-- `n` registers from an address lie in the register space. -/
def inRegisters (addr n : Nat) : Bool := addr + 4 * n ≤ 0x100000

/-- The recovery loader answers reads of ENG, IMG, NVS and OPS (R502). -/
def loaderReads (addr : Nat) : Bool := [0, 2, 13, 14].contains (addr / 0x10000)

/-- The recovery loader takes a write (R502). -/
def loaderWrites (addr v : Nat) : Bool := loaderAddr addr && (addr != 0xE0004 || NVS_CMD.SHUTDOWN.ofWord v == 0)

def State.tmpRead (s : State) (q : TmpReq) : State × Ans :=
  if !inRegisters q.addr q.count then (s, no 6 0)
  else if s.sys.recovery && !(regAddrs q.addr q.count).all loaderReads then (s, no 1 0x03)
  else
    let r := s.readRegs q.session q.addr q.count
    (r.1, { count := q.count, payload := r.2.flatMap (leBytes 4) })

/-- One register of a WRITE. -/
def State.tmpReg (s : State) (sess addr v : Nat) : State × WRes :=
  if s.sys.recovery && !loaderWrites addr v then (s, .refuse 1 0x03) else regWrite sess addr v s

/-- A write that asks for a count (R471, R553). -/
def asksCount (addr v : Nat) : Bool := (addr == 0x148 || addr == 0x20028) && v % 2 == 1

/-- What a WRITE has come to: the registers written, and how it goes on. -/
inductive WEnd where
  | done | refused (status reason : Nat) | burning
  deriving DecidableEq, Repr

/-- Registers written one by one (R468), until one is refused or starts a burn. -/
def State.writeSeq (s : State) (sess addr : Nat) : List Nat → Nat → State × Nat × WEnd
  | [], d => (s, d, .done)
  | v :: vs, d =>
    match s.tmpReg sess addr v with
    | (s, .ok) => if asksCount addr v then (s, d, .burning) else s.writeSeq sess (addr + 4) vs (d + 1)
    | (s, .refuse st r) => (s, d, .refused st r)

/-- The words of a payload from the `k`-th on. -/
def payloadWords (p : List Nat) (k n : Nat) : List Nat := (List.range (n - k)).map fun i => byteWord p (k + i)

/-- A WRITE from its `k`-th register on; none where it waits for its burn (R471). -/
def State.tmpWriteFrom (s : State) (q : TmpReq) (k : Nat) (queue : List (Nat × TmpReq)) : State × Option Ans :=
  match s.writeSeq q.session (q.addr + 4 * k) (payloadWords q.payload k q.count) k with
  | (s, d, .done) => (s, some { count := d })
  | (s, d, .refused st r) => (s, some { status := st, reason := r, count := d })
  | (s, d, .burning) => ({ s with tmp.waits := s.tmp.waits ++ [⟨q, d, queue⟩] }, none)

def State.tmpWrite (s : State) (q : TmpReq) : State × Option Ans :=
  if !inRegisters q.addr q.count then (s, some (no 6 0)) else s.tmpWriteFrom q 0 []

/-- The bits of a mask replaced. -/
def maskWord (old mask v : Nat) : Nat := clearBits old mask ||| (v &&& mask)

def State.tmpMaskwrite (s : State) (q : TmpReq) : State × Ans :=
  if !inRegisters q.addr 1 then (s, no 6 0)
  else
    match fieldsAt q.addr with
    | none => (s, no 1 0)
    | some fs =>
      if fs.any fun f => f.acc == .wo || f.acc == .w1c || f.acc == .ct then (s, no 1 0)
      else
        match regWrite q.session q.addr (maskWord (s.plainWord q.addr) (byteWord q.payload 0) (byteWord q.payload 1)) s with
        | (s, .ok) => (s, { count := 1, payload := leBytes 4 (s.view q.session q.addr) })
        | (s, .refuse st r) => (s, no st r)

/-! ### Windows (R94, R347, R364, R468) -/

/-- The window that holds a transfer, the staging one first, and its offset there. -/
def windowOf (addr n : Nat) : Option (Bool × Nat) :=
  if 0x10000000 ≤ addr ∧ addr + n ≤ 0x14000000 then some (true, addr - 0x10000000)
  else if 0x20000000 ≤ addr ∧ addr + n ≤ 0x24000000 then some (false, addr - 0x20000000)
  else none

def State.tmpBlockRead (s : State) (q : TmpReq) : State × Ans :=
  match windowOf q.addr q.count with
  | none => (s, no 6 0)
  | some (st, o) => (s, { count := q.count, payload := (if st then s.img.staging else s.sol.win).bytes o q.count })

def State.tmpBlockWrite (s : State) (q : TmpReq) : State × Ans :=
  match windowOf q.addr q.count with
  | none => (s, no 6 0)
  | some (true, o) =>
    if s.stagingBusy then (s, no 1 0x0E) else ({ s with img.staging := s.img.staging.store o q.payload }, { count := q.count })
  | some (false, o) =>
    if s.sys.recovery then (s, no 1 0x03)
    else if s.solBusyAt o q.count then (s, no 1 0x0E)
    else ({ s with sol.win := s.sol.win.store o q.payload }, { count := q.count })

/-! ### Execution (R472) -/

/-- A request of a session executed; none where its reply waits for a burn. -/
def State.tmpRun (s : State) (op : Nat) (q : TmpReq) (e : Sess) : State × Option Ans :=
  let give := fun (r : State × Ans) => (r.1, some r.2)
  if e.role = 1 ∧ op ≠ 2 ∧ op ≠ 3 then (s, some (no 4 0x0203))
  else if s.sys.recovery && [2, 6, 7, 9].contains op then (s, some (no 1 0x03))
  else
    match op with
    | 2 => give (s.tmpAuth q e)
    | 3 => (s.sessClose e.no, some {})
    | 4 => give (s.tmpRead q)
    | 5 => s.tmpWrite q
    | 6 => give (s.tmpMaskwrite q)
    | 7 => give (s.tmpBlockRead q)
    | 8 => give (s.tmpBlockWrite q)
    | 9 => give (s.tmpToken q e)
    | _ => (s, some { payload := leBytes 4 s.engStatus })

/-- The wake logic of Slate and Black (R151): reads of ENG_STATUS and PWR_STATUS, writes of PWR_TARGET, for any session number
and without sequence checking; STATUS 3 for every other request. -/
def State.tmpAsleep (s : State) (op : Nat) (q : TmpReq) : State :=
  let good := q.version = 1 ∧ q.count = 1
  if good ∧ op = 4 ∧ q.payload = [] ∧ (q.addr = 0x10 ∨ q.addr = 0x30004) then
    s.tmpAnswer op q q.session { count := 1, payload := leBytes 4 (s.view q.session q.addr) }
  else if good ∧ op = 5 ∧ q.addr = 0x30000 ∧ q.payload.length = 4 then
    match pwrTargetWrite (byteWord q.payload 0) s with
    | (s, .ok) => s.tmpAnswer op q q.session { count := 1 }
    | (s, .refuse st r) => s.tmpAnswer op q q.session (no st r)
  else s.tmpAnswer op q q.session (no 3 0)

/-- A request whose session is known: it waits for a WRITE of its session that burns (R471), repeats LAST, is out of sequence,
or is executed (R472). -/
def State.tmpSeq (s : State) (op : Nat) (q : TmpReq) (e : Sess) : State :=
  if s.tmp.waits.any (·.q.session == e.no) then
    { s with tmp.waits := s.tmp.waits.map fun w => if w.q.session = e.no then { w with queue := w.queue ++ [(op, q)] } else w }
  else if q.seq = e.seq then (s.inc ENG_TMP_RETRY.COUNT).tmpOut q e.held
  else if q.seq ≠ (e.seq + 1) % 2 ^ 32 then s.tmpAnswer op q q.session (no 5 0x0101)
  else
    match s.tmpRun op q e with
    | (s, some a) => s.tmpFinish op q a
    | (s, none) => s

/-- The session of a request, bound to its source. -/
def State.sessOf (s : State) (q : TmpReq) : Option Sess :=
  s.tmp.sessions.find? fun e => e.no == q.session && e.ip == q.srcIp && e.port == q.srcPort

/-- A request judged in the order of R472. -/
def State.tmpServe (s : State) (op : Nat) (q : TmpReq) : State :=
  match headerBad op q with
  | some r => s.tmpAnswer op q q.session (no 5 r)
  | none =>
    if op = 1 then s.tmpOpen q
    else
      match s.sessOf q with
      | none => s.tmpAnswer op q q.session (no 4 0x0201)
      | some e => (s.sessMod e.no fun e => { e with last := s.now }).tmpSeq op q e

/-- TMP is served: from the end of stage 3, or by the recovery loader (R107, R502). -/
def State.tmpUp (s : State) : Bool := s.sys.stages.contains 3 || s.sys.recovery

/-- A TMP request arrives. -/
def State.tmpRequest (s : State) (op : Nat) (q : TmpReq) : State :=
  if 4 ≤ s.get PWR_STATUS.STATE then (s.inc ENG_TMP_RX.COUNT).tmpAsleep op q
  else if s.tmpUp then (s.inc ENG_TMP_RX.COUNT).tmpServe op q
  else s

/-- TMP_DISCARD (R465): shorter than 24 bytes, or not "TMPQ". -/
def tmpDiscard (datagram : List Nat) (s : State) : State :=
  if (datagram.length < 24 ∨ leVal (datagram.take 4) ≠ 0x51504D54) ∧ s.tmpUp then s.inc ENG_TMP_DISCARD.COUNT else s

/-! ### The burn of a CT write (R471, R506) -/

/-- The burn that a session's WRITE waits for has ended: the WRITE goes on behind it or is refused, and the requests that waited
are served. -/
def State.ctSettle (s : State) (sess : Nat) (burnt : Bool) (reason : Nat) : State :=
  match s.tmp.waits.find? (·.q.session == sess) with
  | none => s
  | some w =>
    let s : State := { s with tmp.waits := s.tmp.waits.filter (·.q.session != sess) }
    let r := if burnt then s.tmpWriteFrom w.q (w.done + 1) w.queue
      else (s, some { status := 1, reason := reason, count := w.done })
    match r with
    | (s, some a) => w.queue.foldl (fun (s : State) (p : Nat × TmpReq) => s.tmpServe p.1 p.2) (s.tmpFinish 5 w.q a)
    | (s, none) => s

/-- TALLY_BURN_DONE (R506), and the reply of a CT write. -/
def tallyBurnReply (burnt : Bool) (s : State) : State :=
  match s.nvs.burn with
  | none => s
  | some b =>
    let s := tallyBurnDone burnt s
    if b.slot.isNone then s.ctSettle b.session burnt 0 else s

/-- The warning has risen between a change's INTENT and its burn (R506): an operation's waits with its INTENT written, and a CT
write gets its VOID and is refused. Whether the burn had begun is open. -/
def State.burnWarned (s : State) : State :=
  match s.nvs.burn with
  | none => s
  | some b =>
    let s := s.nextFree
    if Config.freeBool 5 s.free then s
    else if b.slot.isSome then { s with nvs.burn := none, nvs.burnWait := b :: s.nvs.burnWait }
    else ({ s with nvs.burn := none }.tallyLog 3 b |>.noteRefuse 5 (ctAddr b.setting) 1 0x06).ctSettle b.session false 0x06

/-- PFW_RAISE, and the CT writes that have not begun their burn: refused with REASON POWER (R506). -/
def pfwRaiseReply (s : State) : State :=
  let was := s.pfw
  let s := pfwRaise s
  if was || !s.pfw then s
  else
    let s := s.burnWarned
    let late := s.nvs.burnWait.filter (·.slot.isNone)
    let s : State := { s with nvs.burnWait := s.nvs.burnWait.filter (·.slot.isSome) }
    late.foldl (fun (s : State) (b : BurnS) => (s.noteRefuse 5 (ctAddr b.setting) 1 0x06).ctSettle b.session false 0x06) s

def execTmpOpen (t : Nat) (q : TmpReq) (s : State) : Host.Outcome State Fault Refusal := .next ((s.at t).tmpRequest 1 q)
def execTmpAuth (t : Nat) (q : TmpReq) (s : State) : Host.Outcome State Fault Refusal := .next ((s.at t).tmpRequest 2 q)
def execTmpClose (t : Nat) (q : TmpReq) (s : State) : Host.Outcome State Fault Refusal := .next ((s.at t).tmpRequest 3 q)
def execTmpRead (t : Nat) (q : TmpReq) (s : State) : Host.Outcome State Fault Refusal := .next ((s.at t).tmpRequest 4 q)
def execTmpWrite (t : Nat) (q : TmpReq) (s : State) : Host.Outcome State Fault Refusal := .next ((s.at t).tmpRequest 5 q)
def execTmpMaskwrite (t : Nat) (q : TmpReq) (s : State) : Host.Outcome State Fault Refusal := .next ((s.at t).tmpRequest 6 q)
def execTmpBlockRead (t : Nat) (q : TmpReq) (s : State) : Host.Outcome State Fault Refusal := .next ((s.at t).tmpRequest 7 q)
def execTmpBlockWrite (t : Nat) (q : TmpReq) (s : State) : Host.Outcome State Fault Refusal := .next ((s.at t).tmpRequest 8 q)
def execTmpToken (t : Nat) (q : TmpReq) (s : State) : Host.Outcome State Fault Refusal := .next ((s.at t).tmpRequest 9 q)
def execTmpKeepalive (t : Nat) (q : TmpReq) (s : State) : Host.Outcome State Fault Refusal := .next ((s.at t).tmpRequest 10 q)
def execTmpDiscard (t _srcIp _srcPort : Nat) (datagram : List Nat) (s : State) : Host.Outcome State Fault Refusal :=
  .next (tmpDiscard datagram (s.at t))
def execTallyBurnDone (t : Nat) (burnt : Bool) (s : State) : Host.Outcome State Fault Refusal := .next (tallyBurnReply burnt (s.at t))
def execPfwRaise (t : Nat) (s : State) : Host.Outcome State Fault Refusal := .next (pfwRaiseReply (s.at t))

end Sys2Proof.Machine
end

