-- ==== Sys2Proof/Machine/Dispatch.lean ====
section
/-!
DEFINITION. One arm per command: a direct call of its meaning.
-/
namespace Sys2Proof.Machine

def exec (i : Instr) (s : State) : Host.Outcome State Fault Refusal :=
  match i with
  | .registerWrite t sess addr v => Sys2Proof.Machine.execRegisterWrite t sess addr v s
  | .resetRelease t => Sys2Proof.Machine.execResetRelease t s
  | .powerUnitStart t => Sys2Proof.Machine.execPowerUnitStart t s
  | .wardenFwCheckDone t accepted fw => Sys2Proof.Machine.execWardenFwCheckDone t accepted fw s
  | .storeStageDone t => Sys2Proof.Machine.execStoreStageDone t s
  | .discoveryDone t carrier tiles => Sys2Proof.Machine.execDiscoveryDone t carrier tiles s
  | .baseSetCopyDone t failed => Sys2Proof.Machine.execBaseSetCopyDone t failed s
  | .bringInDone t => Sys2Proof.Machine.execBringInDone t s
  | .modeRun t => Sys2Proof.Machine.execModeRun t s
  | .runStart t => Sys2Proof.Machine.execRunStart t s
  | .modeStop t => Sys2Proof.Machine.execModeStop t s
  | .runEnd t => Sys2Proof.Machine.execRunEnd t s
  | .frameBoundary t => Sys2Proof.Machine.execFrameBoundary t s
  | .readTrackEnd t video => Sys2Proof.Machine.execReadTrackEnd t video s
  | .frameComplete t => Sys2Proof.Machine.execFrameComplete t s
  | .tierChange t => Sys2Proof.Machine.execTierChange t s
  | .govLockoutEnd t => Sys2Proof.Machine.execGovLockoutEnd t s
  | .govPredictionEnd t => Sys2Proof.Machine.execGovPredictionEnd t s
  | .voltageStepSettled t => Sys2Proof.Machine.execVoltageStepSettled t s
  | .roWindowEnd t counts => Sys2Proof.Machine.execRoWindowEnd t counts s
  | .backlogOverflow t => Sys2Proof.Machine.execBacklogOverflow t s
  | .refGateEnd t edges off => Sys2Proof.Machine.execRefGateEnd t edges off s
  | .refLoss t shift => Sys2Proof.Machine.execRefLoss t shift s
  | .refSwitch t phaseStep => Sys2Proof.Machine.execRefSwitch t phaseStep s
  | .govRefCtrlWrite t v => Sys2Proof.Machine.execGovRefCtrlWrite t v s
  | .dllLock t => Sys2Proof.Machine.execDllLock t s
  | .dllLossOfLock t => Sys2Proof.Machine.execDllLossOfLock t s
  | .govCtrlWrite t v => Sys2Proof.Machine.execGovCtrlWrite t v s
  | .govThresholdWrite t high v => Sys2Proof.Machine.execGovThresholdWrite t high v s
  | .govClrCounts t => Sys2Proof.Machine.execGovClrCounts t s
  | .govClrMin t => Sys2Proof.Machine.execGovClrMin t s
  | .imgVerify t sess slot arg0 => Sys2Proof.Machine.execImgVerify t sess slot arg0 s
  | .imgActivate t sess slot arg0 => Sys2Proof.Machine.execImgActivate t sess slot arg0 s
  | .imgWriteSlot t sess slot arg0 arg1 => Sys2Proof.Machine.execImgWriteSlot t sess slot arg0 arg1 s
  | .imgEraseSlot t sess slot arg0 => Sys2Proof.Machine.execImgEraseSlot t sess slot arg0 s
  | .imageFrameArrival t readOk => Sys2Proof.Machine.execImageFrameArrival t readOk s
  | .activationQuiesced t => Sys2Proof.Machine.execActivationQuiesced t s
  | .activationBuildDone t => Sys2Proof.Machine.execActivationBuildDone t s
  | .slotWriteReadbackDone t same => Sys2Proof.Machine.execSlotWriteReadbackDone t same s
  | .imgStageLenWrite t v => Sys2Proof.Machine.execImgStageLenWrite t v s
  | .imgStageClear t => Sys2Proof.Machine.execImgStageClear t s
  | .goldenUnlock t sess => Sys2Proof.Machine.execGoldenUnlock t sess s
  | .imgPrimaryWrite t v => Sys2Proof.Machine.execImgPrimaryWrite t v s
  | .fallbackClear t => Sys2Proof.Machine.execFallbackClear t s
  | .imgload t => Sys2Proof.Machine.execImgload t s
  | .testportFrame t frame => Sys2Proof.Machine.execTestportFrame t frame s
  | .imgstat t => Sys2Proof.Machine.execImgstat t s
  | .idcode t => Sys2Proof.Machine.execIdcode t s
  | .samplePreload t pins => Sys2Proof.Machine.execSamplePreload t pins s
  | .extest t => Sys2Proof.Machine.execExtest t s
  | .bypass t opcode => Sys2Proof.Machine.execBypass t opcode s
  | .testLogicReset t => Sys2Proof.Machine.execTestLogicReset t s
  | .vrefTLoss t => Sys2Proof.Machine.execVrefTLoss t s
  | .tileBind t sess slot pos serLo serHi arg3 tile => Sys2Proof.Machine.execTileBind t sess slot pos serLo serHi arg3 tile s
  | .quarOverride t sess => Sys2Proof.Machine.execQuarOverride t sess s
  | .settlingCheck t => Sys2Proof.Machine.execSettlingCheck t s
  | .settlingTimeout t => Sys2Proof.Machine.execSettlingTimeout t s
  | .acInputLost t => Sys2Proof.Machine.execAcInputLost t s
  | .acReturn t => Sys2Proof.Machine.execAcReturn t s
  | .acOvervoltage t vrms => Sys2Proof.Machine.execAcOvervoltage t vrms s
  | .dcInputLost t => Sys2Proof.Machine.execDcInputLost t s
  | .inputInRange t ac => Sys2Proof.Machine.execInputInRange t ac s
  | .pfwRaise t => Sys2Proof.Machine.execPfwRaise t s
  | .pfwClear t => Sys2Proof.Machine.execPfwClear t s
  | .railsFall t => Sys2Proof.Machine.execRailsFall t s
  | .pwrTargetWrite t v => Sys2Proof.Machine.execPwrTargetWrite t v s
  | .descentDrainEnd t => Sys2Proof.Machine.execDescentDrainEnd t s
  | .ladderStepDone t => Sys2Proof.Machine.execLadderStepDone t s
  | .blackExit t advance imageOk => Sys2Proof.Machine.execBlackExit t advance imageOk s
  | .triggerWake t input => Sys2Proof.Machine.execTriggerWake t input s
  | .epochCommit t v => Sys2Proof.Machine.execEpochCommit t v s
  | .epochApply t => Sys2Proof.Machine.execEpochApply t s
  | .fplGeomWrite t addr v => Sys2Proof.Machine.execFplGeomWrite t addr v s
  | .ilvWindowClose t fe => Sys2Proof.Machine.execIlvWindowClose t fe s
  | .ilvSolveDone t fe => Sys2Proof.Machine.execIlvSolveDone t fe s
  | .ilvSetApply t fe => Sys2Proof.Machine.execIlvSetApply t fe s
  | .ilvSolveLate t fe => Sys2Proof.Machine.execIlvSolveLate t fe s
  | .spareSlotDue t => Sys2Proof.Machine.execSpareSlotDue t s
  | .sparePostponedStart t => Sys2Proof.Machine.execSparePostponedStart t s
  | .spareShadowDone t own other => Sys2Proof.Machine.execSpareShadowDone t own other s
  | .spareTrimDone t reads => Sys2Proof.Machine.execSpareTrimDone t reads s
  | .spareReturnShadowDone t own other => Sys2Proof.Machine.execSpareReturnShadowDone t own other s
  | .vcsTrimDone t reads => Sys2Proof.Machine.execVcsTrimDone t reads s
  | .spareRelease t => Sys2Proof.Machine.execSpareRelease t s
  | .vfeClrClip t => Sys2Proof.Machine.execVfeClrClip t s
  | .vfeClrSpare t => Sys2Proof.Machine.execVfeClrSpare t s
  | .corOutputWrite t addr v => Sys2Proof.Machine.execCorOutputWrite t addr v s
  | .corClrCounts t => Sys2Proof.Machine.execCorClrCounts t s
  | .coefEccError t tile row col => Sys2Proof.Machine.execCoefEccError t tile row col s
  | .shutterPeriodDue t => Sys2Proof.Machine.execShutterPeriodDue t s
  | .shutterCycleStart t => Sys2Proof.Machine.execShutterCycleStart t s
  | .paddleClosed t => Sys2Proof.Machine.execPaddleClosed t s
  | .shutterSettleEnd t => Sys2Proof.Machine.execShutterSettleEnd t s
  | .shutterAverageEnd t => Sys2Proof.Machine.execShutterAverageEnd t s
  | .paddleOpened t => Sys2Proof.Machine.execPaddleOpened t s
  | .shutterResumeEnd t => Sys2Proof.Machine.execShutterResumeEnd t s
  | .shutterUpdateCommit t => Sys2Proof.Machine.execShutterUpdateCommit t s
  | .paddleCloseTimeout t => Sys2Proof.Machine.execPaddleCloseTimeout t s
  | .paddleOpenTimeout t => Sys2Proof.Machine.execPaddleOpenTimeout t s
  | .paddleOpenRetry t => Sys2Proof.Machine.execPaddleOpenRetry t s
  | .shutterRetryTimer t => Sys2Proof.Machine.execShutterRetryTimer t s
  | .calShutNow t => Sys2Proof.Machine.execCalShutNow t s
  | .calShutNowTwoPt t => Sys2Proof.Machine.execCalShutNowTwoPt t s
  | .calShutReset t => Sys2Proof.Machine.execCalShutReset t s
  | .paddleHeatStable t => Sys2Proof.Machine.execPaddleHeatStable t s
  | .paddleHeatTimeout t => Sys2Proof.Machine.execPaddleHeatTimeout t s
  | .driftRefitDone t => Sys2Proof.Machine.execDriftRefitDone t s
  | .calgenApply t => Sys2Proof.Machine.execCalgenApply t s
  | .calCharacterise t sess slot arg0 arg1 arg2 arg3 => Sys2Proof.Machine.execCalCharacterise t sess slot arg0 arg1 arg2 arg3 s
  | .calCharGo t => Sys2Proof.Machine.execCalCharGo t s
  | .calCharFit t => Sys2Proof.Machine.execCalCharFit t s
  | .charPointStable t => Sys2Proof.Machine.execCharPointStable t s
  | .charPointDone t => Sys2Proof.Machine.execCharPointDone t s
  | .charPointTimeout t => Sys2Proof.Machine.execCharPointTimeout t s
  | .charFitDone t => Sys2Proof.Machine.execCharFitDone t s
  | .calRevert t sess slot arg0 => Sys2Proof.Machine.execCalRevert t sess slot arg0 s
  | .bankWriteDone t same => Sys2Proof.Machine.execBankWriteDone t same s
  | .encoderCount t up => Sys2Proof.Machine.execEncoderCount t up s
  | .lineBoundary t => Sys2Proof.Machine.execLineBoundary t s
  | .encoderQerr t => Sys2Proof.Machine.execEncoderQerr t s
  | .encoderSignalLoss t => Sys2Proof.Machine.execEncoderSignalLoss t s
  | .encoderSignalRestored t => Sys2Proof.Machine.execEncoderSignalRestored t s
  | .encoderIndex t => Sys2Proof.Machine.execEncoderIndex t s
  | .encoderZero t => Sys2Proof.Machine.execEncoderZero t s
  | .swpLineCplWrite t v => Sys2Proof.Machine.execSwpLineCplWrite t v s
  | .scanArm t => Sys2Proof.Machine.execScanArm t s
  | .scanStart t => Sys2Proof.Machine.execScanStart t s
  | .scanEndCmd t => Sys2Proof.Machine.execScanEndCmd t s
  | .scanEnd t => Sys2Proof.Machine.execScanEnd t s
  | .outputLineEmit t => Sys2Proof.Machine.execOutputLineEmit t s
  | .swpClrCounts t => Sys2Proof.Machine.execSwpClrCounts t s
  | .stripComputeStart t => Sys2Proof.Machine.execStripComputeStart t s
  | .stripPassCommit t => Sys2Proof.Machine.execStripPassCommit t s
  | .refHeaterTimeout t => Sys2Proof.Machine.execRefHeaterTimeout t s
  | .heaterOvercurrent t bright => Sys2Proof.Machine.execHeaterOvercurrent t bright s
  | .heaterRestart t bright => Sys2Proof.Machine.execHeaterRestart t bright s
  | .edgeFitDone t => Sys2Proof.Machine.execEdgeFitDone t s
  | .scanRecord t => Sys2Proof.Machine.execScanRecord t s
  | .solRun t sess slot arg0 arg1 arg2 arg3 => Sys2Proof.Machine.execSolRun t sess slot arg0 arg1 arg2 arg3 s
  | .solSystemEnd t sys ecc => Sys2Proof.Machine.execSolSystemEnd t sys ecc s
  | .solDeadline t cuts => Sys2Proof.Machine.execSolDeadline t cuts s
  | .solBatchCommit t => Sys2Proof.Machine.execSolBatchCommit t s
  | .solClrCounts t => Sys2Proof.Machine.execSolClrCounts t s
  | .triggerEdge t input => Sys2Proof.Machine.execTriggerEdge t input s
  | .filSyncReset t => Sys2Proof.Machine.execFilSyncReset t s
  | .filSyncCtrlWrite t v => Sys2Proof.Machine.execFilSyncCtrlWrite t v s
  | .timeSet t => Sys2Proof.Machine.execTimeSet t s
  | .todSrcWrite t v => Sys2Proof.Machine.execTodSrcWrite t v s
  | .ppsEdge t => Sys2Proof.Machine.execPpsEdge t s
  | .ptpSync t msg => Sys2Proof.Machine.execPtpSync t msg s
  | .ptpAnnounce t msg => Sys2Proof.Machine.execPtpAnnounce t msg s
  | .ptpDelayResp t msg => Sys2Proof.Machine.execPtpDelayResp t msg s
  | .ptpDelayReqSend t => Sys2Proof.Machine.execPtpDelayReqSend t s
  | .ptpSourceLoss t => Sys2Proof.Machine.execPtpSourceLoss t s
  | .ppsSourceLoss t => Sys2Proof.Machine.execPpsSourceLoss t s
  | .timeStep t => Sys2Proof.Machine.execTimeStep t s
  | .holdoverLimit t => Sys2Proof.Machine.execHoldoverLimit t s
  | .monCycleStart t => Sys2Proof.Machine.execMonCycleStart t s
  | .monEntryComplete t codes => Sys2Proof.Machine.execMonEntryComplete t codes s
  | .monInjectTrigger t src => Sys2Proof.Machine.execMonInjectTrigger t src s
  | .monInjGo t => Sys2Proof.Machine.execMonInjGo t s
  | .monInjectedDone t => Sys2Proof.Machine.execMonInjectedDone t s
  | .monCalibrate t => Sys2Proof.Machine.execMonCalibrate t s
  | .monSelfCalDone t points => Sys2Proof.Machine.execMonSelfCalDone t points s
  | .monSeqApply t => Sys2Proof.Machine.execMonSeqApply t s
  | .monSeqTakeEffect t => Sys2Proof.Machine.execMonSeqTakeEffect t s
  | .monAlarmWrite t addr v => Sys2Proof.Machine.execMonAlarmWrite t addr v s
  | .monClrCounts t => Sys2Proof.Machine.execMonClrCounts t s
  | .monInputStarved t input => Sys2Proof.Machine.execMonInputStarved t input s
  | .overtempTrip t => Sys2Proof.Machine.execOvertempTrip t s
  | .overtempRelease t => Sys2Proof.Machine.execOvertempRelease t s
  | .pluggableInsert t port phy cls readOk => Sys2Proof.Machine.execPluggableInsert t port phy cls readOk s
  | .pluggableRemove t port => Sys2Proof.Machine.execPluggableRemove t port s
  | .linkDown t port => Sys2Proof.Machine.execLinkDown t port s
  | .linkUp t port => Sys2Proof.Machine.execLinkUp t port s
  | .anFail t port => Sys2Proof.Machine.execAnFail t port s
  | .fecSecond t port corr uncorr => Sys2Proof.Machine.execFecSecond t port corr uncorr s
  | .pauseFrame t port quanta pfc => Sys2Proof.Machine.execPauseFrame t port quanta pfc s
  | .pauseLimitExceeded t port => Sys2Proof.Machine.execPauseLimitExceeded t port s
  | .arpRequestRx t port ip mac target => Sys2Proof.Machine.execArpRequestRx t port ip mac target s
  | .arpReplyRx t port ip mac => Sys2Proof.Machine.execArpReplyRx t port ip mac s
  | .arpTimer t port ch => Sys2Proof.Machine.execArpTimer t port ch s
  | .icmpEchoRx t port ip mac payload => Sys2Proof.Machine.execIcmpEchoRx t port ip mac payload s
  | .rxDiscard t port => Sys2Proof.Machine.execRxDiscard t port s
  | .tosonRecordSend t ch => Sys2Proof.Machine.execTosonRecordSend t ch s
  | .heartbeat t ch => Sys2Proof.Machine.execHeartbeat t ch s
  | .roceWriteSend t ch => Sys2Proof.Machine.execRoceWriteSend t ch s
  | .roceAck t ch psn => Sys2Proof.Machine.execRoceAck t ch psn s
  | .roceNak t ch psn syndrome => Sys2Proof.Machine.execRoceNak t ch psn syndrome s
  | .roceAckTimeout t ch => Sys2Proof.Machine.execRoceAckTimeout t ch s
  | .roceCnp t ch => Sys2Proof.Machine.execRoceCnp t ch s
  | .dcqcnAlphaTimer t ch => Sys2Proof.Machine.execDcqcnAlphaTimer t ch s
  | .dcqcnRateTimer t ch => Sys2Proof.Machine.execDcqcnRateTimer t ch s
  | .roceRequestDiscard t ch => Sys2Proof.Machine.execRoceRequestDiscard t ch s
  | .prtBbCtrlWrite t v => Sys2Proof.Machine.execPrtBbCtrlWrite t v s
  | .bbArm t => Sys2Proof.Machine.execBbArm t s
  | .bbStop t => Sys2Proof.Machine.execBbStop t s
  | .bbFlush t => Sys2Proof.Machine.execBbFlush t s
  | .captureStart t => Sys2Proof.Machine.execCaptureStart t s
  | .drainStart t => Sys2Proof.Machine.execDrainStart t s
  | .channelCtrlWrite t ch v => Sys2Proof.Machine.execChannelCtrlWrite t ch v s
  | .consWrite t ch v => Sys2Proof.Machine.execConsWrite t ch v s
  | .portConfigWrite t addr v => Sys2Proof.Machine.execPortConfigWrite t addr v s
  | .prtClrCounts t => Sys2Proof.Machine.execPrtClrCounts t s
  | .tmpOpen t q => Sys2Proof.Machine.execTmpOpen t q s
  | .tmpAuth t q => Sys2Proof.Machine.execTmpAuth t q s
  | .tmpClose t q => Sys2Proof.Machine.execTmpClose t q s
  | .tmpRead t q => Sys2Proof.Machine.execTmpRead t q s
  | .tmpWrite t q => Sys2Proof.Machine.execTmpWrite t q s
  | .tmpMaskwrite t q => Sys2Proof.Machine.execTmpMaskwrite t q s
  | .tmpBlockRead t q => Sys2Proof.Machine.execTmpBlockRead t q s
  | .tmpBlockWrite t q => Sys2Proof.Machine.execTmpBlockWrite t q s
  | .tmpToken t q => Sys2Proof.Machine.execTmpToken t q s
  | .tmpKeepalive t q => Sys2Proof.Machine.execTmpKeepalive t q s
  | .tmpDiscard t srcIp srcPort datagram => Sys2Proof.Machine.execTmpDiscard t srcIp srcPort datagram s
  | .sessionTimeout t sess => Sys2Proof.Machine.execSessionTimeout t sess s
  | .dhcpReply t ip seconds => Sys2Proof.Machine.execDhcpReply t ip seconds s
  | .dhcpTimer t => Sys2Proof.Machine.execDhcpTimer t s
  | .opAbort t slot abortFirst cuts => Sys2Proof.Machine.execOpAbort t slot abortFirst cuts s
  | .opFinalState t slot => Sys2Proof.Machine.execOpFinalState t slot s
  | .nvsShutdown t => Sys2Proof.Machine.execNvsShutdown t s
  | .nvsRestart t => Sys2Proof.Machine.execNvsRestart t s
  | .fwWrite t sess slot => Sys2Proof.Machine.execFwWrite t sess slot s
  | .storeScrub t sess slot => Sys2Proof.Machine.execStoreScrub t sess slot s
  | .panelRefresh t sess slot arg0 => Sys2Proof.Machine.execPanelRefresh t sess slot arg0 s
  | .arbEpochInc t sess slot arg0 => Sys2Proof.Machine.execArbEpochInc t sess slot arg0 s
  | .facilityWrite t sess slot arg0 arg1 arg2 arg3 => Sys2Proof.Machine.execFacilityWrite t sess slot arg0 arg1 arg2 arg3 s
  | .tallyBurnDone t burnt => Sys2Proof.Machine.execTallyBurnDone t burnt s
  | .nandEraseDone t erased blank => Sys2Proof.Machine.execNandEraseDone t erased blank s
  | .nandProgramDone t programmed => Sys2Proof.Machine.execNandProgramDone t programmed s
  | .blockRelocation t => Sys2Proof.Machine.execBlockRelocation t s
  | .journalCompaction t => Sys2Proof.Machine.execJournalCompaction t s
  | .panelAutoRefresh t => Sys2Proof.Machine.execPanelAutoRefresh t s
  | .panelDriveDone t => Sys2Proof.Machine.execPanelDriveDone t s
  | .almAck t v => Sys2Proof.Machine.execAlmAck t v s
  | .escalationTimer t code => Sys2Proof.Machine.execEscalationTimer t code s
  | .readTrackStart t => Sys2Proof.Machine.execReadTrackStart t s
  | .exposeTrackEnd t => Sys2Proof.Machine.execExposeTrackEnd t s
  | .pauseExpiry t port => Sys2Proof.Machine.execPauseExpiry t port s
  | .acOvervoltageClear t => Sys2Proof.Machine.execAcOvervoltageClear t s
  | .managementLinkUp t => Sys2Proof.Machine.execManagementLinkUp t s
  | .managementLinkDown t => Sys2Proof.Machine.execManagementLinkDown t s
  | .extestUpdateDr t cells => Sys2Proof.Machine.execExtestUpdateDr t cells s
  | .vrefTReturn t => Sys2Proof.Machine.execVrefTReturn t s
  | .tWholeSecond t => Sys2Proof.Machine.execTWholeSecond t s

end Sys2Proof.Machine
end

