-- ==== Sys2Proof/Machine/Step.lean ====
section
/-!
DEFINITION. One step of the module: the command at the front of the queue, or a REFTICK that passes.
-/
namespace Sys2Proof.Machine

/-- A REFTICK passes with no command: the timing island counts it, and nothing else happens (DESIGN CHOICE, log entry 3). -/
def State.idleTick (s : State) : State := s.at (s.wall + 16)

/-- Take the command at the front of the queue and give it its meaning on the state with the queue's rest. -/
def step (s : State) : Host.Outcome State Fault Refusal :=
  match s.pending with
  | [] => .next s.idleTick
  | c :: rest => exec c { s with pending := rest }

/-- The command that a word spells, put at the front of the queue; the state unchanged where it spells none. -/
def State.withFetchWord (s : State) (nbits w : Nat) : State :=
  match decodeTableWord nbits w with
  | some c => { s with pending := c :: s.pending }
  | none => s

end Sys2Proof.Machine
end

