-- ==== Sys2Proof/Safety.lean ====
section
/-!
DEFINITION. The terms of the statements: what a command may change, and the invariants of the state.
-/
namespace Sys2Proof.Machine

/-- Every register field but those listed reads in `t` as in `s`. -/
def onlyFields (fs : List Fld) (s t : State) : Prop := ∀ f : Fld, f.key ∉ fs.map Fld.key → t.get f = s.get f

/-- The register fields that a fault raised or cleared may write (R519, R521, R523). -/
def faultFields : List Fld :=
  [ALM_EVENTS.RAISED, ALM_EVENTS.CLEARED, ALM_EVENTS.OVERFLOW, ALM_RAISE_COUNT.COUNT, ALM_OVERFLOW_COUNT.COUNT, NVS_LOG_LOST.COUNT]

/-- The register fields that an entry released or discarded may write (R438, R443, R444). -/
def bufferFields : List Fld := [PRT_BB_FREE.PAGES, PRT_BB_STATE.ENTRIES, PRT_BB_STATE.CAP, PRT_EVENTS.DRAIN_DONE]

/-- Every part of the state but the instants and the register file is in `t` what it is in `s`: the store, the work in
progress, the tables, what has left the module, the queue. -/
def onlyRegs (s t : State) : Prop := { t with now := s.now, pwr.real := s.pwr.real, regs := s.regs } = s

/-- Nothing but time differs. -/
def onlyTime (s t : State) : Prop := { t with now := s.now, pwr.real := s.pwr.real } = s

/-- An operation's command has been accepted in a slot (R481): its command and session stand in the slot, which is QUEUED or
RUNNING, a new acceptance is counted, no abort is asked for, and the other slots keep their states. -/
def Accepted (sess slot cmd : Nat) (s t : State) : Prop :=
  t.get (OP_CMD.CMD slot) = cmd ∧ t.get (OP_SESSION.SESSION slot) = sess % 2 ^ 32 ∧
  (t.get (OP_STATUS.STATE slot) = 1 ∨ t.get (OP_STATUS.STATE slot) = 2) ∧ t.get (OP_STATUS.ABORT_REQ slot) = 0 ∧
  t.get (OP_STATUS.GEN slot) = (s.get (OP_STATUS.GEN slot) + 1) % 2 ^ (OP_STATUS.GEN slot).width ∧
  t.ops.count = s.ops.count + 1 ∧
  ∀ k, k < 8 → k ≠ slot → t.get (OP_STATUS.STATE k) = s.get (OP_STATUS.STATE k)

/-- A TMP request of a session that TMP serves, executes and answers: well formed, its session known, the next in sequence (R472). -/
def Served (op : Nat) (q : TmpReq) (e : Sess) (s : State) : Prop :=
  s.get PWR_STATUS.STATE < 4 ∧ s.tmpUp = true ∧ headerBad op q = none ∧ s.sessOf q = some e ∧ s.tmp.waits = [] ∧
  q.seq = (e.seq + 1) % 2 ^ 32

/-- A request has been received and answered: the reply of R466 has left, to the request's source. -/
def Answered (op : Nat) (q : TmpReq) (a : Ans) (s t : State) : Prop :=
  t.out = .tmpReply q.srcIp q.srcPort (replyBytes op q q.session a) :: s.out ∧ t.get ENG_TMP_RX.COUNT = (s.get ENG_TMP_RX.COUNT + 1) % 2 ^ 32

/-- The register file is in canonical form (so equal register contents are equal data). -/
def State.regsOk (s : State) : Prop := Sparse.wf 0 s.regs = true

end Sys2Proof.Machine
end

