-- ==== Sys2Proof/Certificates/Slice0/Obligations.lean ====
section
/-!
DEFINITION. The statements for the provers.
-/
open Sys2Proof Sys2Proof.Machine

/-! ### The machine -/

/-- A step takes the command at the front of the queue and gives it its meaning on the state with the queue's rest. -/
def Obligations.StepRunsFront : Prop :=
  ∀ (c : Instr) (rest : List Instr) (s : State), step { s with pending := c :: rest } = exec c { s with pending := rest }

/-- With no command waiting, a step lets 16 phases pass and changes nothing else (the model's choice, log entry 3). In
Black the timing island is off and its count stands (R140, R145). -/
def Obligations.IdleStepCountsReftick : Prop :=
  ∀ s : State, s.pending = [] → step s = .next { s with
    now := if s.get PWR_STATUS.STATE = 5 then s.now else s.wall + 16, pwr.real := s.wall + 16 }

/-! ### Governor and reference -/

/-- GOV_CTRL_WRITE, GOV_THRESHOLD_WRITE: a legal write outside LOAD sets its fields and nothing else (R56, R12). The two
clearing commands set their counters to 0 and GOV_MIN_SLACK to its reset value. The writes reach the module outside Slate, Black and
the recovery loader (R151, R502). -/
def Obligations.GovernorWrites : Prop :=
  (∀ (n v : Nat) (s : State), s.takes 0x10000 = true → s.sys.mode ≠ .load → s.gov.hot = false →
    tierExists s.image (GOV_CTRL.TIER_MIN.ofWord v) = true → tierExists s.image (GOV_CTRL.TIER_MAX.ofWord v) = true →
    GOV_CTRL.TIER_MIN.ofWord v ≤ GOV_CTRL.TIER_MAX.ofWord v →
    GOV_CTRL.TIER_MIN.ofWord v ≤ s.get GOV_STATE.TIER → s.get GOV_STATE.TIER ≤ GOV_CTRL.TIER_MAX.ofWord v →
    s.gov.tierNext.all (fun g => decide (GOV_CTRL.TIER_MIN.ofWord v ≤ g ∧ g ≤ GOV_CTRL.TIER_MAX.ofWord v)) = true →
    ∃ t, exec (.govCtrlWrite n v) s = .next t ∧
      t.get GOV_CTRL.TIER_MIN = GOV_CTRL.TIER_MIN.ofWord v % 4 ∧ t.get GOV_CTRL.TIER_MAX = GOV_CTRL.TIER_MAX.ofWord v % 4 ∧
      onlyFields [GOV_CTRL.TIER_MIN, GOV_CTRL.TIER_MAX] s t ∧ onlyRegs s t) ∧
  (∀ (n v : Nat) (s : State), s.takes 0x1000C = true → s.sys.mode ≠ .load → v < 2 ^ 24 → 0 < v → v < s.get GOV_SLACK_HIGH.HIGH →
    s.get GOV_SLACK_HIGH.HIGH ≤ s.get GOV_DEADLINE.DL →
    ∃ t, exec (.govThresholdWrite n false v) s = .next t ∧ t.get GOV_SLACK_LOW.LOW = v ∧
      onlyFields [GOV_SLACK_LOW.LOW] s t ∧ onlyRegs s t) ∧
  (∀ (n v : Nat) (s : State), s.takes 0x10010 = true → s.sys.mode ≠ .load → v < 2 ^ 24 → 0 < s.get GOV_SLACK_LOW.LOW → s.get GOV_SLACK_LOW.LOW < v →
    v ≤ s.get GOV_DEADLINE.DL →
    ∃ t, exec (.govThresholdWrite n true v) s = .next t ∧ t.get GOV_SLACK_HIGH.HIGH = v ∧
      onlyFields [GOV_SLACK_HIGH.HIGH] s t ∧ onlyRegs s t) ∧
  (∀ (n : Nat) (s : State), s.takes 0x10040 = true → ∃ t, exec (.govClrCounts n) s = .next t ∧
      (∀ f ∈ [GOV_LATE_COUNT.COUNT, GOV_DECIM_COUNT.COUNT, GOV_OVF_COUNT.COUNT, GOV_TIER_FRAMES_0.COUNT,
        GOV_TIER_FRAMES_1.COUNT, GOV_TIER_FRAMES_2.COUNT, GOV_TIER_FRAMES_3.COUNT], t.get f = 0) ∧
      onlyFields [GOV_LATE_COUNT.COUNT, GOV_DECIM_COUNT.COUNT, GOV_OVF_COUNT.COUNT, GOV_TIER_FRAMES_0.COUNT,
        GOV_TIER_FRAMES_1.COUNT, GOV_TIER_FRAMES_2.COUNT, GOV_TIER_FRAMES_3.COUNT] s t ∧ onlyRegs s t) ∧
  (∀ (n : Nat) (s : State), s.takes 0x10040 = true → ∃ t, exec (.govClrMin n) s = .next t ∧ t.get GOV_MIN_SLACK.SLACK = 0x7FFFFFFF ∧
      onlyFields [GOV_MIN_SLACK.SLACK] s t ∧ onlyRegs s t)

/-- GOV_CTRL_WRITE (R59): a legal write that leaves the tier outside the new range schedules the move to the nearer end of the range,
and the boundary that applies it sets the tier and a lockout of 16, whatever the lockout was. A change that waits for a tier
outside the new range is given up where the present tier lies inside (DEDUCED, log entry 206). While the die's temperature holds
TIER_MAX, the tier follows the new TIER_MAX (R65). -/
def Obligations.TierRangeMovesTier : Prop :=
  (∀ (n v : Nat) (s : State), s.takes 0x10000 = true → s.sys.mode ≠ .load → s.gov.hot = false → s.sys.runAt = none →
    tierExists s.image (GOV_CTRL.TIER_MIN.ofWord v) = true → tierExists s.image (GOV_CTRL.TIER_MAX.ofWord v) = true →
    GOV_CTRL.TIER_MIN.ofWord v ≤ GOV_CTRL.TIER_MAX.ofWord v →
    s.get GOV_STATE.TIER < GOV_CTRL.TIER_MIN.ofWord v →
    ∃ t, exec (.govCtrlWrite n v) s = .next t ∧ t.gov.tierNext = some (GOV_CTRL.TIER_MIN.ofWord v) ∧
      t.tierApply.get GOV_STATE.TIER = GOV_CTRL.TIER_MIN.ofWord v ∧ t.tierApply.get GOV_STATE.LOCKOUT = 16) ∧
  (∀ (n v : Nat) (s : State), s.takes 0x10000 = true → s.sys.mode ≠ .load → s.gov.hot = false → s.sys.runAt = none →
    tierExists s.image (GOV_CTRL.TIER_MIN.ofWord v) = true → tierExists s.image (GOV_CTRL.TIER_MAX.ofWord v) = true →
    GOV_CTRL.TIER_MIN.ofWord v ≤ GOV_CTRL.TIER_MAX.ofWord v →
    GOV_CTRL.TIER_MAX.ofWord v < s.get GOV_STATE.TIER →
    ∃ t, exec (.govCtrlWrite n v) s = .next t ∧ t.gov.tierNext = some (GOV_CTRL.TIER_MAX.ofWord v) ∧
      t.tierApply.get GOV_STATE.TIER = GOV_CTRL.TIER_MAX.ofWord v ∧ t.tierApply.get GOV_STATE.LOCKOUT = 16) ∧
  (∀ (n v g : Nat) (s : State), s.takes 0x10000 = true → s.sys.mode ≠ .load → s.gov.hot = false → s.sys.runAt = none →
    tierExists s.image (GOV_CTRL.TIER_MIN.ofWord v) = true → tierExists s.image (GOV_CTRL.TIER_MAX.ofWord v) = true →
    GOV_CTRL.TIER_MIN.ofWord v ≤ GOV_CTRL.TIER_MAX.ofWord v →
    GOV_CTRL.TIER_MIN.ofWord v ≤ s.get GOV_STATE.TIER → s.get GOV_STATE.TIER ≤ GOV_CTRL.TIER_MAX.ofWord v →
    s.gov.tierNext = some g → (g < GOV_CTRL.TIER_MIN.ofWord v ∨ GOV_CTRL.TIER_MAX.ofWord v < g) →
    ∃ t, exec (.govCtrlWrite n v) s = .next t ∧ t.gov.tierNext = none) ∧
  (∀ (n v : Nat) (s : State), s.takes 0x10000 = true → s.sys.mode ≠ .load → s.gov.hot = true →
    tierExists s.image (GOV_CTRL.TIER_MIN.ofWord v) = true → tierExists s.image (GOV_CTRL.TIER_MAX.ofWord v) = true →
    GOV_CTRL.TIER_MIN.ofWord v ≤ GOV_CTRL.TIER_MAX.ofWord v →
    ∃ t, exec (.govCtrlWrite n v) s = .next t ∧ t.gov.tierNext = some (GOV_CTRL.TIER_MAX.ofWord v))

/-- The governor's own events. The lockout of a tier change expires (R58): LOCKOUT reads 0, and a late frame measured during it, or a
run of 16 that still stands, asks for the tier of R57, where the die's temperature does not hold TIER_MAX. The prediction of a run
ends and the run counts restart (R62). A step of the core rail that settles is followed by the next one toward the goal, up or down;
at the goal the rail rests; the power-fail warning keeps it from a step up (R37, R136). A ring window sets N_MIN, its ring and the
cycle estimate (R36), and in CHARACTERISE a cycle above 1,300 ps raises VCODE by a step (R63). -/
def Obligations.GovernorEvents : Prop :=
  (∀ (n : Nat) (s : State), s.gov.lockDue = true →
    ∃ t, exec (.govLockoutEnd n) s = .next t ∧ t.get GOV_STATE.LOCKOUT = 0 ∧ t.gov.lockDue = false ∧
      (s.gov.hot = true → t.gov.tierNext = s.gov.tierNext) ∧
      (s.gov.hot = false → s.gov.tierNext = none → (s.gov.lateHeld = true ∨ s.gov.raiseRun = 16) → s.noVoltageLeft = true →
        s.get GOV_STATE.TIER < s.get GOV_CTRL.TIER_MAX → t.gov.tierNext = some (s.get GOV_STATE.TIER + 1)) ∧
      (s.gov.hot = false → s.gov.tierNext = none → s.gov.lateHeld = false → s.gov.raiseRun ≠ 16 → s.gov.lowerRun = 16 →
        s.get GOV_CTRL.TIER_MIN < s.get GOV_STATE.TIER → t.gov.tierNext = some (s.get GOV_STATE.TIER - 1)) ∧
      (s.gov.lateHeld = false → s.gov.raiseRun ≠ 16 → s.gov.lowerRun ≠ 16 → t.gov.tierNext = s.gov.tierNext) ∧
      onlyFields [GOV_STATE.LOCKOUT] s t ∧ { t with now := s.now, pwr.real := s.pwr.real, regs := s.regs, gov := s.gov } = s) ∧
  (∀ (n : Nat) (s : State), s.gov.predDue = true →
    ∃ t, exec (.govPredictionEnd n) s = .next t ∧ t.get GOV_STATE.PREDICTING = 0 ∧ t.get GOV_STATE.RUNLEN = 0 ∧
      t.get GOV_STATE.RUNKIND = 0 ∧ t.gov.predDue = false ∧ t.gov.raiseRun = 0 ∧ t.gov.lowerRun = 0 ∧ t.gov.voltRun = 0 ∧
      onlyFields [GOV_STATE.PREDICTING, GOV_STATE.RUNLEN, GOV_STATE.RUNKIND] s t ∧
      { t with now := s.now, pwr.real := s.pwr.real, regs := s.regs, gov := s.gov } = s) ∧
  (∀ (n : Nat) (s : State), s.gov.vMoving = true → (s.gov.vTo = none ∨ s.gov.vTo = some (s.get GOV_STATE.VCODE)) →
    exec (.voltageStepSettled n) s = .next { s.at n with gov.vTo := none, gov.vMoving := false }) ∧
  (∀ (n g : Nat) (s : State), s.gov.vMoving = true → s.gov.vTo = some g → s.get GOV_STATE.VCODE < g → g ≤ 16 → s.pfw = false →
    ∃ t, exec (.voltageStepSettled n) s = .next t ∧ t.get GOV_STATE.VCODE = s.get GOV_STATE.VCODE + 1 ∧
      (s.get GOV_STATE.VCODE = 15 → t.get GOV_EVENTS.AT_VMAX = 1) ∧ t.gov = s.gov ∧
      onlyFields [GOV_STATE.VCODE, GOV_EVENTS.AT_VMAX] s t ∧
      { t with now := s.now, pwr.real := s.pwr.real, regs := s.regs, mon := s.mon } = s) ∧
  (∀ (n g : Nat) (s : State), s.gov.vMoving = true → s.gov.vTo = some g → g < s.get GOV_STATE.VCODE → s.get GOV_STATE.VCODE ≤ 16 →
    ∃ t, exec (.voltageStepSettled n) s = .next t ∧ t.get GOV_STATE.VCODE = s.get GOV_STATE.VCODE - 1 ∧ t.gov = s.gov ∧
      onlyFields [GOV_STATE.VCODE] s t ∧ { t with now := s.now, pwr.real := s.pwr.real, regs := s.regs, mon := s.mon } = s) ∧
  (∀ (n g : Nat) (s : State), s.gov.vMoving = true → s.gov.vTo = some g → s.get GOV_STATE.VCODE < g → s.pfw = true →
    exec (.voltageStepSettled n) s = .next { s.at n with gov.vMoving := false }) ∧
  (∀ (n : Nat) (counts : List Nat) (s : State), counts ≠ [] → (∀ x ∈ counts, 0 < x ∧ x < 2 ^ 16) →
    ∃ t, exec (.roWindowEnd n counts) s = .next t ∧ t.get GOV_RO_COUNT.N_MIN ∈ counts ∧
      (∀ x ∈ counts, t.get GOV_RO_COUNT.N_MIN ≤ x) ∧
      (s.sys.mode ≠ .characterise → onlyFields [GOV_RO_COUNT.N_MIN, GOV_RO_COUNT.INDEX, GOV_CYCLE_EST.CYCLE] s t) ∧
      (s.sys.mode = .characterise → s.gov.vTo = none → s.gov.vMoving = false → s.pfw = false → s.get GOV_STATE.VCODE < 16 →
        1300 * (2 ^ 15 * t.get GOV_RO_COUNT.N_MIN) < s.get GOV_RO_SCALE.SCALE * 12800000 →
        t.get GOV_STATE.VCODE = s.get GOV_STATE.VCODE + 1) ∧
      onlyFields [GOV_RO_COUNT.N_MIN, GOV_RO_COUNT.INDEX, GOV_CYCLE_EST.CYCLE, GOV_STATE.VCODE, GOV_EVENTS.AT_VMAX] s t ∧
      { t with now := s.now, pwr.real := s.pwr.real, regs := s.regs, gov := s.gov, mon := s.mon } = s)

/-- The reference: a gate within ±20 ppm counts toward qualification and records the frequency; the tenth qualifies the input, clears
0x0102 and 0x0103, and decides the change to it where the selection allows it (R40, R43), which takes place at once outside RUN; in
RUN the boundary that is due, at least 1 REFTICK after the decision, brings it with its phase step added to T (R43, R398); the loss
of the input in use raises fault 0x0102, counts, and leaves the island on the oscillator (R41).
The delay-locked line: a relock sets DLL_LOCK, clears fault 0x0101 and lets the phases run (R46, R47, R526); a loss of lock outside
RUN with no frame in flight clears DLL_LOCK, sets DLL_UNLOCK, raises fault 0x0101 and stops the phases (R47); in the second stage of
start-up a line that does not lock raises 0x0101 (R106). -/
def Obligations.ReferenceAndDelayLine : Prop :=
  (∀ (n : Nat) (off : Int) (s : State), off.natAbs ≤ 2000 → s.gov.gates < 9 →
    ∃ t, exec (.refGateEnd n true off) s = .next t ∧ t.get GOV_REF_FREQ.EXT_FREQ = unsigned 16 off ∧
      t.get GOV_REF_STATUS.EXT_VALID = 1 ∧ t.gov.gates = s.gov.gates + 1 ∧
      onlyFields [GOV_REF_FREQ.EXT_FREQ, GOV_REF_STATUS.EXT_VALID] s t ∧
      { t with now := s.now, pwr.real := s.pwr.real, regs := s.regs, gov := s.gov } = s) ∧
  (∀ (n : Nat) (off : Int) (s : State), off.natAbs ≤ 2000 → s.gov.gates = 9 → s.get GOV_REF_STATUS.QUALIFIED = 0 →
    s.get GOV_REF_STATUS.SRC = 0 → s.get GOV_REF_CTRL.SRC_SEL ≠ 2 → s.alm.unheld = [] →
    ∃ t, exec (.refGateEnd n true off) s = .next t ∧ t.get GOV_REF_STATUS.QUALIFIED = 1 ∧ t.get GOV_REF_STATUS.EXT_SEEN = 1 ∧
      (s.sys.run = true → t.gov.refTo = some 1 ∧ t.get GOV_REF_STATUS.SRC = 0) ∧
      (s.sys.run = false → t.gov.refTo = none ∧ t.get GOV_REF_STATUS.SRC = 1 ∧ t.get GOV_EVENTS.REF_SWITCH = 1) ∧
      t.isActive 0x0102 noInst = false ∧ t.isActive 0x0103 noInst = false ∧ t.sys = s.sys ∧ t.nv.cells = s.nv.cells) ∧
  (∀ (n src b : Nat) (step : Int) (s : State), s.gov.refTo = some src → src < 2 → (s.at n).dueBoundary = some b → s.gov.refAt + 16 ≤ b →
    ∃ t, exec (.refSwitch n step) s = .next t ∧ t.get GOV_REF_STATUS.SRC = src ∧ t.get GOV_EVENTS.REF_SWITCH = 1 ∧
      t.gov.refTo = none ∧ t.timeAt t.now = (s.at n).timeAt t.now + step ∧
      onlyFields [GOV_REF_STATUS.SRC, GOV_EVENTS.REF_SWITCH, GOV_REF_STATUS.HOLDOVER] s t ∧ t.sys = s.sys ∧ t.nv = s.nv ∧
      t.alm = s.alm) ∧
  (∀ (n : Nat) (shift : Int) (s : State), s.get GOV_REF_STATUS.QUALIFIED = 1 → s.get GOV_REF_STATUS.SRC = 1 →
    s.get GOV_REF_CTRL.SRC_SEL ≠ 1 → s.held < 62 →
    ∃ t, exec (.refLoss n shift) s = .next t ∧ t.get GOV_REF_STATUS.SRC = 0 ∧ t.get GOV_REF_STATUS.QUALIFIED = 0 ∧
      t.isActive 0x0102 noInst = true ∧ t.gov.refTo = none ∧ t.gov.gates = 0 ∧
      t.get GOV_REF_LOSS_COUNT.COUNT = (s.get GOV_REF_LOSS_COUNT.COUNT + 1) % 2 ^ GOV_REF_LOSS_COUNT.COUNT.width ∧ t.sys = s.sys ∧
      t.nv.cells = s.nv.cells) ∧
  (∀ (n v : Nat) (s : State), s.takes 0x10100 = true → GOV_REF_CTRL.SRC_SEL.ofWord v = 2 → s.get GOV_REF_STATUS.SRC = 1 →
    ∃ t, exec (.govRefCtrlWrite n v) s = .next t ∧ t.get GOV_REF_CTRL.SRC_SEL = 2 ∧ (s.sys.run = true → t.gov.refTo = some 0) ∧
      (s.sys.run = false → t.get GOV_REF_STATUS.SRC = 0 ∧ t.gov.refTo = none) ∧ t.nv.cells = s.nv.cells) ∧
  (∀ (n v : Nat) (s : State), s.takes 0x10100 = true → GOV_REF_CTRL.SRC_SEL.ofWord v < 2 → s.get GOV_REF_STATUS.SRC = 1 →
    ∃ t, exec (.govRefCtrlWrite n v) s = .next t ∧ t.get GOV_REF_CTRL.SRC_SEL = GOV_REF_CTRL.SRC_SEL.ofWord v ∧
      t.get GOV_REF_STATUS.SRC = 1 ∧ t.gov.refTo = none ∧ t.sys = s.sys ∧ t.nv.cells = s.nv.cells) ∧
  (∀ (n : Nat) (s : State), s.sys.stages.contains 2 = true → s.get GOV_REF_STATUS.DLL_LOCK = 0 → s.get PWR_STATUS.STATE < 2 →
    s.alm.unheld = [] →
    ∃ t, exec (.dllLock n) s = .next t ∧ t.get GOV_REF_STATUS.DLL_LOCK = 1 ∧ t.isActive 0x0101 noInst = false ∧
      t.alm.dllSince = (s.at n).now ∧ t.fpl.frozen = none ∧ t.sys = s.sys ∧ t.gov = s.gov ∧ t.nv.cells = s.nv.cells ∧
      onlyFields ([GOV_REF_STATUS.DLL_LOCK, FPL_PG_STATUS.IDLE_RUN, FPL_PG_STATUS.EXP_RUN] ++ faultFields) s t) ∧
  (∀ (n : Nat) (s : State), s.get GOV_REF_STATUS.DLL_LOCK = 1 → s.sys.run = false → s.sys.runAt = none → s.fpl.frames = [] →
    s.alm.dllTimes = [] → s.held < 62 →
    ∃ t, exec (.dllLossOfLock n) s = .next t ∧ t.get GOV_REF_STATUS.DLL_LOCK = 0 ∧ t.get GOV_EVENTS.DLL_UNLOCK = 1 ∧
      t.isActive 0x0101 noInst = true ∧ t.alm.dllTimes = [(s.at n).now] ∧ t.fpl.frozen.isSome = true ∧ t.sys = s.sys ∧
      t.gov = s.gov ∧ t.nv.cells = s.nv.cells ∧
      onlyFields ([GOV_REF_STATUS.DLL_LOCK, GOV_EVENTS.DLL_UNLOCK, FPL_PG_STATUS.IDLE_RUN, FPL_PG_STATUS.EXP_RUN,
        FPL_PG_STATUS.READ_RUN] ++ faultFields) s t) ∧
  (∀ (n : Nat) (s : State), s.get GOV_REF_STATUS.DLL_LOCK = 0 → s.sys.stages = [1] → s.isActive 0x0101 noInst = false →
    s.alm.unheld = [] → s.held < 62 →
    ∃ t, exec (.dllLossOfLock n) s = .next t ∧ t.isActive 0x0101 noInst = true ∧ t.sys = s.sys ∧ onlyFields faultFields s t)

/-! ### Long operations (R481 to R489) -/

/-- The image operations are accepted where no common refusal and no refusal of their chapter applies (R99, R481, R487): the slot
runs them. IMG_ACTIVATE of a source whose length holds whole frames sets LOADING and takes the mode LOAD, in RUN at the end that it
asks for; IMG_WRITE_SLOT marks its slot WRITING; IMG_ERASE_SLOT queues the SLOT_DIR record of an EMPTY slot. No slot's content and no
tally cell changes. -/
def Obligations.ImageOperationsAccepted : Prop :=
  (∀ (n sess slot a : Nat) (s : State), slot < 8 → ((s.at n).opArgs slot (some a) none none none).opRefusal slot 0x0201 = none →
    imgCheck 0x0201 slot ((s.at n).opArgs slot (some a) none none none) = none →
    ∃ t, exec (.imgVerify n sess slot a) s = .next t ∧ Accepted sess slot 0x0201 s t ∧ t.nv.cells = s.nv.cells ∧
      t.nv.slots = s.nv.slots) ∧
  (∀ (n sess slot a : Nat) (s : State), slot < 8 → ((s.at n).opArgs slot (some a) none none none).opRefusal slot 0x0202 = none →
    imgCheck 0x0202 slot ((s.at n).opArgs slot (some a) none none none) = none →
    ∃ t, exec (.imgActivate n sess slot a) s = .next t ∧ Accepted sess slot 0x0202 s t ∧ t.nv.cells = s.nv.cells ∧
      t.nv.slots = s.nv.slots) ∧
  (∀ (n sess slot a : Nat) (s : State), slot < 8 → ((s.at n).opArgs slot (some a) none none none).opRefusal slot 0x0202 = none →
    imgCheck 0x0202 slot ((s.at n).opArgs slot (some a) none none none) = none → a < 2 ^ 32 → 2048 ≤ (s.source a).2 →
    (s.source a).2 % 1024 = 0 → (∀ l ∈ s.img.loads, l.slot ≠ slot) →
    ∃ t, exec (.imgActivate n sess slot a) s = .next t ∧ t.get IMG_STATUS.LOADING = 1 ∧
      (s.sys.run = true → t.sys.changing = true ∧ t.sys.next = some .load ∧ t.sys.run = true) ∧
      (s.sys.run = false → t.sys.mode = .load ∧ t.sys.back = s.sys.mode)) ∧
  (∀ (n sess slot a b : Nat) (s : State), slot < 8 → a < 4 →
    ((s.at n).opArgs slot (some a) (some b) none none).opRefusal slot 0x0203 = none →
    imgCheck 0x0203 slot ((s.at n).opArgs slot (some a) (some b) none none) = none →
    ∃ t, exec (.imgWriteSlot n sess slot a b) s = .next t ∧ Accepted sess slot 0x0203 s t ∧
      t.get (IMG_SLOTn_STATUS.WRITING a) = 1 ∧ t.nv.cells = s.nv.cells ∧ t.nv.slots = s.nv.slots) ∧
  (∀ (n sess slot a : Nat) (s : State), slot < 8 → a < 4 →
    ((s.at n).opArgs slot (some a) none none none).opRefusal slot 0x0204 = none →
    imgCheck 0x0204 slot ((s.at n).opArgs slot (some a) none none none) = none →
    ∃ t, exec (.imgEraseSlot n sess slot a) s = .next t ∧ Accepted sess slot 0x0204 s t ∧
      (∃ r : JRec, t.nvs.progs = s.nvs.progs ++ [.journal r (some slot)] ∧ r.type = 0x10 ∧ r.payload.head? = some a) ∧
      t.nv.cells = s.nv.cells ∧ t.nv.slots = s.nv.slots)

/-- The calibration operations and SOL_RUN are accepted where no common refusal and no refusal of their chapter applies (R270, R277, R363,
R487): CAL_CHARACTERISE on positions of the active image that are bound takes the mode CHARACTERISE at Tier 0 and keeps the mode before
it; on others it is accepted too, and is to end FAILED with reason 2. -/
def Obligations.CalibrationOperationsAccepted : Prop :=
  (∀ (n sess slot a0 a1 a2 a3 : Nat) (s : State), slot < 8 →
    ((s.at n).opArgs slot (some a0) (some a1) (some a2) (some a3)).opRefusal slot 0x0701 = none →
    charCheck slot ((s.at n).opArgs slot (some a0) (some a1) (some a2) (some a3)) = none →
    ∃ t, exec (.calCharacterise n sess slot a0 a1 a2 a3) s = .next t ∧ Accepted sess slot 0x0701 s t ∧ t.nv = s.nv) ∧
  (∀ (n sess slot a0 a1 a2 a3 : Nat) (s : State), slot < 8 → a0 < 2 ^ 32 → a0 ≠ 0 → clearBits a0 s.boundMask = 0 →
    ((s.at n).opArgs slot (some a0) (some a1) (some a2) (some a3)).opRefusal slot 0x0701 = none →
    charCheck slot ((s.at n).opArgs slot (some a0) (some a1) (some a2) (some a3)) = none →
    ∃ t, exec (.calCharacterise n sess slot a0 a1 a2 a3) s = .next t ∧
      t.sys.mode = .characterise ∧ t.sys.back = s.sys.mode ∧ t.get GOV_STATE.TIER = 0 ∧ t.get CAL_CHAR_STATE.STATE = 1 ∧
      t.get CAL_CHAR_STATE.POINTS = 0) ∧
  (∀ (n sess slot a0 a1 a2 a3 : Nat) (s : State), slot < 8 → a0 < 2 ^ 32 → a0 = 0 ∨ clearBits a0 s.boundMask ≠ 0 →
    s.ops.slots.length = 8 →
    ((s.at n).opArgs slot (some a0) (some a1) (some a2) (some a3)).opRefusal slot 0x0701 = none →
    charCheck slot ((s.at n).opArgs slot (some a0) (some a1) (some a2) (some a3)) = none →
    ∃ t, exec (.calCharacterise n sess slot a0 a1 a2 a3) s = .next t ∧ t.sys = s.sys ∧ t.get (OP_RESULT_w.WORD slot 0) = 2 ∧
      (t.opx slot).outcome = some 4) ∧
  (∀ (n sess slot a0 : Nat) (s : State), slot < 8 → ((s.at n).opArgs slot (some a0) none none none).opRefusal slot 0x0702 = none →
    ∃ t, exec (.calRevert n sess slot a0) s = .next t ∧ Accepted sess slot 0x0702 s t ∧ t.cal.bankJob.isSome = true ∧
      t.sys = s.sys ∧ t.nv.cells = s.nv.cells) ∧
  (∀ (n sess slot a0 a1 a2 a3 : Nat) (s : State), slot < 8 → (∀ b ∈ s.sol.batches.head?, b.tier.isSome = true) →
    ((s.at n).opArgs slot (some a0) (some a1) (some a2) (some a3)).opRefusal slot 0x0901 = none →
    solCheck slot ((s.at n).opArgs slot (some a0) (some a1) (some a2) (some a3)) = none →
    ∃ t, exec (.solRun n sess slot a0 a1 a2 a3) s = .next t ∧ Accepted sess slot 0x0901 s t ∧ t.sys = s.sys ∧ t.nv = s.nv ∧
      t.sol.win = s.sol.win)

/-- The store's operations and TILE_BIND are accepted where nothing refuses them (R114, R500, R503, R510, R511, R515): FW_WRITE and
STORE_SCRUB take the mode SERVICE; a panel refresh begins or waits, a full one where the panel is stale (R515); a counted change begins
with its INTENT in the tally log, or waits while a burn runs or the power-fail warning is active (R136), and burns no cell yet (R506). -/
def Obligations.StoreOperationsAccepted : Prop :=
  (∀ (n sess slot : Nat) (s : State), slot < 8 → (s.at n).opRefusal slot 0x0E01 = none →
    ∃ t, exec (.fwWrite n sess slot) s = .next t ∧ Accepted sess slot 0x0E01 s t ∧ t.sys.mode = .service ∧
      t.sys.back = s.sys.mode ∧ t.nv.cells = s.nv.cells) ∧
  (∀ (n sess slot : Nat) (s : State), slot < 8 → (s.at n).opRefusal slot 0x0E02 = none → s.ops.slots.length = 8 →
    ∃ t, exec (.storeScrub n sess slot) s = .next t ∧ Accepted sess slot 0x0E02 s t ∧ t.sys.mode = .service ∧
      t.sys.back = s.sys.mode ∧ (s.nv.dirty = [] → (t.opx slot).outcome = some 3) ∧
      (s.nv.dirty ≠ [] → (t.opx slot).outcome = none ∧ t.nvs.erasing.length + t.nvs.eraseWait.length =
        s.nvs.erasing.length + s.nvs.eraseWait.length + 1) ∧ t.nv.cells = s.nv.cells) ∧
  (∀ (n sess slot a : Nat) (s : State), slot < 8 → a ≤ 1 →
    ((s.at n).opArgs slot (some a) none none none).opRefusal slot 0x0E03 = none →
    ∃ t, exec (.panelRefresh n sess slot a) s = .next t ∧ Accepted sess slot 0x0E03 s t ∧
      (s.pfw = false → t.nvs.drive.isSome = true) ∧ (s.nvs.drive.isSome = true ∨ s.pfw = true → t.nvs.drive = s.nvs.drive ∧
        t.nvs.driveWait = s.nvs.driveWait ++ [{ kind := if s.nvs.stale then 1 else a, purpose := 1, slot := some slot }]) ∧
      t.sys = s.sys ∧ t.nv.cells = s.nv.cells) ∧
  (∀ (n sess slot a : Nat) (s : State), slot < 8 → ((s.at n).opArgs slot (some a) none none none).opRefusal slot 0x0E04 = none →
    arbCheck sess slot ((s.at n).opArgs slot (some a) none none none) = none →
    ∃ t, exec (.arbEpochInc n sess slot a) s = .next t ∧ Accepted sess slot 0x0E04 s t ∧
      (s.pfw = false → s.nvs.burn = none → t.nvs.burn.isSome = true ∧ t.nv.tlog0.length = s.nv.tlog0.length + 1) ∧
      (s.pfw = true ∨ s.nvs.burn.isSome = true → t.nvs.burn = s.nvs.burn ∧ t.nvs.burnWait.length = s.nvs.burnWait.length + 1 ∧
        t.nv.tlog0 = s.nv.tlog0) ∧ t.nv.cells = s.nv.cells ∧ t.sys = s.sys) ∧
  (∀ (n sess slot a0 a1 a2 a3 : Nat) (s : State), slot < 8 →
    ((s.at n).opArgs slot (some a0) (some a1) (some a2) (some a3)).opRefusal slot 0x0E05 = none →
    facCheck sess slot ((s.at n).opArgs slot (some a0) (some a1) (some a2) (some a3)) = none →
    ∃ t, exec (.facilityWrite n sess slot a0 a1 a2 a3) s = .next t ∧ Accepted sess slot 0x0E05 s t ∧
      (s.pfw = false → s.nvs.burn = none → t.nvs.burn.isSome = true ∧ t.nv.tlog0.length = s.nv.tlog0.length + 1) ∧
      (s.pfw = true ∨ s.nvs.burn.isSome = true → t.nvs.burn = s.nvs.burn ∧ t.nvs.burnWait.length = s.nvs.burnWait.length + 1 ∧
        t.nv.tlog0 = s.nv.tlog0) ∧ t.nv.cells = s.nv.cells ∧ t.sys = s.sys) ∧
  (∀ (n sess slot pos lo hi a3 : Nat) (tile : TileRead) (s : State), slot < 8 →
    ((s.at n).opArgs slot (some pos) (some lo) (some hi) (some a3)).opRefusal slot 0x0401 = none →
    bindCheck sess slot ((s.at n).opArgs slot (some pos) (some lo) (some hi) (some a3)) = none →
    ∃ t, exec (.tileBind n sess slot pos lo hi a3 tile) s = .next t ∧ Accepted sess slot 0x0401 s t ∧ t.sys = s.sys ∧
      t.nv.cells = s.nv.cells ∧ t.nv.tableAt = s.nv.tableAt)

/-- A command that a common rule refuses (R481, R487): a live slot is busy with STATUS 2, and no operation begins; the refusal is the
newest of R470.
OP_ABORT marks the request of any live slot, ends a QUEUED operation ABORTED at once, decides that outcome for a running IMG_VERIFY,
has no further effect where a request stands, and is refused for a slot that is not live (R485); OP_FINAL_STATE makes a decided outcome
final: the state, the END bit of the slot, PROGRESS and the end tick (R482), and SERVICE or CHARACTERISE is left (R30). -/
def Obligations.OperationsRefuseAndEnd : Prop :=
  (∀ (n sess slot a : Nat) (s : State), slot < 8 → s.slotLive slot = true →
      s.takes (opAddr slot) = true →
      ∃ t, exec (.imgVerify n sess slot a) s = .next t ∧ t.get ENG_LAST_REFUSE.STATUS = 2 ∧ t.get ENG_LAST_REFUSE.REASON = 0 ∧
        t.get ENG_LAST_REFUSE_ADDR.ADDR = opAddr slot ∧
        onlyFields [ENG_LAST_REFUSE.REASON, ENG_LAST_REFUSE.STATUS, ENG_LAST_REFUSE.OP, ENG_LAST_REFUSE_ADDR.ADDR] s t ∧ onlyRegs s t) ∧
  (∀ (n slot : Nat) (first : Bool) (cuts : List SolCut) (s : State), slot < 8 → s.takes (0xD0118 + 0x100 * slot) = true →
    s.slotLive slot = true → s.get (OP_STATUS.ABORT_REQ slot) = 0 →
    ∃ t, exec (.opAbort n slot first cuts) s = .next t ∧ t.get (OP_STATUS.ABORT_REQ slot) = 1 ∧
      (s.get (OP_STATUS.STATE slot) = 1 → t.get (OP_STATUS.STATE slot) = 5 ∧ bit (t.get OPS_EVENTS.END) slot = 1)) ∧
  (∀ (n slot : Nat) (first : Bool) (cuts : List SolCut) (s : State), slot < 8 → s.takes (0xD0118 + 0x100 * slot) = true →
    s.slotLive slot = true → s.get (OP_STATUS.ABORT_REQ slot) = 1 →
    ∃ t, exec (.opAbort n slot first cuts) s = .next t ∧ onlyTime s t) ∧
  (∀ (n slot : Nat) (first : Bool) (cuts : List SolCut) (s : State), slot < 8 → s.takes (0xD0118 + 0x100 * slot) = true →
    s.slotLive slot = false →
    ∃ t, exec (.opAbort n slot first cuts) s = .next t ∧ t.get ENG_LAST_REFUSE.STATUS = 1 ∧ t.get ENG_LAST_REFUSE.REASON = 0x11 ∧
      onlyFields [ENG_LAST_REFUSE.REASON, ENG_LAST_REFUSE.STATUS, ENG_LAST_REFUSE.OP, ENG_LAST_REFUSE_ADDR.ADDR] s t ∧ onlyRegs s t) ∧
  (∀ (n slot : Nat) (first : Bool) (cuts : List SolCut) (s : State), slot < 8 → s.ops.slots.length = 8 →
    s.takes (0xD0118 + 0x100 * slot) = true → s.get (OP_CMD.CMD slot) = 0x0201 → s.get (OP_STATUS.STATE slot) = 2 → s.get (OP_STATUS.ABORT_REQ slot) = 0 →
    (s.opx slot).outcome = none →
    ∃ t, exec (.opAbort n slot first cuts) s = .next t ∧ t.get (OP_STATUS.ABORT_REQ slot) = 1 ∧ (t.opx slot).outcome = some 5 ∧
      (∀ l ∈ t.img.loads, l.slot ≠ slot) ∧ onlyFields [OP_STATUS.ABORT_REQ slot] s t ∧
      { t with now := s.now, pwr.real := s.pwr.real, regs := s.regs, img := s.img, ops := s.ops } = s) ∧
  (∀ (n slot o : Nat) (s : State), slot < 8 → s.slotLive slot = true → (s.opx slot).outcome = some o → (o = 3 ∨ o = 4 ∨ o = 5) →
    (∀ j ∈ s.nvs.erasing, j.slot ≠ some slot) →
    ∃ t, exec (.opFinalState n slot) s = .next t ∧ t.get (OP_STATUS.STATE slot) = o ∧ bit (t.get OPS_EVENTS.END) slot = 1 ∧
      t.get64 (OP_END_TICK_LO.TICK slot) (OP_END_TICK_HI.TICK slot) = (s.at n).now / 16 % 2 ^ 64 ∧ (t.opx slot).outcome = none ∧
      (o = 3 → t.get (OP_STATUS.PROGRESS slot) = 1000) ∧ t.get (OP_STATUS.ABORT_LATE slot) = b2n ((s.opx slot).late && o == 3) ∧
      (s.get (OP_CMD.CMD slot) = 0x0701 → s.sys.mode = .characterise → t.sys.mode = s.imageMode) ∧
      (s.get (OP_CMD.CMD slot) = 0x0E01 ∨ s.get (OP_CMD.CMD slot) = 0x0E02 → s.sys.mode = .service → t.sys.mode = s.backMode)) ∧
  (∀ (n slot o : Nat) (s : State), slot < 8 → s.ops.slots.length = 8 → s.get (OP_STATUS.STATE slot) = 2 →
    s.get (OP_CMD.CMD slot) = 0x0201 → (s.opx slot).outcome = some o → (o = 3 ∨ o = 4 ∨ o = 5) →
    (∀ j ∈ s.nvs.erasing, j.slot ≠ some slot) → s.img.unlockOp = none →
    ∃ t, exec (.opFinalState n slot) s = .next t ∧ t.get (OP_STATUS.STATE slot) = o ∧ bit (t.get OPS_EVENTS.END) slot = 1 ∧
      t.get64 (OP_END_TICK_LO.TICK slot) (OP_END_TICK_HI.TICK slot) = (s.at n).now / 16 % 2 ^ 64 ∧ (t.opx slot).outcome = none ∧
      (o = 3 → t.get (OP_STATUS.PROGRESS slot) = 1000) ∧
      { t with now := s.now, pwr.real := s.pwr.real, regs := s.regs, ops := s.ops } = s)

/-! ### Images and loads (R83 to R105) -/

/-- The IMG registers, where the host's write is taken (R151, R502): a staging length of whole words is taken where no operation reads
the staging area, CLEAR makes it 0 (R94); IMG_PRIMARY takes its slot and is stored (R89, R494); FALLBACK clears (R91); the golden unlock
of a custodian with its token begins its burn, or waits for one that runs, and no cell changes yet (R86, R506).
The stages of a load: a frame that passes the checks of R83 is counted, and one that fails a check, or cannot be read from its slot, ends
the operation with the check's reason and its frame; the last frame of an IMG_VERIFY whose file passes every check ends it DONE; the
quiesced module lets a load go on to its build (R102); a build that passes check 11 commits the image, and one that fails leaves the
active image (R102, R103); a slot write whose frames read back equal queues the SLOT_DIR record of its commit (R101), and one that does
not fails with reason 13 and fault 0x0204. -/
def Obligations.ImagesAndLoads : Prop :=
  (∀ (n v : Nat) (s : State), s.takes 0x20030 = true → s.stagingBusy = false → v % 4 = 0 → v ≤ 67108864 →
    ∃ t, exec (.imgStageLenWrite n v) s = .next t ∧ t.get IMG_STAGE_LEN.LEN = v ∧ onlyFields [IMG_STAGE_LEN.LEN] s t ∧ onlyRegs s t) ∧
  (∀ (n : Nat) (s : State), s.takes 0x20034 = true →
    ∃ t, exec (.imgStageClear n) s = .next t ∧ t.get IMG_STAGE_LEN.LEN = 0 ∧ onlyFields [IMG_STAGE_LEN.LEN] s t ∧ onlyRegs s t) ∧
  (∀ (n v : Nat) (s : State), s.takes 0x20020 = true →
    ∃ t, exec (.imgPrimaryWrite n v) s = .next t ∧ t.get IMG_PRIMARY.SLOT = v % 4 ∧ onlyFields [IMG_PRIMARY.SLOT] s t ∧
      (∃ r : JRec, t.nvs.progs = s.nvs.progs ++ [.journal r none] ∧ r.type = 0x50 ∧
        r.payload = leBytes 4 0x20020 ++ leBytes 4 (v % 4)) ∧
      { t with now := s.now, pwr.real := s.pwr.real, regs := s.regs, nv := s.nv, nvs := s.nvs } = s ∧ t.nv.cells = s.nv.cells) ∧
  (∀ (n : Nat) (s : State), s.takes 0x20000 = true →
    ∃ t, exec (.fallbackClear n) s = .next t ∧ t.get IMG_STATUS.FALLBACK = 0 ∧ onlyFields [IMG_STATUS.FALLBACK] s t ∧ onlyRegs s t) ∧
  (∀ (n sess : Nat) (s : State), s.takes 0x20028 = true → s.img.unlocked = false → s.countedRefusal sess 3 [0] = none → s.pfw = false →
    (s.nvs.burn.toList ++ s.nvs.burnWait).any (·.setting == 3) = false →
    ∃ t, exec (.goldenUnlock n sess) s = .next t ∧
      (s.nvs.burn = none → (t.nvs.burn.map (·.setting)) = some 3 ∧ t.nv.tlog0.length = s.nv.tlog0.length + 1) ∧
      (s.nvs.burn.isSome = true → t.nvs.burn = s.nvs.burn ∧ t.nvs.burnWait.length = s.nvs.burnWait.length + 1 ∧ t.nv = s.nv) ∧
      t.nv.cells = s.nv.cells ∧ t.img = s.img ∧ onlyFields [] s t) ∧
  (∀ (n : Nat) (readOk : Bool) (s : State) (l : LoadS), s.receiving = some l → (readOk = true ∨ 4 ≤ l.src) → l.lenBad = false →
    (frameChecks l.file l.len l.n).1 = 0 → l.n + 1 ≠ hdrFrames l.file →
    ∃ t, exec (.imageFrameArrival n readOk) s = .next t ∧
      t.img.loads = s.img.loads.map (fun e => if e.slot = l.slot then { l with n := l.n + 1 } else e) ∧
      { t with now := s.now, pwr.real := s.pwr.real, img := s.img } = s) ∧
  (∀ (n : Nat) (readOk : Bool) (s : State) (l : LoadS), s.receiving = some l → (readOk = true ∨ 4 ≤ l.src) → l.purpose ≤ 2 → l.slot < 8 →
    s.ops.slots.length = 8 → l.lenBad = false → (frameChecks l.file l.len l.n).1 ≠ 0 →
    ∃ t, exec (.imageFrameArrival n readOk) s = .next t ∧
      t.get (OP_RESULT_w.WORD l.slot 0) = (frameChecks l.file l.len l.n).1 % 2 ^ 32 ∧ t.get (OP_RESULT_w.WORD l.slot 1) = l.n % 2 ^ 32 ∧
      t.get IMG_FAIL_FRAME.FRAME = l.n % 2 ^ IMG_FAIL_FRAME.FRAME.width ∧ (t.opx l.slot).outcome = some 4 ∧
      (∀ e ∈ t.img.loads, e.slot ≠ l.slot) ∧ t.img.active = s.img.active ∧ t.nv.slots = s.nv.slots) ∧
  (∀ (n : Nat) (s : State) (l : LoadS), s.receiving = some l → l.src < 4 → l.purpose ≤ 2 → l.slot < 8 → s.ops.slots.length = 8 →
    ∃ t, exec (.imageFrameArrival n false) s = .next t ∧ t.get (OP_RESULT_w.WORD l.slot 0) = 13 ∧
      t.get NVS_ECC_UNCORR.COUNT = (s.get NVS_ECC_UNCORR.COUNT + 1) % 2 ^ NVS_ECC_UNCORR.COUNT.width ∧
      (t.opx l.slot).outcome = some 4 ∧ t.img.active = s.img.active ∧ t.nv.slots = s.nv.slots) ∧
  (∀ (n : Nat) (s : State) (l : LoadS), s.receiving = some l → l.purpose = 1 → l.slot < 8 → s.ops.slots.length = 8 → l.lenBad = false →
    (frameChecks l.file l.len l.n).1 = 0 → l.n + 1 = hdrFrames l.file → (s.at n).lastChecks l.file = 0 →
    ∃ t, exec (.imageFrameArrival n true) s = .next t ∧ t.get (OP_RESULT_w.WORD l.slot 0) = 0 ∧
      t.get (OP_RESULT_w.WORD l.slot 3) = s.compatOf l.file ∧ (t.opx l.slot).outcome = some 3 ∧ (∀ e ∈ t.img.loads, e.slot ≠ l.slot) ∧
      t.img.active = s.img.active ∧ t.nv.slots = s.nv.slots) ∧
  (∀ (n : Nat) (s : State) (l : LoadS), s.loadIn 2 = some l → s.quiet = true →
    ∃ t, exec (.activationQuiesced n) s = .next t ∧
      t.img.loads = s.img.loads.map (fun e => if e.slot = l.slot then { l with phase := 3 } else e) ∧
      onlyFields (if l.purpose = 4 then [IMG_TP_STATUS.STAT] else []) s t ∧
      { t with now := s.now, pwr.real := s.pwr.real, regs := s.regs, img := s.img } = s) ∧
  (∀ (n : Nat) (s : State) (l : LoadS), s.loadIn 3 = some l →
    ((s.at n).buildCheck { file := l.file, frames := hdrFrames l.file }).1 = 0 →
    ∃ t, exec (.activationBuildDone n) s = .next t ∧ t.img.active = some { file := l.file, frames := hdrFrames l.file } ∧
      (∀ e ∈ t.img.loads, e.slot ≠ l.slot) ∧
      (l.purpose = 0 → t.get IMG_STATUS.LOADING = 0 ∧ t.get IMG_LAST_LOAD.REASON = 0 ∧ t.get IMG_LAST_LOAD.OUTCOME = 1) ∧
      (l.purpose = 4 → t.get IMG_STATUS.TESTPORT = 0 ∧ t.get IMG_LAST_LOAD.REASON = 0 ∧ t.get IMG_LAST_LOAD.OUTCOME = 1) ∧
      t.nv.cells = s.nv.cells) ∧
  (∀ (n : Nat) (s : State) (l : LoadS), s.loadIn 3 = some l → l.purpose = 0 → l.slot < 8 → s.ops.slots.length = 8 → s.held < 62 →
    ((s.at n).buildCheck { file := l.file, frames := hdrFrames l.file }).1 ≠ 0 →
    ∃ t, exec (.activationBuildDone n) s = .next t ∧ t.img.active = s.img.active ∧ (t.opx l.slot).outcome = some 4 ∧
      t.isActive 0x0203 noInst = true ∧ t.get IMG_LAST_LOAD.OUTCOME = 2 ∧ t.get IMG_STATUS.LOADING = 0 ∧ t.nv.cells = s.nv.cells) ∧
  (∀ (n : Nat) (s : State) (l : LoadS), s.slotWriter = some l →
    ∃ t, exec (.slotWriteReadbackDone n true) s = .next t ∧
      (∃ r : JRec, t.nvs.progs = s.nvs.progs ++ [.journal r (some l.slot)] ∧ r.type = 0x10) ∧ t.nv.slots = s.nv.slots ∧
      onlyFields [] s t ∧ { t with now := s.now, pwr.real := s.pwr.real, nv := s.nv, nvs := s.nvs, ops := s.ops } = s) ∧
  (∀ (n : Nat) (s : State) (l : LoadS), s.slotWriter = some l → l.slot < 8 → s.ops.slots.length = 8 → s.held < 62 →
    ∃ t, exec (.slotWriteReadbackDone n false) s = .next t ∧ t.isActive 0x0204 (s.opArg l.slot 0) = true ∧
      t.get (OP_RESULT_w.WORD l.slot 0) = 13 ∧ (t.opx l.slot).outcome = some 4 ∧ t.nv.slots = s.nv.slots)

/-! ### Start-up and settling (R106, R128, R132) -/

/-- The first stages: the power unit starts once an input has been in range for 50 ms (R132); the release of reset starts the
REFTICK count at 0 and ends stage 1 (R106); an accepted firmware copy ends stage 3; the first copy whose check or epoch fails makes the
other copy be read, with fault 0x0E01, and the second starts the recovery loader in QUARANTINE, with fault 0x0E02 (R502).
The middle of start-up (R106 stages 5 to 10): the store stage sets STORE_OK; discovery reports the carrier; the copies of the
base sets end stage 8; bring-in powers the front-ends and the module is up. Each ends its stage; no tally cell changes.
Thermal settling ends at a check that finds every sensor of the biased tiles steady, 20 s after its start or at a second after that, and
a check that does not leaves the next one a second later (R128); 300 s of settling raise fault 0x0405. -/
def Obligations.StartUp : Prop :=
  (∀ (n : Nat) (s : State), s.pwr.unit = false →
    ((s.pwr.ac = true ∧ s.pwr.acAt + 50 * msec ≤ (s.at n).wall) ∨ (s.pwr.dc = true ∧ s.pwr.dcAt + 50 * msec ≤ (s.at n).wall)) →
    ∃ t, exec (.powerUnitStart n) s = .next t ∧ t = { s.at n with pwr.unit := true }) ∧
  (∀ (n : Nat) (s : State), s.pwr.unit = true → s.sys.stages = [] →
    ∃ t, exec (.resetRelease n) s = .next t ∧ t.now = 0 ∧ t.sys.stages = [1] ∧ t.get NVS_BOOT_COUNT.COUNT = s.bootNo % 2 ^ 32 ∧
      onlyFields [NVS_BOOT_COUNT.COUNT] s t ∧ t.nv = s.nv ∧ t.alm = s.alm) ∧
  (∀ (n : Nat) (fw : FwDesc) (s : State), s.sys.stages.contains 2 = true → s.sys.stages.contains 3 = false → s.sys.recovery = false →
    s.arbEpoch ≤ fw.arb →
    ∃ t, exec (.wardenFwCheckDone n true fw) s = .next t ∧ t.sys.stages = s.sys.stages ++ [3] ∧ t.bring.fw = fw ∧
      t.get ENG_ID_FIRMWARE.VER = fw.version % 2 ^ 32 ∧ t.nv.cells = s.nv.cells) ∧
  (∀ (n : Nat) (acc : Bool) (fw : FwDesc) (s : State), s.sys.stages.contains 2 = true → s.sys.stages.contains 3 = false →
    s.sys.recovery = false → s.get NVS_STATUS.FW_FALLBACK = 0 → (acc = false ∨ fw.arb < s.arbEpoch) → s.held < 62 →
    ∃ t, exec (.wardenFwCheckDone n acc fw) s = .next t ∧ t.get NVS_STATUS.FW_FALLBACK = 1 ∧ t.isActive 0x0E01 noInst = true ∧
      t.sys = s.sys ∧ t.nv.cells = s.nv.cells) ∧
  (∀ (n : Nat) (acc : Bool) (fw : FwDesc) (s : State), s.sys.stages.contains 2 = true → s.sys.stages.contains 3 = false →
    s.sys.recovery = false → s.get NVS_STATUS.FW_FALLBACK = 1 → (acc = false ∨ fw.arb < s.arbEpoch) →
    ∃ t, exec (.wardenFwCheckDone n acc fw) s = .next t ∧ t.sys.recovery = true ∧ t.sys.mode = .quarantine ∧
      t.get NVS_STATUS.RECOVERY = 1 ∧ (s.pwr.asleep = [] → s.held < 62 → t.isActive 0x0E02 noInst = true) ∧ t.nv.cells = s.nv.cells) ∧
  (∀ (n : Nat) (s : State), s.sys.stages.contains 3 = true → s.sys.stages.contains 5 = false →
    (s.pfw = false ∨ openIntents s.nv.journal s.nv.retired = []) →
    ∃ t, exec (.storeStageDone n) s = .next t ∧ t.sys.stages = s.sys.stages ++ [5] ∧ t.get NVS_STATUS.STORE_OK = 1 ∧
      t.nv.cells = s.nv.cells) ∧
  (∀ (n : Nat) (c : CarrierRead) (tiles : List TileRead) (s : State), s.sys.stages.contains 5 = true → s.sys.stages.contains 6 = false →
    ∃ t, exec (.discoveryDone n c tiles) s = .next t ∧ t.sys.stages.contains 6 = true ∧ t.bring.carrier = c ∧
      t.get ENG_ID_CARRIER.REV = c.rev % 2 ^ ENG_ID_CARRIER.REV.width ∧ t.get ENG_IFACE_CAR.EPOCH = c.epoch % 2 ^ ENG_IFACE_CAR.EPOCH.width ∧
      t.nv.cells = s.nv.cells) ∧
  (∀ (n : Nat) (failed : List Nat) (s : State), s.sys.stages.contains 6 = true → s.sys.stages.contains 8 = false →
    ∃ t, exec (.baseSetCopyDone n failed) s = .next t ∧ t.sys.stages = s.sys.stages ++ [8] ∧ t.cal.fresh = [] ∧ t.cal.hist = [] ∧
      (∀ k ∈ failed, (s.pos k).state = 1 → (t.pos k).state = 7) ∧ t.nv.cells = s.nv.cells) ∧
  (∀ (n : Nat) (s : State), s.sys.stages.contains 7 = true → s.sys.stages.contains 8 = true → s.sys.up = false →
    ∃ t, exec (.bringInDone n) s = .next t ∧ t.sys.up = true ∧ t.sys.stages.contains 9 = true ∧ t.sys.stages.contains 10 = true ∧
      t.get VFE_PWR_STATUS.ON = 1 ∧ t.get VFE_PWR_STATUS.REF_OK = 1 ∧
      (∃ r : JRec, t.nvs.progs.getLast? = some (.journal r none) ∧ r.type = 0x80 ∧ r.payload.take 4 = leBytes 4 (s.get NVS_BOOT_COUNT.COUNT)) ∧
      t.nv.cells = s.nv.cells) ∧
  (∀ (n : Nat) (s : State), s.bring.settleFrom.isSome = true → s.bring.checkAt ≤ (s.at n).now → (s.at n).settled = true →
    ∃ t, exec (.settlingCheck n) s = .next t ∧ t.get PWR_STATUS.SETTLING = 0 ∧ t.bring.settleFrom = none ∧ t.sys = s.sys ∧
      (s.alm.unheld = [] → t.isActive 0x0405 noInst = false) ∧ (s.sys.run = true → s.sys.mode = .stare → t.cal.due = some 0) ∧
      (s.sys.run = false → t.cal = s.cal) ∧ t.nv.cells = s.nv.cells ∧ onlyFields (PWR_STATUS.SETTLING :: faultFields) s t) ∧
  (∀ (n : Nat) (s : State), s.bring.settleFrom.isSome = true → s.bring.checkAt ≤ (s.at n).now → (s.at n).settled = false →
    ∃ t, exec (.settlingCheck n) s = .next t ∧ (s.at n).now < t.bring.checkAt ∧ t.bring.checkAt ≤ (s.at n).now + sec ∧
      (∃ k, t.bring.checkAt = s.bring.checkAt + sec * k) ∧ { t with now := s.now, pwr.real := s.pwr.real, bring.checkAt := s.bring.checkAt } = s) ∧
  (∀ (n t0 : Nat) (s : State), s.bring.settleFrom = some t0 → t0 + 300 * sec ≤ (s.at n).now → s.isActive 0x0405 noInst = false → s.held < 62 →
    ∃ t, exec (.settlingTimeout n) s = .next t ∧ t.isActive 0x0405 noInst = true ∧ t.bring = s.bring ∧ t.sys = s.sys ∧
      t.nv.cells = s.nv.cells ∧ onlyFields faultFields s t)

/-! ### Inputs, warning, ladder (R130 to R151) -/

/-- The inputs: with AC in use, its loss moves the module to a present DC input without the power-fail warning, and raises 0x0306
after AC use (R131); the loss of the only input leaves SOURCE none from that instant; the loss of an input not in use is shown; an input
in range with none in use carries the module at once, and one in range beside that in use is shown; AC in range for 1 s takes over from DC
and clears 0x0306; an AC overvoltage raises 0x0303 (R130), in Slate and Black once the warden runs (R525), and its end clears it. -/
def Obligations.InputEvents : Prop :=
  (∀ (n : Nat) (s : State), s.get PWR_STATUS.SOURCE = 1 → s.pwr.dc = true →
    ∃ t, exec (.acInputLost n) s = .next t ∧ t.get PWR_STATUS.SOURCE = 2 ∧ t.get PWR_STATUS.AC_OK = 0 ∧ t.get PWR_STATUS.DC_OK = 1 ∧
      t.get PWR_EVENTS.SRC_SWITCH = 1 ∧ t.get PWR_STATUS.PFW = s.get PWR_STATUS.PFW ∧ t.pwr.lostAt = none ∧
      (s.pwr.acUsed = true → s.get PWR_STATUS.STATE < 4 → s.held < 62 → t.isActive 0x0306 noInst = true) ∧
      (s.pwr.acUsed = true → 4 ≤ s.get PWR_STATUS.STATE → t.pwr.asleep.contains (0x0306, noInst) = true ∧ t.alm = s.alm) ∧ t.sys = s.sys ∧ t.nv.cells = s.nv.cells) ∧
  (∀ (n : Nat) (s : State), s.get PWR_STATUS.SOURCE = 1 → s.pwr.dc = false →
    ∃ t, exec (.acInputLost n) s = .next t ∧ t.get PWR_STATUS.SOURCE = 0 ∧ t.get PWR_STATUS.AC_OK = 0 ∧ t.get PWR_STATUS.DC_OK = 0 ∧
      t.pwr.lostAt = some (s.pwr.lostAt.getD (s.at n).wall) ∧ onlyFields [PWR_STATUS.AC_OK, PWR_STATUS.DC_OK, PWR_STATUS.SOURCE] s t ∧
      { t with now := s.now, regs := s.regs, pwr := s.pwr } = s) ∧
  (∀ (n : Nat) (s : State), s.get PWR_STATUS.SOURCE ≠ 1 →
    ∃ t, exec (.acInputLost n) s = .next t ∧ t.get PWR_STATUS.SOURCE = s.get PWR_STATUS.SOURCE ∧ t.get PWR_STATUS.AC_OK = 0 ∧
      t.pwr.ac = false ∧ onlyFields [PWR_STATUS.AC_OK, PWR_STATUS.DC_OK] s t ∧ { t with now := s.now, regs := s.regs, pwr := s.pwr } = s) ∧
  (∀ (n : Nat) (s : State), s.get PWR_STATUS.SOURCE = 2 → s.pwr.ac = true →
    ∃ t, exec (.dcInputLost n) s = .next t ∧ t.get PWR_STATUS.SOURCE = 1 ∧ t.get PWR_STATUS.DC_OK = 0 ∧ t.get PWR_STATUS.AC_OK = 1 ∧
      t.get PWR_EVENTS.SRC_SWITCH = 1 ∧ t.pwr.lostAt = none ∧ (s.alm.unheld = [] → t.isActive 0x0306 noInst = false) ∧ t.sys = s.sys ∧
      t.nv.cells = s.nv.cells) ∧
  (∀ (n : Nat) (s : State), s.get PWR_STATUS.SOURCE = 2 → s.pwr.ac = false →
    ∃ t, exec (.dcInputLost n) s = .next t ∧ t.get PWR_STATUS.SOURCE = 0 ∧ t.get PWR_STATUS.DC_OK = 0 ∧
      t.pwr.lostAt = some (s.pwr.lostAt.getD (s.at n).wall) ∧ onlyFields [PWR_STATUS.AC_OK, PWR_STATUS.DC_OK, PWR_STATUS.SOURCE] s t ∧
      { t with now := s.now, regs := s.regs, pwr := s.pwr } = s) ∧
  (∀ (n : Nat) (s : State), s.get PWR_STATUS.SOURCE ≠ 2 →
    ∃ t, exec (.dcInputLost n) s = .next t ∧ t.get PWR_STATUS.SOURCE = s.get PWR_STATUS.SOURCE ∧ t.get PWR_STATUS.DC_OK = 0 ∧
      t.pwr.dc = false ∧ onlyFields [PWR_STATUS.AC_OK, PWR_STATUS.DC_OK] s t ∧ { t with now := s.now, regs := s.regs, pwr := s.pwr } = s) ∧
  (∀ (n : Nat) (ac : Bool) (s : State), s.get PWR_STATUS.SOURCE = 0 →
    ∃ t, exec (.inputInRange n ac) s = .next t ∧ t.get PWR_STATUS.SOURCE = (if ac then 1 else 2) ∧
      (if ac then t.get PWR_STATUS.AC_OK = 1 ∧ t.pwr.ac = true ∧ t.pwr.acUsed = true else t.get PWR_STATUS.DC_OK = 1 ∧ t.pwr.dc = true) ∧
      t.pwr.lostAt = none ∧ t.sys = s.sys ∧ t.nv.cells = s.nv.cells) ∧
  (∀ (n : Nat) (ac : Bool) (s : State), s.get PWR_STATUS.SOURCE ≠ 0 →
    ∃ t, exec (.inputInRange n ac) s = .next t ∧ t.get PWR_STATUS.SOURCE = s.get PWR_STATUS.SOURCE ∧
      (if ac then t.get PWR_STATUS.AC_OK = 1 ∧ t.pwr.ac = true ∧ t.pwr.acAt = (if s.pwr.ac then s.pwr.acAt else (s.at n).wall)
        else t.get PWR_STATUS.DC_OK = 1 ∧ t.pwr.dc = true ∧ t.pwr.dcAt = (if s.pwr.dc then s.pwr.dcAt else (s.at n).wall)) ∧
      onlyFields [PWR_STATUS.AC_OK, PWR_STATUS.DC_OK] s t ∧ { t with now := s.now, regs := s.regs, pwr := s.pwr } = s) ∧
  (∀ (n : Nat) (s : State), s.pwr.ac = true → s.get PWR_STATUS.SOURCE = 2 → s.pwr.acAt + sec ≤ (s.at n).wall →
    ∃ t, exec (.acReturn n) s = .next t ∧ t.get PWR_STATUS.SOURCE = 1 ∧ t.get PWR_EVENTS.SRC_SWITCH = 1 ∧
      (s.alm.unheld = [] → t.isActive 0x0306 noInst = false) ∧ t.sys = s.sys ∧ t.nv.cells = s.nv.cells) ∧
  (∀ (n v : Nat) (s : State), s.pwr.ac = true → 2770 < v → v ≤ 3050 →
    ∃ t, exec (.acOvervoltage n v) s = .next t ∧ (s.get PWR_STATUS.STATE < 4 → s.held < 62 → t.isActive 0x0303 noInst = true) ∧
      (4 ≤ s.get PWR_STATUS.STATE → t.pwr.asleep.contains (0x0303, noInst) = true ∧ t.alm = s.alm) ∧ t.pwr.ac = true ∧ t.sys = s.sys ∧
      t.nv.cells = s.nv.cells) ∧
  (∀ (n : Nat) (s : State),
    ∃ t, exec (.acOvervoltageClear n) s = .next t ∧ (s.alm.unheld = [] → t.isActive 0x0303 noInst = false) ∧
      t.pwr.asleep = s.pwr.asleep.erase (0x0303, noInst) ∧ t.sys = s.sys ∧ t.nv.cells = s.nv.cells)

/-- The power-fail warning (R134, R135, R137): 2 ms after the loss of the last input it is raised with fault 0x0301 and a POWER_WARN
record is queued, an operation's counted change runs on or waits with no further record, and that of a register write runs on, or is
refused with REASON POWER and a VOID record (R506); once it has lasted 1 ms an input in use clears it and counts the dip. A fall of the rails (R138), 20 ms after the loss and 12 ms after the warning at the earliest (R133,
R134), leaves every register outside the input status at its reset value, nothing active, no work, and the cells where no burn ran. -/
def Obligations.PowerFail : Prop :=
  (∀ (n r : Nat) (s : State), s.get PWR_STATUS.PFW = 0 → s.pwr.lostAt = some r → r + 2 * msec ≤ (s.at n).wall →
    (s.nvs.burn.toList ++ s.nvs.burnWait).all (·.slot.isSome) = true →
    ∃ t, exec (.pfwRaise n) s = .next t ∧ t.get PWR_STATUS.PFW = 1 ∧ t.get PWR_EVENTS.PFW_RAISED = 1 ∧ t.pwr.pfwAt = (s.at n).wall ∧
      (s.get PWR_STATUS.STATE < 4 → s.held < 62 → t.isActive 0x0301 noInst = true) ∧
      (4 ≤ s.get PWR_STATUS.STATE → t.pwr.asleep.contains (0x0301, noInst) = true) ∧
      (∃ j : JRec, t.nvs.progs = s.nvs.progs ++ [.journal j none] ∧ j.type = 0x40 ∧ j.payload = []) ∧ t.sys = s.sys ∧
      t.nv.cells = s.nv.cells ∧ t.nvs.burn.toList ++ t.nvs.burnWait = s.nvs.burn.toList ++ s.nvs.burnWait ∧ t.nv.tlog0 = s.nv.tlog0) ∧
  (∀ (n r : Nat) (b : BurnS) (s : State), s.get PWR_STATUS.PFW = 0 → s.pwr.lostAt = some r → r + 2 * msec ≤ (s.at n).wall →
    s.nvs.burn = some b → b.slot = none → s.nvs.burnWait = [] → s.tmp.waits = [] →
    ∃ t, exec (.pfwRaise n) s = .next t ∧ t.get PWR_STATUS.PFW = 1 ∧ t.get PWR_EVENTS.PFW_RAISED = 1 ∧
      (t.nvs.burn = some b ∨ (t.nvs.burn = none ∧ (t.nv.tlog0.head?.map (·.kind)) = some 3 ∧ t.get ENG_LAST_REFUSE.STATUS = 1 ∧
        t.get ENG_LAST_REFUSE.REASON = 0x06)) ∧
      t.nvs.burnWait = [] ∧ t.sys = s.sys ∧ t.nv.cells = s.nv.cells) ∧
  (∀ (n : Nat) (s : State), s.get PWR_STATUS.PFW = 1 → s.get PWR_STATUS.SOURCE ≠ 0 → s.pwr.pfwAt + msec ≤ (s.at n).wall →
    ∃ t, exec (.pfwClear n) s = .next t ∧ t.get PWR_STATUS.PFW = 0 ∧ t.get PWR_EVENTS.PFW_CLEARED = 1 ∧
      t.get PWR_DIP_COUNT.COUNT = (s.get PWR_DIP_COUNT.COUNT + 1) % 2 ^ PWR_DIP_COUNT.COUNT.width ∧ t.nvs.eraseWait = [] ∧
      t.nv.cells = s.nv.cells) ∧
  (∀ (n : Nat) (s : State), s.get PWR_STATUS.PFW = 1 → s.get PWR_STATUS.SOURCE ≠ 0 → s.pwr.pfwAt + msec ≤ (s.at n).wall →
    s.nvs.eraseWait = [] → s.nvs.burnWait = [] → s.nvs.driveWait = [] → s.pwr.deferred = false → s.gov.vTo = none → s.alm.unheld = [] →
    ∃ t, exec (.pfwClear n) s = .next t ∧ t.isActive 0x0301 noInst = false ∧ t.nvs.logWait = [] ∧ t.sys = s.sys ∧
      onlyFields (PWR_STATUS.PFW :: PWR_EVENTS.PFW_CLEARED :: PWR_DIP_COUNT.COUNT :: faultFields) s t) ∧
  (∀ (n r : Nat) (s : State), s.get PWR_STATUS.PFW = 1 → s.pwr.lostAt = some r → r + 20 * msec ≤ (s.at n).wall →
    s.pwr.pfwAt + 12 * msec ≤ (s.at n).wall →
    ∃ t, exec (.railsFall n) s = .next t ∧ t.pwr.unit = false ∧ t.pwr.fell = true ∧ t.alm.active = [] ∧ t.sys.mode = .none ∧
      t.sys.up = false ∧ t.nvs.progs = [] ∧ (s.nvs.burn = none → t.nv.cells = s.nv.cells) ∧
      (∀ b ∈ s.nvs.burn, t.nv.cells = s.nv.cells ∨ t.nv.cells = s.nv.cells ||| 2 ^ b.cell) ∧ t.get PWR_STATUS.PFW = 0 ∧
      (∀ f : Fld, f.key ∉ [PWR_STATUS.PFW, PWR_STATUS.SOURCE, PWR_STATUS.AC_OK, PWR_STATUS.DC_OK].map Fld.key → t.get f = f.reset) ∧
      t.pending = s.pending)

/-- The ladder (R139 to R145): a deeper target accepted in White begins the drain, after RUN where one is on; a target above a settled
state below White begins the step up, which the warning defers from Grey or deeper (R136); the drained module, or one past the drain
limit, begins the step to Pearl; a step's end sets STATE, and Pearl entered from White takes the core rail to VSTART; the exit from Black
with its images kept advances the REFTICK count and reaches Slate with an empty table of operations, and one whose image copy fails its
CRC starts up again from stage 3 with fault 0x0304 (R145, R149); a trigger wakes the module (R144). -/
def Obligations.LadderEvents : Prop :=
  (∀ (n v : Nat) (s : State), s.sys.recovery = false → s.sys.up = true → (s.imaging = true ∨ s.sys.mode = .quarantine) → s.opBusy = false →
    s.get PWR_STATUS.STATE = 0 → s.get PWR_STATUS.MOVING = 0 → s.pwr.stepTo = none → s.pwr.rebuild = none →
    0 < PWR_TARGET.STATE.ofWord v → PWR_TARGET.STATE.ofWord v ≤ 5 →
    (PWR_TARGET.STATE.ofWord v < 4 ∨ s.get PWR_CTRL.DRAM_HOLD = 1 ∨ (s.get IMG_STATUS.SRC ≠ 4 ∧ s.get IMG_STATUS.SRC ≠ 5)) →
    ∃ t, exec (.pwrTargetWrite n v) s = .next t ∧ t.get PWR_TARGET.STATE = PWR_TARGET.STATE.ofWord v ∧ t.get PWR_STATUS.MOVING = 1 ∧
      t.get PWR_STATUS.STATE = 0 ∧ t.pwr.stepTo = none ∧ (s.sys.run = true → t.sys.changing = true ∧ t.sys.run = true ∧ t.pwr.runEnd = none) ∧
      (s.sys.run = false → s.sys.runAt = none → t.pwr.runEnd = some (s.at n).now ∧
        onlyFields [PWR_TARGET.STATE, PWR_STATUS.MOVING] s t ∧ { t with now := s.now, regs := s.regs, pwr := s.pwr } = s)) ∧
  (∀ (n v k : Nat) (s : State), s.sys.recovery = false → s.get PWR_STATUS.STATE = k → s.pwr.stepTo = none → s.pwr.rebuild = none →
    PWR_TARGET.STATE.ofWord v < k → k ≤ 5 → (k < 3 ∨ (s.pfw = false ∧ s.get MON_STATUS.OT_COMP = 0)) →
    ∃ t, exec (.pwrTargetWrite n v) s = .next t ∧ t.get PWR_TARGET.STATE = PWR_TARGET.STATE.ofWord v ∧ t.get PWR_STATUS.MOVING = 1 ∧
      t.pwr.stepTo = some (k - 1) ∧ onlyFields [PWR_TARGET.STATE, PWR_STATUS.MOVING] s t ∧
      { t with now := s.now, regs := s.regs, pwr := s.pwr } = s) ∧
  (∀ (n v k : Nat) (s : State), s.sys.recovery = false → s.get PWR_STATUS.STATE = k → s.pwr.stepTo = none → s.pwr.rebuild = none →
    PWR_TARGET.STATE.ofWord v < k → 3 ≤ k → k ≤ 5 → s.pfw = true → s.get MON_STATUS.OT_COMP = 0 →
    ∃ t, exec (.pwrTargetWrite n v) s = .next t ∧ t.get PWR_TARGET.STATE = PWR_TARGET.STATE.ofWord v ∧
      t.get PWR_EVENTS.ASCENT_DEFERRED = 1 ∧ t.get PWR_STATUS.STATE = k ∧ t.pwr.stepTo = none ∧ t.pwr.deferred = true) ∧
  (∀ (n : Nat) (s : State), s.get PWR_STATUS.MOVING = 1 → s.pwr.stepTo = none → s.get PWR_STATUS.STATE = 0 →
    s.get PWR_TARGET.STATE ≠ 0 → s.sys.run = false → s.sys.runAt = none → s.get CAL_STATUS.CYCLE = 0 → s.cal.update = false →
    ((s.at n).drainedNow = true ∨ s.pwr.runEnd.any (fun r => decide (r + msec * s.get PWR_DRAIN_LIMIT.MS ≤ (s.at n).now)) = true) →
    ∃ t, exec (.descentDrainEnd n) s = .next t ∧ t.pwr.stepTo = some 1 ∧ t.get PWR_STATUS.MOVING = 1 ∧ onlyFields [PWR_STATUS.MOVING] s t ∧
      { t with now := s.now, regs := s.regs, pwr := s.pwr } = s) ∧
  (∀ (n k : Nat) (s : State), s.pwr.stepTo = some k → k ≤ 5 → s.get PWR_STATUS.STATE ≠ 5 →
    (s.get PWR_STATUS.STATE = k ∨ (s.get PWR_STATUS.STATE < k ∧ (k ≠ 4 ∨ s.nvs.drive = none)) ∨ (k < s.get PWR_STATUS.STATE ∧ s.pwr.dramLost = false ∧ (2 ≤ k ∨ s.get MON_STATUS.CALIBRATING = 0))) →
    ∃ t, exec (.ladderStepDone n) s = .next t ∧ t.get PWR_STATUS.STATE = k ∧ t.get PWR_TARGET.STATE = s.get PWR_TARGET.STATE ∧
      (s.get PWR_TARGET.STATE = k → t.get PWR_STATUS.MOVING = 0 ∧ t.pwr.stepTo = none) ∧
      (k = 1 → s.get PWR_STATUS.STATE = 0 → t.get GOV_STATE.VCODE = s.get GOV_VLIMIT.VSTART % 32 ∧ t.gov.vTo = none ∧ t.sys = s.sys) ∧
      (k = 0 → t.get VFE_PWR_STATUS.ON = 1 ∧ t.get VFE_PWR_STATUS.REF_OK = 1) ∧ t.nv.cells = s.nv.cells) ∧
  (∀ (n a : Nat) (s : State), s.get PWR_STATUS.STATE = 5 → s.pwr.stepTo = some 4 → (s.at n).advanceOk a = true → a < 2 ^ 64 →
    s.pwr.dramLost = false →
    ∃ t, exec (.blackExit n a true) s = .next t ∧ t.now = s.now + 16 * a ∧ t.get PWR_STATUS.STATE = 4 ∧
      t.get64 PWR_BLACK_ADVANCE_LO.TICKS PWR_BLACK_ADVANCE_HI.TICKS = a ∧ t.sys = s.sys ∧ t.nv.cells = s.nv.cells ∧
      (s.powerFaults = [] → s.pwr.asleep = [] → t.alm.active = [] ∧ t.nv = s.nv)) ∧
  (∀ (n a : Nat) (s : State), s.get PWR_STATUS.STATE = 5 → s.pwr.stepTo = some 4 → (s.at n).advanceOk a = true → a < 2 ^ 64 →
    s.pwr.dramLost = false →
    ∃ t, exec (.blackExit n a false) s = .next t ∧ t.now = s.now + 16 * a ∧ t.sys.stages = [1, 2] ∧ t.sys.up = false ∧
      t.get PWR_STATUS.MOVING = 1 ∧ t.isActive 0x0304 noInst = true ∧ t.nv.cells = s.nv.cells) ∧
  (∀ (n i : Nat) (s : State), (i = 0 ∧ s.get PWR_CTRL.WAKE_TRIG0 = 1 ∨ i = 1 ∧ s.get PWR_CTRL.WAKE_TRIG1 = 1) →
    s.get PWR_STATUS.STATE ≠ 0 →
    ∃ t, exec (.triggerWake n i) s = .next t ∧ t.get PWR_EVENTS.WAKE_TRIG = 1 ∧ t.get PWR_TARGET.STATE = 0 ∧
      (s.pwr.stepTo.isSome = true → onlyFields [PWR_EVENTS.WAKE_TRIG, PWR_TARGET.STATE] s t ∧ onlyRegs s t))

/-! ### The test port (R95 to R98, R545 to R547) -/

/-- IDCODE (R546): with VREF_T present the register shifted out holds VERSION, PART 0x5320, MANUFACTURER 0x279 and a 1, and stepping
code 1 gives 0x153204F3. -/
def Obligations.IdcodeReads : Prop :=
  (∀ (n : Nat) (s : State), s.img.vrefT = true →
    ∃ t v, exec (.idcode n) s = .next t ∧ t.out = .scan "IDCODE" v :: s.out ∧ v % 2 = 1 ∧ bits v 1 11 = 0x279 ∧ bits v 12 16 = 0x5320 ∧
      bits v 28 4 = Config.stepping % 16 ∧ v < 2 ^ 32 ∧ t.img.instr = 2 ∧ { t with now := s.now, pwr.real := s.pwr.real, out := s.out, img := s.img } = s) ∧
  idcodeOf 1 = 0x153204F3

/-- The instructions of the test port while VREF_T stands (R95, R545, R547): each selects its register; SAMPLE/PRELOAD, IMGSTAT and
BYPASS shift theirs out; EXTEST and its Update-DR drive the output cells; Test-Logic-Reset and the loss of VREF_T end EXTEST.
Frame 0 at the test port begins a load: video stops, the mode is LOAD, and TESTPORT is set (R30, R96); another frame, while a load
receives, goes to its place in the port's area of DRAM and is counted (R96, R97). -/
def Obligations.TestPort : Prop :=
  (∀ (n : Nat) (s : State), s.img.vrefT = true →
    ∃ t, exec (.imgload n) s = .next t ∧ t = { s.at n with img.instr := 0x20, img.extest := false }) ∧
  (∀ (n : Nat) (s : State), s.img.vrefT = true →
    ∃ t, exec (.imgstat n) s = .next t ∧
      t = { s.at n with img.instr := 0x21, img.extest := false, out := .scan "IMGSTAT" (s.get IMG_TP_STATUS.STAT % 2 ^ 24) :: s.out }) ∧
  (∀ (n pins : Nat) (s : State), s.img.vrefT = true →
    ∃ t, exec (.samplePreload n pins) s = .next t ∧
      t = { s.at n with img.instr := 1, img.extest := false, out := .scan "BOUNDARY" (pins % 2 ^ 16) :: s.out }) ∧
  (∀ (n : Nat) (s : State), s.img.vrefT = true →
    ∃ t, exec (.extest n) s = .next t ∧ t = { s.at n with img.instr := 0, img.extest := true }) ∧
  (∀ (n op : Nat) (s : State), s.img.vrefT = true → op % 256 ∉ [0, 1, 2, 0x20, 0x21] →
    ∃ t, exec (.bypass n op) s = .next t ∧
      t = { s.at n with img.instr := 0xFF, img.extest := false, out := .scan "BYPASS" 0 :: s.out }) ∧
  (∀ (n cells : Nat) (s : State), s.img.vrefT = true → s.img.extest = true →
    ∃ t, exec (.extestUpdateDr n cells) s = .next t ∧ t.img.cells = cells % 2 ^ 16 ∧
      .pin 11 (bit cells 11 == 1) ∈ t.out ∧ .pin 12 (bit cells 12 == 1) ∈ t.out ∧
      { t with now := s.now, pwr.real := s.pwr.real, out := s.out, img := s.img } = s) ∧
  (∀ (n : Nat) (s : State), ∃ t, exec (.testLogicReset n) s = .next t ∧ t = { s.at n with img.instr := 2, img.extest := false }) ∧
  (∀ (n : Nat) (s : State),
    ∃ t, exec (.vrefTLoss n) s = .next t ∧ t = { s.at n with
      img.vrefT := false, img.instr := 2, img.extest := false,
      img.loads := s.img.loads.map fun l => if l.purpose = 4 ∧ l.phase = 1 then { l with phase := 5 } else l }) ∧
  (∀ (n : Nat) (s : State), ∃ t, exec (.vrefTReturn n) s = .next t ∧ t = { s.at n with img.vrefT := true }) ∧
  (∀ (n : Nat) (frame : List Nat) (s : State), s.img.vrefT = true → s.sys.stages.contains 3 = true → s.get PWR_STATUS.STATE < 4 →
      s.img.instr = 0x20 → frame.length = 1024 → leVal (frame.take 4) = 0 → (frameChecks (s.img.tpFile.store 0 frame) none 0).1 = 0 →
      hdrFrames (s.img.tpFile.store 0 frame) ≠ 1 →
      ∃ t, exec (.testportFrame n frame) s = .next t ∧ t.img.tpFile = s.img.tpFile.store 0 frame ∧ t.get IMG_STATUS.TESTPORT = 1 ∧
        t.get IMG_TP_STATUS.STAT = 1 + 2 ^ 21 ∧ t.sys.run = false ∧ (s.sys.up = true → t.sys.mode = .load) ∧ t.fpl.frames = [] ∧
        t.img.active = s.img.active ∧ t.nv.slots = s.nv.slots ∧ t.nv.cells = s.nv.cells) ∧
  (∀ (n : Nat) (frame : List Nat) (s : State) (l : LoadS), s.img.vrefT = true → s.sys.stages.contains 3 = true →
      s.get PWR_STATUS.STATE < 4 → s.img.instr = 0x20 → frame.length = 1024 → leVal (frame.take 4) ≠ 0 → s.loadOf 9 = some l →
      l.purpose = 4 → l.phase = 1 → l.len = none → l.n + 1 < 2 ^ 17 →
      (frameChecks (s.img.tpFile.store (1024 * l.n) frame) none l.n).1 = 0 →
      l.n + 1 ≠ hdrFrames (s.img.tpFile.store (1024 * l.n) frame) →
      ∃ t, exec (.testportFrame n frame) s = .next t ∧ t.img.tpFile = s.img.tpFile.store (1024 * l.n) frame ∧
        t.loadOf 9 = some { l with file := s.img.tpFile.store (1024 * l.n) frame, n := l.n + 1 } ∧
        t.get IMG_TP_STATUS.STAT = (l.n + 1) + 2 ^ 21 ∧ (∀ a, a < 1024 * l.n ∨ 1024 * l.n + 1024 ≤ a → t.img.tpFile.byte a = s.img.tpFile.byte a) ∧
        onlyFields [IMG_TP_STATUS.STAT] s t ∧ { t with now := s.now, pwr.real := s.pwr.real, regs := s.regs, img := s.img } = s)

/-! ### The management port (R464, R475) -/

/-- The link and the address of the management port, and a session that times out: ENG_MGMT_STATE.LINK follows the link, and the DHCP
client asks for an address as it comes up; a DHCP lease gives the address in use and a change of it closes every session; without a lease
the stored address serves from 30 s after the link came up, and the client asks again 60 s after its last message; a lease is renewed at
half its time; a session silent for ENG_SESSION_TIMEOUT closes (R464, R475). -/
def Obligations.ManagementPort : Prop :=
  (∀ (n : Nat) (s : State),
    ∃ t, exec (.managementLinkUp n) s = .next t ∧ t.get ENG_MGMT_STATE.LINK = 1 ∧ t.tmp.linkAt = some ((s.at n).now) ∧
      t.out = (if s.dhcpOn then .mgmt "DHCP" 0 :: s.out else s.out) ∧ t.tmp.sessions = s.tmp.sessions ∧
      onlyFields [ENG_MGMT_STATE.LINK] s t ∧ { t with now := s.now, pwr.real := s.pwr.real, regs := s.regs, tmp := s.tmp, out := s.out } = s) ∧
  (∀ (n : Nat) (s : State),
    ∃ t, exec (.managementLinkDown n) s = .next t ∧ t.get ENG_MGMT_STATE.LINK = 0 ∧ t.tmp.linkAt = none ∧
      t.tmp.sessions = s.tmp.sessions ∧ onlyFields [ENG_MGMT_STATE.LINK] s t ∧
      { t with now := s.now, pwr.real := s.pwr.real, regs := s.regs, tmp := s.tmp } = s) ∧
  (∀ (n ip secs : Nat) (s : State), s.dhcpOn = true → ip < 2 ^ 32 →
    ∃ t, exec (.dhcpReply n ip secs) s = .next t ∧ t.get ENG_MGMT_ACTIVE_IP.ADDR = ip ∧ t.get ENG_MGMT_STATE.SRC = 2 ∧
      (ip ≠ s.get ENG_MGMT_ACTIVE_IP.ADDR → t.tmp.sessions = [] ∧ t.get ENG_SESSIONS.COUNT = 0) ∧
      (ip = s.get ENG_MGMT_ACTIVE_IP.ADDR → t.tmp.sessions = s.tmp.sessions) ∧ t.tmp.lease = some (ip, secs, (s.at n).now) ∧
      onlyFields [ENG_MGMT_ACTIVE_IP.ADDR, ENG_MGMT_STATE.SRC, ENG_SESSIONS.COUNT, ENG_SESSIONS.CUST] s t ∧
      { t with now := s.now, pwr.real := s.pwr.real, regs := s.regs, tmp := s.tmp } = s) ∧
  (∀ (n r : Nat) (s : State), s.dhcpOn = true → s.tmp.lease.all (fun l => decide (l.2.2 + l.2.1 * sec ≤ (s.at n).now)) = true →
    s.tmp.linkAt = some r → r + 30 * sec ≤ (s.at n).now →
    ∃ t, exec (.dhcpTimer n) s = .next t ∧ t.get ENG_MGMT_ACTIVE_IP.ADDR = s.bootCfg 0x44 % 2 ^ 32 ∧ t.get ENG_MGMT_STATE.SRC = 1 ∧
      t.tmp.lease = none ∧ t.out = (if s.tmp.asked.all (fun a => decide (a + 60 * sec ≤ (s.at n).now)) then .mgmt "DHCP" 0 :: s.out else s.out) ∧
      onlyFields [ENG_MGMT_ACTIVE_IP.ADDR, ENG_MGMT_STATE.SRC, ENG_SESSIONS.COUNT, ENG_SESSIONS.CUST] s t) ∧
  (∀ (n ip k a : Nat) (s : State), s.dhcpOn = true → s.tmp.lease = some (ip, k, a) → (s.at n).now < a + k * sec →
    2 * a + k * sec ≤ 2 * (s.at n).now → s.tmp.asked.all (fun q => decide (q + 60 * sec ≤ (s.at n).now)) = true →
    ∃ t, exec (.dhcpTimer n) s = .next t ∧ t.out = .mgmt "DHCP" ip :: s.out ∧ t.tmp.asked = some (s.at n).now ∧
      t.tmp.lease = s.tmp.lease ∧ t.tmp.sessions = s.tmp.sessions ∧ onlyFields [] s t) ∧
  (∀ (n no : Nat) (e : Sess) (s : State), s.tmp.sessions.find? (·.no == no) = some e →
    e.last + sec * s.get ENG_SESSION_TIMEOUT.S ≤ (s.at n).now →
    ∃ t, exec (.sessionTimeout n no) s = .next t ∧ t.tmp.sessions = s.tmp.sessions.filter (·.no != no) ∧
      t.get ENG_SESSIONS.COUNT = (s.tmp.sessions.filter (·.no != no)).length % 2 ^ ENG_SESSIONS.COUNT.width ∧
      onlyFields [ENG_SESSIONS.COUNT, ENG_SESSIONS.CUST] s t ∧ { t with now := s.now, pwr.real := s.pwr.real, regs := s.regs, tmp := s.tmp } = s)

/-! ### Runs, frames and epochs -/

/-- A run command that nothing refuses (R30, R61, R62, R480): the change is announced, the run waits for its first boundary, which will
put the chosen tier into force, the core rail goes to the chosen code, and the first slacks are predicted. The store and the work of the
other blocks are as before. In RUN the command has no effect; one that R480 refuses leaves the mode and its reason. -/
def Obligations.RunCommandAccepted : Prop :=
  (∀ (n : Nat) (s : State), s.sys.recovery = false → (s.at n).runRefuse = none → s.sys.run = false →
    ∃ t, exec (.modeRun n) s = .next t ∧ t.sys = { s.sys with changing := true, runAt := some ((s.at n).now) } ∧
      t.gov.tierNext = some s.runChoice.1 ∧ t.gov.boundaries = 0 ∧ t.get GOV_STATE.PREDICTING = 1 ∧
      (t.gov.vTo = some s.runChoice.2 ∨ t.gov.vTo = none ∧ t.get GOV_STATE.VCODE = s.runChoice.2) ∧
      onlyFields [GOV_STATE.PREDICTING, GOV_STATE.VCODE, GOV_EVENTS.AT_VMAX] s t ∧
      { t with now := s.now, pwr.real := s.pwr.real, regs := s.regs, sys := s.sys, gov := s.gov, mon := s.mon } = s) ∧
  (∀ (n : Nat) (s : State), s.takes 0x00014 = true → s.sys.run = true → s.sys.changing = false →
    ∃ t, exec (.modeRun n) s = .next t ∧ onlyTime s t) ∧
  (∀ (n r : Nat) (s : State), s.takes 0x00014 = true → (s.sys.run = false ∨ s.sys.changing = true) → (s.at n).runRefuse = some r →
    ∃ t, exec (.modeRun n) s = .next t ∧ t.sys = s.sys ∧ t.gov = s.gov ∧ t.get ENG_LAST_REFUSE.REASON = r ∧ t.get ENG_LAST_REFUSE.STATUS = 1 ∧
      (r = 0x07 → s.held < 62 → t.isActive 0x0103 noInst = true) ∧ (r = 0x0B → s.held < 62 → t.isActive 0x0A05 noInst = true))

/-- A run begins (R30, R175, R244), once the core rail is at its code (R61): of a line image 50 µs after the command, with every tile
of the image uncalibrated and nothing else changed but the run's own marks; of an area image with the first boundary, which takes the
next frame number.
A stop command in RUN asks for its end at the next boundary, and outside RUN has no effect (R30, R480). A line run ends at once outside
a scan, and in one with a line requested or NOMPER after the cause; a staring run at the boundary that is due: RUN is over, no change is
pending, the mode is the one asked for, and the frames in flight stay to be completed (R31). -/
def Obligations.RunBeginsAndEnds : Prop :=
  (∀ (n r : Nat) (s : State), s.lineImage = true → s.sys.runAt = some r → r + 50 * us ≤ (s.at n).now →
    s.gov.vMoving = false →
    ∃ t, exec (.runStart n) s = .next t ∧ t.sys = { s.sys with run := true, changing := false, runAt := none } ∧
      t.get CAL_STATUS.UNCAL_MASK = s.tileMask % 2 ^ CAL_STATUS.UNCAL_MASK.width ∧ onlyFields [CAL_STATUS.UNCAL_MASK] s t ∧
      { t with now := s.now, pwr.real := s.pwr.real, regs := s.regs, sys := s.sys, gov := s.gov, vfe := s.vfe, cal := s.cal } = s) ∧
  (∀ (n r : Nat) (b : NextB) (s : State), s.lineImage = false → s.sys.mode ≠ .characterise → s.sys.run = false → s.sys.runAt = some r →
    s.gov.vMoving = false → s.sys.stopAt = none → (s.at n).nextB = some b → b.at_ ≤ (s.at n).now →
    ∃ t, exec (.runStart n) s = .next t ∧
      t.sys = { s.sys with run := true, changing := false, runAt := none, frameNo := s.sys.frameNo + 1 } ∧
      t.fpl.lastB = some b.at_ ∧ t.nv.cells = s.nv.cells) ∧
  (∀ (n : Nat) (s : State), s.takes 0x00014 = true → s.sys.up = true → s.sys.changing = false → s.imaging = true → s.sys.run = true →
    ∃ t, exec (.modeStop n) s = .next t ∧ t = { s.at n with sys.changing := true, sys.stopAt := some ((s.at n).now) }) ∧
  (∀ (n : Nat) (s : State), s.takes 0x00014 = true → s.sys.up = true → s.sys.changing = false → s.imaging = true → s.sys.run = false →
    ∃ t, exec (.modeStop n) s = .next t ∧ onlyTime s t) ∧
  (∀ (n c : Nat) (s : State), s.lineImage = true → s.sys.run = true → s.sys.stopAt = some c →
    (s.scanning = false ∨ s.swp.reqs.any (fun q => decide (tickAfter q.2.1 ≤ (s.at n).now)) = true ∨
      c + 16 * s.get SWP_ACT_NOMPER.NOMPER ≤ (s.at n).now) →
    ∃ t, exec (.runEnd n) s = .next t ∧ t.sys.run = false ∧ t.sys.changing = false ∧ t.sys.runAt = none ∧ t.sys.stopAt = none ∧
      t.sys.mode = s.sys.next.getD s.sys.mode ∧ t.get GOV_STATE.PREDICTING = 0 ∧ t.gov.tierNext = none ∧ t.nv.cells = s.nv.cells) ∧
  (∀ (n : Nat) (s : State), s.lineImage = false → (s.at n).stopDue = true →
    ∃ t, exec (.runEnd n) s = .next t ∧ t.sys.run = false ∧ t.sys.changing = false ∧ t.sys.runAt = none ∧ t.sys.stopAt = none ∧
      t.sys.mode = s.sys.next.getD s.sys.mode ∧ t.fpl.frames.length = s.fpl.frames.length ∧ t.get GOV_STATE.PREDICTING = 0 ∧
      t.gov.tierNext = none ∧ t.nv.cells = s.nv.cells)

/-- FRAME_BOUNDARY in a staring run (R21, R163): the boundary that is due begins a frame: its record, with the next frame number and
the boundary's instant, joins those in flight, and the exposure track runs. The run goes on.
The tracks of a frame (R163, R165): the read track begins READ_OFFSET after the integration, with the frame's gain codes, and marks its
frame; its end gives the frame its last sample, and a frame of an average counts in it; the end of the exposure track clears EXP_RUN and
nothing else, and the idle program's begins again (R167).
FRAME_COMPLETE (R48, R49): a kept frame that the burst buffer holds no entry for leaves the frames in flight; one with an entry
leaves too, and its slack is the newest (GOV_LAST_FRAME). The mode and the store's cells stay. -/
def Obligations.FrameLifecycle : Prop :=
  (∀ (n : Nat) (b : NextB) (s : State), s.lineImage = false → s.sys.mode ≠ .characterise → s.sys.run = true → s.sys.runAt = none →
      s.sys.stopAt = none → (s.at n).nextB = some b → b.at_ ≤ (s.at n).now →
      ∃ t l r, exec (.frameBoundary n) s = .next t ∧ t.fpl.frames = l ++ [r] ∧ l.length = s.fpl.frames.length ∧
        r.no = s.sys.frameNo ∧ r.boundary = b.at_ ∧ r.line = false ∧ t.sys = { s.sys with frameNo := s.sys.frameNo + 1 } ∧
        t.fpl.lastB = some b.at_ ∧ t.get FPL_PG_STATUS.EXP_RUN = 1 ∧ t.nv.cells = s.nv.cells) ∧
  (∀ (n : Nat) (r : FrameRec) (s : State), s.fpl.frames.find? (·.lastSample.isNone) = some r → r.readStart = none →
    r.boundary + r.int + (progOf s.image r.prog).readOff ≤ (s.at n).now →
    ∃ t, exec (.readTrackStart n) s = .next t ∧ t.get FPL_PG_STATUS.READ_RUN = 1 ∧
      (∃ r' ∈ t.fpl.frames, r'.no = r.no ∧ r'.readStart = some (r.boundary + r.int + (progOf s.image r.prog).readOff)) ∧
      t.fpl.frames.length = s.fpl.frames.length ∧ t.fpl.readGains = r.packGains ∧ t.sys = s.sys ∧ t.nv = s.nv ∧
      (s.fpl.readGains = r.packGains → onlyFields [FPL_PG_STATUS.READ_RUN] s t ∧
        { t with now := s.now, pwr.real := s.pwr.real, regs := s.regs, fpl := s.fpl } = s)) ∧
  (∀ (n a : Nat) (video : List PixelVideo) (r : FrameRec) (s : State), s.fpl.frames.find? (·.lastSample.isNone) = some r →
    r.readStart = some a → a + rLen s.image r.prog ≤ (s.at n).now →
    ∃ t, exec (.readTrackEnd n video) s = .next t ∧ t.sys = s.sys ∧ t.nv.cells = s.nv.cells ∧
      (s.sys.mode ≠ .characterise → r.drop = .kept →
        ∃ r' ∈ t.fpl.frames, r'.no = r.no ∧ r'.lastSample = some (a + rLen s.image r.prog)) ∧
      (r.avg.isSome = true → r.drop = .kept → t.cal.avg.done = s.cal.avg.done + 1) ∧ (r.avg = none → t.cal.avg = s.cal.avg)) ∧
  (∀ (n b : Nat) (v : Settings) (s : State), s.fpl.lastB = some b → s.fpl.lastSet = some v → s.fpl.idle = false →
    s.get FPL_PG_STATUS.EXP_RUN = 1 → b + eLen s.image v.prog ≤ (s.at n).now →
    ∃ t, exec (.exposeTrackEnd n) s = .next t ∧ t.get FPL_PG_STATUS.EXP_RUN = 0 ∧ onlyFields [FPL_PG_STATUS.EXP_RUN] s t ∧
      { t with now := s.now, pwr.real := s.pwr.real, regs := s.regs, out := s.out } = s) ∧
  (∀ (n p : Nat) (s : State), s.fpl.idle = true → idleProg s.image = some p → s.fpl.idleAt + eLen s.image p ≤ (s.at n).now →
    ∃ t, exec (.exposeTrackEnd n) s = .next t ∧ t.fpl.idleAt = s.fpl.idleAt + eLen s.image p ∧ onlyFields [] s t ∧
      { t with now := s.now, pwr.real := s.pwr.real, out := s.out, fpl.idleAt := s.fpl.idleAt } = s) ∧
  (∀ (n a : Nat) (r : FrameRec) (l : List FrameRec) (s : State), s.swp.outq = [] → s.fpl.frames = r :: l → r.lastSample = some a →
      r.line = false → r.drop = .kept →
      ∃ t, exec (.frameComplete n) s = .next t ∧ t.fpl.frames = l ∧ t.sys = s.sys ∧
        t.get COR_STATUS.FORMAT = (if r.held then (s.cor.live.map (·.format)).getD r.format else r.format) % 4 ∧
        (r.admitted = true → t.get GOV_LAST_FRAME.FRAME = r.no % 2 ^ GOV_LAST_FRAME.FRAME.width) ∧ t.nv.cells = s.nv.cells)

/-- TIER_CHANGE at the boundary that is due makes the scheduled tier the one in force, with a lockout of 16 (R57, R58);
BACKLOG_OVERFLOW drops the frame being read whole, counts it, and asks for TIER_MAX (R38). -/
def Obligations.TierChanges : Prop :=
  (∀ (n g b : Nat) (s : State), (s.at n).dueBoundary = some b → s.gov.boundaries ≠ 0 → s.gov.tierNext = some g → g < 4 →
    g ≠ s.get GOV_STATE.TIER →
    ∃ t, exec (.tierChange n) s = .next t ∧ t.get GOV_STATE.TIER = g ∧ t.get GOV_STATE.LOCKOUT = 16 ∧ t.gov.tierNext = none ∧
      t.gov.tierMade = true ∧
      (s.get GOV_STATE.TIER < g → t.get GOV_EVENTS.TIER_UP = 1) ∧ (g < s.get GOV_STATE.TIER → t.get GOV_EVENTS.TIER_DOWN = 1) ∧
      onlyFields [GOV_STATE.TIER, GOV_STATE.LOCKOUT, GOV_STATE.RUNLEN, GOV_STATE.RUNKIND, GOV_EVENTS.TIER_UP, GOV_EVENTS.TIER_DOWN] s t ∧
      { t with now := s.now, pwr.real := s.pwr.real, regs := s.regs, gov := s.gov } = s) ∧
  (∀ (n : Nat) (r : FrameRec) (s : State),
    s.fpl.frames.find? (fun r => r.readStart.isSome && r.lastSample.isNone && r.drop == .kept) = some r →
    ∃ t, exec (.backlogOverflow n) s = .next t ∧
      t.get GOV_OVF_COUNT.COUNT = (s.get GOV_OVF_COUNT.COUNT + 1) % 2 ^ GOV_OVF_COUNT.COUNT.width ∧ t.get GOV_EVENTS.OVF = 1 ∧
      (s.held < 62 → t.isActive 0x0112 noInst = true) ∧ t.gov.tierNext = some (s.get GOV_CTRL.TIER_MAX) ∧
      (∃ r' ∈ t.fpl.frames, r'.no = r.no ∧ r'.drop = .overflow) ∧ t.fpl.frames.length = s.fpl.frames.length ∧ t.sys = s.sys ∧
      t.nv.cells = s.nv.cells)

/-- Exposure epochs (R170 to R174): a commit that R177 does not refuse takes the shadow set as pending under the next epoch and records
its tick; a commit of the epoch committed has no effect, and one that R177 refuses gives its reason. Outside RUN the pending set comes into
force: its values are the active ones and its epoch the applied one. -/
def Obligations.EpochsCommitAndApply : Prop :=
  (∀ (n v : Nat) (s : State), v % 2 ^ 16 ≠ s.get FPL_EPOCH_STATE.COMMITTED → (s.at n).epochRefuse (v % 2 ^ 16) = 0 →
    s.fpl.pending = none → s.takes 0x40000 = true →
    ∃ t, exec (.epochCommit n v) s = .next t ∧ t.get FPL_EPOCH_STATE.COMMITTED = (s.get FPL_EPOCH_STATE.COMMITTED + 1) % 2 ^ 16 ∧
      t.get FPL_EPOCH_STATE.PENDING = 1 ∧ t.fpl.pending = some s.shadowSet ∧ t.fpl.commitAt = (s.at n).now / 16 ∧
      t.get FPL_COMMIT_TICK_LO.TICK = (s.at n).now / 16 % 2 ^ 32 ∧
      onlyFields [FPL_EPOCH_STATE.COMMITTED, FPL_EPOCH_STATE.PENDING, FPL_COMMIT_TICK_LO.TICK, FPL_COMMIT_TICK_HI.TICK] s t ∧
      { t with now := s.now, pwr.real := s.pwr.real, regs := s.regs, fpl := s.fpl } = s) ∧
  (∀ (n v : Nat) (s : State), s.takes 0x40000 = true → v % 2 ^ 16 = s.get FPL_EPOCH_STATE.COMMITTED →
    ∃ t, exec (.epochCommit n v) s = .next t ∧ onlyTime s t) ∧
  (∀ (n v : Nat) (s : State), s.takes 0x40000 = true → v % 2 ^ 16 ≠ s.get FPL_EPOCH_STATE.COMMITTED →
    (s.at n).epochRefuse (v % 2 ^ 16) ≠ 0 →
    ∃ t, exec (.epochCommit n v) s = .next t ∧ t.get FPL_EPOCH_STATE.LAST_REFUSE = (s.at n).epochRefuse (v % 2 ^ 16) ∧
      t.get FPL_EVENTS.REFUSED = 1 ∧ t.get ENG_LAST_REFUSE.STATUS = 1 ∧ onlyRegs s t ∧
      onlyFields [FPL_EPOCH_STATE.LAST_REFUSE, FPL_EVENTS.REFUSED, ENG_LAST_REFUSE.REASON, ENG_LAST_REFUSE.STATUS, ENG_LAST_REFUSE.OP,
        ENG_LAST_REFUSE_ADDR.ADDR] s t) ∧
  (∀ (n : Nat) (s : State), (s.sys.run = true ∨ s.fpl.pending = none) →
    ∃ t, exec (.epochApply n) s = .next t ∧ onlyTime s t) ∧
  (∀ (n : Nat) (v : Settings) (s : State), s.sys.run = false → s.fpl.pending = some v →
    ∃ t, exec (.epochApply n) s = .next t ∧ t.get FPL_EPOCH_APPLIED.EPOCH = s.get FPL_EPOCH_STATE.COMMITTED % 2 ^ 16 ∧
      t.get FPL_EPOCH_STATE.PENDING = 0 ∧ t.fpl.pending = none ∧ t.get FPL_ACT_PROG.PROG = v.prog % 2 ^ FPL_ACT_PROG.PROG.width ∧
      t.get FPL_ACT_INT.INT = v.int % 2 ^ FPL_ACT_INT.INT.width ∧ t.get FPL_ACT_PERIOD.PERIOD = v.period % 2 ^ FPL_ACT_PERIOD.PERIOD.width ∧
      t.get SWP_ACT_NOMPER.NOMPER = v.nomper % 2 ^ SWP_ACT_NOMPER.NOMPER.width ∧ t.sys = s.sys ∧ t.nv = s.nv)

/-- A further commit while a set is pending supersedes it (R172): the new set takes its place, and the supersession is counted and
shown. -/
def Obligations.PendingSetSuperseded : Prop :=
  ∀ (n v : Nat) (o : Settings) (s : State), v % 2 ^ 16 ≠ s.get FPL_EPOCH_STATE.COMMITTED → (s.at n).epochRefuse (v % 2 ^ 16) = 0 →
    s.fpl.pending = some o → s.takes 0x40000 = true →
    ∃ t, exec (.epochCommit n v) s = .next t ∧ t.fpl.pending = some s.shadowSet ∧
      t.get FPL_SUPERSEDE_COUNT.COUNT = (s.get FPL_SUPERSEDE_COUNT.COUNT + 1) % 2 ^ FPL_SUPERSEDE_COUNT.COUNT.width ∧
      t.get FPL_EVENTS.SUPERSEDED = 1 ∧ t.get FPL_EPOCH_STATE.COMMITTED = (s.get FPL_EPOCH_STATE.COMMITTED + 1) % 2 ^ 16 ∧
      t.get FPL_EPOCH_STATE.PENDING = 1

/-! ### Shutter cycles and calibration -/

/-- The start of a shutter cycle (R252, R253): a period that has passed makes a periodic cycle due; at the boundary that is due a due cycle
that may start closes the paddle, as does the hot closure of a two-point cycle, which a forced one ends and counts as abandoned (R259,
R262); one that may not, and a time between boundaries, have no effect; a closed paddle settles, with the count of failed closings at 0;
the settling ends in the average 20 ms later.
The end of a shutter cycle (R253 to R255, R259): once the last row of the last frame of the average has integrated the paddle opens and
the update is due; the paddle open clears fault 0x0702 and, in RUN, begins Resume; Resume ends the cycle 20 ms later, and heats the paddle
where a two-point cycle has its ambient closure and both its sensors serve; else it is abandoned with fault 0x0706 (R413). -/
def Obligations.ShutterCycle : Prop :=
  (∀ (n o : Nat) (s : State), s.cal.openAt = some o → s.get CAL_SHUT_CTRL.AUTO_EN = 1 → s.sys.mode = .stare → s.sys.run = true →
    s.get CAL_STATUS.CYCLE = 0 → s.cal.due = none → s.cal.blocked = false → o + s.get CAL_SHUT_PERIOD.S * sec ≤ (s.at n).now →
    ∃ t, exec (.shutterPeriodDue n) s = .next t ∧ t.cal.due = some 1 ∧ { t with now := s.now, pwr.real := s.pwr.real, cal := s.cal } = s) ∧
  (∀ (n b k : Nat) (s : State), (s.at n).dueBoundary = some b → s.sys.stopAt = none → s.cycleMay = true → s.cal.due = some k →
    s.get CAL_STATUS.CYCLE = 0 →
    ∃ t, exec (.shutterCycleStart n) s = .next t ∧ t.get CAL_STATUS.CYCLE = 1 ∧ t.get CAL_STATUS.SHUT_STATE = 1 ∧ t.cal.due = none ∧
      t.cal.kind = k ∧ t.cal.part = b2n (s.cal.dueTwo && k != 0) ∧ t.cal.stepAt = b ∧ t.cal.avg = { want := s.get CAL_SHUT_FRAMES.N } ∧
      t.out = .paddle "close" :: s.out ∧ onlyFields [CAL_STATUS.CYCLE, CAL_STATUS.SHUT_STATE, CAL_SHUT_NEXT.S] s t ∧
      { t with now := s.now, pwr.real := s.pwr.real, regs := s.regs, cal := s.cal, out := s.out } = s) ∧
  (∀ (n b : Nat) (s : State), (s.at n).dueBoundary = some b → s.sys.stopAt = none → s.cycleMay = true → s.get CAL_STATUS.CYCLE = 6 →
    s.forcedDue = false →
    ∃ t, exec (.shutterCycleStart n) s = .next t ∧ t.get CAL_STATUS.CYCLE = 1 ∧ t.get CAL_STATUS.SHUT_STATE = 1 ∧ t.cal.part = 3 ∧
      t.cal.hot = false ∧ t.cal.due = s.cal.due ∧ t.out = .paddle "close" :: s.out ∧
      onlyFields [CAL_STATUS.CYCLE, CAL_STATUS.SHUT_STATE, CAL_SHUT_NEXT.S] s t ∧
      { t with now := s.now, pwr.real := s.pwr.real, regs := s.regs, cal := s.cal, out := s.out } = s) ∧
  (∀ (n b : Nat) (s : State), (s.at n).dueBoundary = some b → s.sys.stopAt = none → s.cycleMay = true → s.get CAL_STATUS.CYCLE = 6 →
    s.forcedDue = true →
    ∃ t, exec (.shutterCycleStart n) s = .next t ∧ t.get CAL_STATUS.CYCLE = 1 ∧ t.cal.kind = 0 ∧ t.cal.part = 0 ∧
      t.get CAL_ABANDON_COUNT.COUNT = (s.get CAL_ABANDON_COUNT.COUNT + 1) % 2 ^ CAL_ABANDON_COUNT.COUNT.width ∧
      t.get CAL_EVENTS.CYCLE_ABANDON = 1 ∧ t.sys = s.sys ∧ t.nv = s.nv) ∧
  (∀ (n : Nat) (s : State), (s.cycleMay = false ∨ (s.at n).dueBoundary = none) →
    ∃ t, exec (.shutterCycleStart n) s = .next t ∧ onlyTime s t) ∧
  (∀ (n : Nat) (s : State), s.get CAL_STATUS.CYCLE = 1 →
    ∃ t, exec (.paddleClosed n) s = .next t ∧ t.get CAL_STATUS.CYCLE = 2 ∧ t.get CAL_STATUS.SHUT_STATE = 2 ∧ t.cal.closeFails = 0 ∧ t.cal.stepAt = (s.at n).now ∧
      t.sys = s.sys ∧ t.nv = s.nv) ∧
  (∀ (n : Nat) (s : State), s.get CAL_STATUS.CYCLE = 2 → s.cal.stepAt + 20 * msec ≤ (s.at n).now →
    ∃ t, exec (.shutterSettleEnd n) s = .next t ∧ t.get CAL_STATUS.CYCLE = 3 ∧ t.cal.avg = { want := s.get CAL_SHUT_FRAMES.N } ∧
      onlyFields [CAL_STATUS.CYCLE] s t ∧ { t with now := s.now, pwr.real := s.pwr.real, regs := s.regs, cal := s.cal } = s) ∧
  (∀ (n : Nat) (s : State), s.get CAL_STATUS.CYCLE = 3 → s.cal.avg.taken = s.cal.avg.want → s.cal.stepAt ≤ (s.at n).now →
    ∃ t, exec (.shutterAverageEnd n) s = .next t ∧ t.get CAL_STATUS.CYCLE = 4 ∧ t.get CAL_STATUS.SHUT_STATE = 3 ∧ t.cal.update = true ∧
      t.out = .paddle "open" :: s.out ∧ onlyFields [CAL_STATUS.CYCLE, CAL_STATUS.SHUT_STATE] s t ∧
      { t with now := s.now, pwr.real := s.pwr.real, regs := s.regs, cal := s.cal, out := s.out } = s) ∧
  (∀ (n : Nat) (s : State), (s.get CAL_STATUS.SHUT_STATE = 3 ∨ s.get CAL_STATUS.SHUT_STATE = 4) →
    ∃ t, exec (.paddleOpened n) s = .next t ∧ t.get CAL_STATUS.SHUT_STATE = 0 ∧
      t.get CAL_STATUS.CYCLE = (if s.get CAL_STATUS.CYCLE = 4 then (if s.sys.run then 5 else 0) else s.get CAL_STATUS.CYCLE) ∧
      t.cal.openAt = some ((s.at n).now) ∧ t.cal.heating = false ∧ (s.alm.unheld = [] → t.isActive 0x0702 noInst = false) ∧
      t.sys = s.sys ∧ t.nv.cells = s.nv.cells ∧ onlyFields (CAL_STATUS.SHUT_STATE :: CAL_STATUS.CYCLE :: faultFields) s t) ∧
  (∀ (n : Nat) (s : State), s.get CAL_STATUS.CYCLE = 5 → s.cal.stepAt + 20 * msec ≤ (s.at n).now → (s.cal.part ≠ 1 ∨ s.cal.ambientSet = []) →
    ∃ t, exec (.shutterResumeEnd n) s = .next t ∧ t.get CAL_STATUS.CYCLE = 0 ∧ onlyFields [CAL_STATUS.CYCLE] s t ∧
      { t with now := s.now, pwr.real := s.pwr.real, regs := s.regs, cal := s.cal } = s) ∧
  (∀ (n : Nat) (s : State), s.get CAL_STATUS.CYCLE = 5 → s.cal.stepAt + 20 * msec ≤ (s.at n).now → s.cal.part = 1 → s.cal.ambientSet ≠ [] → 16 ∉ s.mon.fail → 17 ∉ s.mon.fail →
    ∃ t, exec (.shutterResumeEnd n) s = .next t ∧ t.get CAL_STATUS.CYCLE = 6 ∧ t.cal.part = 2 ∧ t.cal.heating = true ∧
      t.cal.heatTarget = s.cal.ambientTb + 960 ∧ t.out = .paddle "heat" :: s.out ∧ onlyFields [CAL_STATUS.CYCLE] s t ∧
      { t with now := s.now, pwr.real := s.pwr.real, regs := s.regs, cal := s.cal, out := s.out } = s) ∧
  (∀ (n : Nat) (s : State), s.get CAL_STATUS.CYCLE = 5 → s.cal.stepAt + 20 * msec ≤ (s.at n).now → s.cal.part = 1 → s.cal.ambientSet ≠ [] → (16 ∈ s.mon.fail ∨ 17 ∈ s.mon.fail) →
    ∃ t, exec (.shutterResumeEnd n) s = .next t ∧ t.get CAL_STATUS.CYCLE = 0 ∧ t.cal.part = 0 ∧ t.cal.heating = false ∧
      t.get CAL_EVENTS.CYCLE_ABANDON = 1 ∧ (s.held < 62 → t.isActive 0x0706 noInst = true) ∧ t.sys = s.sys ∧ t.nv.cells = s.nv.cells)

/-- The paddle's failures and retries (R255): a closing not confirmed within 300 ms raises fault 0x0701 and opens the paddle
again, the second in a row blocks cycles, and a forced cycle is retried 10 s later; an opening not confirmed within 300 ms raises 0x0702
and drives it again, as every retry does, 1 s apart; a retry of a forced cycle falls due with its timer; the host's reset unblocks.
The host's cycles (R252, R259): CAL_SHUT_CMD in a staring run with no cycle in progress makes a cycle due, of one or of two
points, has no effect elsewhere, and is refused in SWEEP; the heated paddle, stable at its target within 120 s, calls the hot
closure; its failure to become stable ends the cycle with fault 0x0706. -/
def Obligations.PaddleAndHostCycles : Prop :=
  (∀ (n : Nat) (s : State), s.get CAL_STATUS.CYCLE = 1 → s.cal.stepAt + 300 * msec ≤ (s.at n).now →
    ∃ t, exec (.paddleCloseTimeout n) s = .next t ∧ t.get CAL_STATUS.CYCLE = 4 ∧ t.get CAL_STATUS.SHUT_STATE = 3 ∧
      t.get CAL_EVENTS.SHUT_FAULT = 1 ∧ t.get CAL_EVENTS.CYCLE_ABANDON = 1 ∧ (s.held < 62 → t.isActive 0x0701 noInst = true) ∧
      t.out = .paddle "open" :: s.out ∧ t.cal.closeFails = s.cal.closeFails + 1 ∧ (1 ≤ s.cal.closeFails → t.cal.blocked = true) ∧
      (s.cal.kind = 0 → t.cal.retryAt = some ((s.at n).now + 10 * sec)) ∧
      t.get CAL_ABANDON_COUNT.COUNT = (s.get CAL_ABANDON_COUNT.COUNT + 1) % 2 ^ CAL_ABANDON_COUNT.COUNT.width ∧ t.sys = s.sys ∧
      t.nv.cells = s.nv.cells) ∧
  (∀ (n : Nat) (s : State), s.get CAL_STATUS.SHUT_STATE = 3 → s.cal.stepAt + 300 * msec ≤ (s.at n).now →
    ∃ t, exec (.paddleOpenTimeout n) s = .next t ∧ t.get CAL_STATUS.SHUT_STATE = 4 ∧ t.get CAL_EVENTS.SHUT_FAULT = 1 ∧
      (s.held < 62 → t.isActive 0x0702 noInst = true) ∧ t.out = .paddle "open" :: s.out ∧ t.sys = s.sys ∧ t.cal = { s.cal with stepAt := s.cal.stepAt + 300 * msec } ∧
      t.nv.cells = s.nv.cells) ∧
  (∀ (n : Nat) (s : State), s.get CAL_STATUS.SHUT_STATE = 4 → s.cal.stepAt + sec ≤ (s.at n).now →
    ∃ t, exec (.paddleOpenRetry n) s = .next t ∧ t = { s.at n with cal.stepAt := s.cal.stepAt + sec }.emit (.paddle "open")) ∧
  (∀ (n r : Nat) (s : State), s.cal.retryAt = some r → r ≤ (s.at n).now → s.cal.blocked = false → s.sys.run = true → s.sys.mode = .stare →
    ∃ t, exec (.shutterRetryTimer n) s = .next t ∧
      t = { s.at n with cal.retryAt := none, cal.due := some 0, cal.dueTwo := false }) ∧
  (∀ (n r : Nat) (s : State), s.cal.retryAt = some r → r ≤ (s.at n).now →
    (s.cal.blocked = true ∨ s.sys.run = false ∨ s.sys.mode ≠ .stare) →
    ∃ t, exec (.shutterRetryTimer n) s = .next t ∧ t = { s.at n with cal.retryAt := none }) ∧
  (∀ (n : Nat) (s : State), s.takes 0x7001C = true → s.sys.mode ≠ .sweep →
    ∃ t, exec (.calShutReset n) s = .next t ∧ t = { s.at n with cal.blocked := false, cal.closeFails := 0 }) ∧
  (∀ (n : Nat) (s : State), s.takes 0x7001C = true → s.sys.mode = .stare → s.sys.run = true → s.get CAL_STATUS.CYCLE = 0 →
    s.forcedDue = false →
    (∃ t, exec (.calShutNow n) s = .next t ∧ t = { s.at n with cal.due := some 2, cal.dueTwo := s.cal.due.isSome && s.cal.dueTwo }) ∧
    (∃ t, exec (.calShutNowTwoPt n) s = .next t ∧ t = { s.at n with cal.due := some 2, cal.dueTwo := true })) ∧
  (∀ (n : Nat) (s : State), s.takes 0x7001C = true → s.sys.mode ≠ .sweep →
    (s.sys.mode ≠ .stare ∨ s.sys.run = false ∨ s.get CAL_STATUS.CYCLE ≠ 0 ∨ s.forcedDue = true) →
    (∃ t, exec (.calShutNow n) s = .next t ∧ onlyTime s t) ∧ (∃ t, exec (.calShutNowTwoPt n) s = .next t ∧ onlyTime s t)) ∧
  (∀ (n : Nat) (s : State), s.takes 0x7001C = true → s.sys.mode = .sweep →
    (∃ t, exec (.calShutNow n) s = .next t ∧ t.get ENG_LAST_REFUSE.STATUS = 1 ∧ t.get ENG_LAST_REFUSE.REASON = 0x03 ∧ onlyRegs s t) ∧
    (∃ t, exec (.calShutNowTwoPt n) s = .next t ∧ t.get ENG_LAST_REFUSE.STATUS = 1 ∧ t.get ENG_LAST_REFUSE.REASON = 0x03 ∧ onlyRegs s t) ∧
    (∃ t, exec (.calShutReset n) s = .next t ∧ t.get ENG_LAST_REFUSE.STATUS = 1 ∧ t.get ENG_LAST_REFUSE.REASON = 0x03 ∧ onlyRegs s t)) ∧
  (∀ (n : Nat) (s : State), s.get CAL_STATUS.CYCLE = 6 → s.cal.part = 2 → (s.at n).now ≤ s.cal.stepAt + 120 * sec →
    (s.at n).paddleSteady = true →
    ∃ t, exec (.paddleHeatStable n) s = .next t ∧ t = { s.at n with cal.hot := true }) ∧
  (∀ (n : Nat) (s : State), s.get CAL_STATUS.CYCLE = 6 → s.cal.part = 2 → s.cal.hot = false →
    s.cal.stepAt + 120 * sec ≤ (s.at n).now →
    ∃ t, exec (.paddleHeatTimeout n) s = .next t ∧ t.get CAL_STATUS.CYCLE = 0 ∧ (s.held < 62 → t.isActive 0x0706 noInst = true) ∧
      t.cal.heating = false ∧ t.cal.part = 0 ∧ t.get CAL_EVENTS.CYCLE_ABANDON = 1 ∧ t.sys = s.sys ∧ t.nv.cells = s.nv.cells)

/-- The update of a closed cycle (R253, R256, R261, R262): an average whose checks fail is rejected, counted, with fault 0x0703, and no
generation is made; one whose checks hold makes at most one generation, of source 1, and shows it, and the hot closure of a two-point
cycle at most one, of source 2 (R260); a tile's refit that ends shows its kind and its result, and one accepted is a generation of source
3 (R267).
CALGEN_APPLY (R242): outside RUN, or at the boundary that is due, the newest generation is the one in force and its number is shown;
what uncorrectable coefficients had made bad stays for the generations of frames in flight alone (R235). -/
def Obligations.GenerationUpdates : Prop :=
  (∀ (n : Nat) (s : State), s.cal.update = true → s.cal.avg.done = s.cal.avg.want → 0 < s.cal.avg.want → s.cal.part ≠ 3 →
    cycleOk s s.cal.avg = false →
    ∃ t, exec (.shutterUpdateCommit n) s = .next t ∧ t.cal.update = false ∧ t.cal.newest = s.cal.newest ∧
      (s.held < 62 → t.isActive 0x0703 noInst = true) ∧ t.get CAL_EVENTS.UPDATE_REJECT = 1 ∧
      t.get CAL_REJECT_COUNT.COUNT = (s.get CAL_REJECT_COUNT.COUNT + 1) % 2 ^ CAL_REJECT_COUNT.COUNT.width ∧ t.sys = s.sys ∧
      t.nv.cells = s.nv.cells) ∧
  (∀ (n : Nat) (s : State), s.cal.update = true → s.cal.avg.done = s.cal.avg.want → 0 < s.cal.avg.want → s.cal.part ≠ 3 →
    cycleOk s s.cal.avg = true →
    ∃ t, exec (.shutterUpdateCommit n) s = .next t ∧ t.cal.update = false ∧
      (t.cal.newest = s.cal.newest ∨ (t.cal.newest.no = (s.cal.newest.no + 1) % 2 ^ 32 ∧ t.cal.newest.source = 1 ∧
        t.get CAL_EVENTS.CYCLE_DONE = 1)) ∧ t.sys = s.sys ∧ t.nv.cells = s.nv.cells) ∧
  (∀ (n : Nat) (s : State), s.cal.update = true → s.cal.avg.done = s.cal.avg.want → 0 < s.cal.avg.want → s.cal.part = 3 →
    ∃ t, exec (.shutterUpdateCommit n) s = .next t ∧ t.cal.update = false ∧ t.cal.part = 0 ∧
      (t.cal.newest = s.cal.newest ∨ (t.cal.newest.no = (s.cal.newest.no + 1) % 2 ^ 32 ∧ t.cal.newest.source = 2 ∧
        t.get CAL_EVENTS.CYCLE_DONE = 1)) ∧ t.sys = s.sys ∧ t.nv.cells = s.nv.cells) ∧
  (∀ (n k order start : Nat) (s : State), s.cal.refit = some (k, order, start) → k < 8 →
    ∃ t, exec (.driftRefitDone n) s = .next t ∧ t.get (CAL_TILEn_LAST.KIND k) = 2 ∧
      ((t.get (CAL_TILEn_LAST.RESULT k) = 1 ∧ t.get CAL_EVENTS.REFIT_DONE = 1 ∧ t.cal.newest.source = 3 ∧
          t.cal.newest.no = (s.cal.newest.no + 1) % 2 ^ 32) ∨
        (t.get (CAL_TILEn_LAST.RESULT k) = 2 ∧ t.get CAL_EVENTS.REFIT_REJECT = 1 ∧ t.cal.newest = s.cal.newest)) ∧
      (s.cal.refits = [] → t.cal.refit = none) ∧ t.sys = s.sys ∧ t.nv.cells = s.nv.cells) ∧
  (∀ (n : Nat) (s : State), (s.at n).mayActNow = true → s.cal.force.no ≠ s.cal.newest.no → (∀ e ∈ s.cal.newest.tiles, e.1 < 8) →
      ∃ t, exec (.calgenApply n) s = .next t ∧ t.cal = { s.cal with force := s.cal.newest } ∧
        t.cor = { s.cor with ecc := s.cor.ecc.filter fun e => (s.swp.rows ++ s.fpl.frames).any fun r => r.gen == e.1 } ∧
        t.get CAL_GEN.GEN = s.cal.newest.no % 2 ^ 32 ∧
        { t with now := s.now, pwr.real := s.pwr.real, regs := s.regs, cal := s.cal, cor := s.cor } = s) ∧
  (∀ (n : Nat) (s : State), ((s.at n).mayActNow = false ∨ s.cal.force.no = s.cal.newest.no) →
      ∃ t, exec (.calgenApply n) s = .next t ∧ onlyTime s t)

/-- The points of a characterisation (R271, R272): GO takes the point's temperature and waits for stability; tiles that have been steady
for 10 s begin the average; a complete average makes a point, or is discarded where a tile moved by more than 0.1 K; a point whose time
has passed fails the operation with reason 4; FIT begins the fit, or fails the operation with reason 3 where the points do not serve it.
The fit and the bank write (R249, R274): a fit that no tile passes ends the operation with nothing written; one that a tile passes
begins the bank write; a bank that read back as written has its BANK_DONE record queued for the operation; one that did not raises
fault 0x0708 and ends the job. -/
def Obligations.Characterisation : Prop :=
  (∀ (n : Nat) (c : CharS) (s : State), s.takes 0x70304 = true → s.cal.char = some c → c.slot < 8 → s.get CAL_CHAR_STATE.STATE = 1 →
    ∃ t, exec (.calCharGo n) s = .next t ∧ t.get CAL_CHAR_STATE.STATE = 2 ∧
      t.cal.char = some { c with tbb := s.get CAL_CHAR_POINT.TBB, goAt := (s.at n).now } ∧ t.sys = s.sys ∧ t.nv = s.nv) ∧
  (∀ (n : Nat) (s : State), s.takes 0x70304 = true → (s.cal.char = none ∨ s.get CAL_CHAR_STATE.STATE ≠ 1) →
    ∃ t, exec (.calCharGo n) s = .next t ∧ onlyTime s t) ∧
  (∀ (n : Nat) (c : CharS) (s : State), s.cal.char = some c → c.slot < 8 → s.get CAL_CHAR_STATE.STATE = 2 →
    (s.at n).tilesSteady (s.at n).now c.mask = true →
    ∃ t, exec (.charPointStable n) s = .next t ∧ t.get CAL_CHAR_STATE.STATE = 3 ∧ t.cal.avg = { want := s.get CAL_CHAR_FRAMES.N } ∧
      t.cal.char = s.cal.char ∧ t.sys = s.sys ∧ t.nv = s.nv) ∧
  (∀ (n : Nat) (c : CharS) (s : State), s.cal.char = some c → c.slot < 8 → s.get CAL_CHAR_STATE.STATE = 3 → s.cal.avg.done = s.cal.avg.want →
    0 < s.cal.avg.want → ((tilesOf c.mask).any fun k => decide (128 < spread (perTile k s.cal.avg.temps) * 10)) = false →
    c.points.length < 15 →
    ∃ t, exec (.charPointDone n) s = .next t ∧ t.get CAL_CHAR_STATE.STATE = 1 ∧
      t.get CAL_CHAR_STATE.POINTS = (c.points.length + 1) % 2 ^ CAL_CHAR_STATE.POINTS.width ∧
      t.cal.char = some { c with points := c.points ++ [charPointOf c s.cal.avg] } ∧ t.cal.avg = {} ∧ t.sys = s.sys ∧ t.nv = s.nv) ∧
  (∀ (n : Nat) (c : CharS) (s : State), s.cal.char = some c → c.slot < 8 → s.get CAL_CHAR_STATE.STATE = 3 → s.cal.avg.done = s.cal.avg.want →
    0 < s.cal.avg.want → ((tilesOf c.mask).any fun k => decide (128 < spread (perTile k s.cal.avg.temps) * 10)) = true →
    ∃ t, exec (.charPointDone n) s = .next t ∧ t.get CAL_CHAR_STATE.STATE = 2 ∧ t.cal.char = s.cal.char ∧ t.cal.avg = {} ∧ t.sys = s.sys ∧
      t.nv = s.nv) ∧
  (∀ (n : Nat) (c : CharS) (s : State), s.cal.char = some c → c.slot < 8 →
    (s.get CAL_CHAR_STATE.STATE = 2 ∨ s.get CAL_CHAR_STATE.STATE = 3) → c.goAt + c.timeout ≤ (s.at n).now →
    ∃ t, exec (.charPointTimeout n) s = .next t ∧ t.get CAL_CHAR_STATE.STATE = 0 ∧ t.cal.char = none ∧ t.cal.newest = s.cal.newest ∧
      t.get (OP_RESULT_w.WORD c.slot 0) = 4 ∧ t.nv = s.nv) ∧
  (∀ (n : Nat) (c : CharS) (s : State), s.takes 0x70304 = true → s.cal.char = some c → c.slot < 8 → 1 ≤ s.get CAL_CHAR_STATE.STATE →
    s.get CAL_CHAR_STATE.STATE ≤ 3 → spread (c.points.map (·.tbb)) < 640 →
    ∃ t, exec (.calCharFit n) s = .next t ∧ t.get CAL_CHAR_STATE.STATE = 0 ∧ t.cal.char = none ∧ t.cal.newest = s.cal.newest ∧
      t.get (OP_RESULT_w.WORD c.slot 0) = 3 ∧ t.nv = s.nv) ∧
  (∀ (n : Nat) (c : CharS) (s : State), s.takes 0x70304 = true → s.cal.char = some c → c.slot < 8 → 1 ≤ s.get CAL_CHAR_STATE.STATE →
    s.get CAL_CHAR_STATE.STATE ≤ 3 → 640 ≤ spread (c.points.map (·.tbb)) →
    (c.drift = false ∨ (6 ≤ c.points.length ∧ ((tilesOf c.mask).all fun k =>
      decide (128 ≤ spread (c.points.filterMap fun p => (p.tiles.find? (·.1 == k)).map (·.2.1)))) = true)) →
    ((c.points.flatMap fun p => p.tiles.map fun e => (e.1, e.2.2)).all fun g =>
      (c.points.flatMap fun p => p.tiles.map fun e => (e.1, e.2.2)).all fun h => g.1 != h.1 || g.2 == h.2) = true →
    ∃ t, exec (.calCharFit n) s = .next t ∧ t.get CAL_CHAR_STATE.STATE = 4 ∧ t.cal.char = s.cal.char ∧ t.sys = s.sys ∧ t.nv = s.nv) ∧
  (∀ (n : Nat) (c : CharS) (s : State), s.cal.char = some c → c.slot < 8 → s.get CAL_CHAR_STATE.STATE = 4 →
    (((tilesOf c.mask).map ((s.at n).charTile c)).any (·.ok)) = false →
    ∃ t, exec (.charFitDone n) s = .next t ∧ t.get CAL_CHAR_STATE.STATE = 0 ∧ t.cal.char = none ∧ t.get (OP_RESULT_w.WORD c.slot 0) = 5 ∧
      t.nv = s.nv) ∧
  (∀ (n : Nat) (c : CharS) (s : State), s.cal.char = some c → c.slot < 8 → s.get CAL_CHAR_STATE.STATE = 4 →
    (((tilesOf c.mask).map ((s.at n).charTile c)).any (·.ok)) = true →
    ∃ t, exec (.charFitDone n) s = .next t ∧ t.get CAL_CHAR_STATE.STATE = 5 ∧ t.cal.bankJob.isSome = true ∧
      t.cal.newest = s.cal.newest ∧ t.nv.cells = s.nv.cells) ∧
  (∀ (n k seq slot : Nat) (s : State), s.cal.bankJob = some (k, seq) → s.bankSlot = some slot → s.writeIdle slot = true →
    (s.opx slot).commit = false → slot < s.ops.slots.length →
    ∃ t, exec (.bankWriteDone n true) s = .next t ∧ (t.opx slot).commit = true ∧
      (∃ r : JRec, t.nvs.progs = s.nvs.progs ++ [.journal r (some slot)] ∧ r.type = 0x21 ∧
        r.payload = [k, 0, 0, 0] ++ leBytes 4 seq) ∧ t.cal = s.cal ∧ t.nv.cells = s.nv.cells ∧ t.nv.banks = s.nv.banks) ∧
  (∀ (n k seq slot : Nat) (s : State), s.cal.bankJob = some (k, seq) → s.bankSlot = some slot → s.writeIdle slot = true →
    (s.opx slot).commit = false →
    ∃ t, exec (.bankWriteDone n false) s = .next t ∧ t.cal.bankJob = none ∧ (s.held < 62 → t.isActive 0x0708 noInst = true) ∧
      t.get CAL_CHAR_STATE.STATE = 0 ∧ t.nv.cells = s.nv.cells ∧ t.nv.banks = s.nv.banks)

/-! ### Front-ends, the spare, and station 5 -/

/-- The mismatch estimation (R191 to R196, R375): a full window closes into a solve at the boundary that is due; a solve that ends leaves
those in flight and counts as a module batch; one with plausible estimates gives its front-end the updated set as the next one, and one
whose estimates are not plausible is rejected and counted, the fourth in a row with fault 0x0501; at a boundary a pending set takes
effect and is counted, unless the estimation is off or frozen, when it is dropped; no window closes and no set takes effect between
boundaries; a late solve is counted once with fault 0x0901. -/
def Obligations.InterleaveEstimation : Prop :=
  (∀ (n fe b : Nat) (s : State), (s.at n).dueBoundary = some b → 2 ^ s.get VFE_ILV_WIN.WIN ≤ (s.window fe).n →
    ∃ t, exec (.ilvWindowClose n fe) s = .next t ∧ t.window fe = {} ∧
      t.vfe.solving = s.vfe.solving ++ [{ fe := fe, sums := s.window fe, since := (s.at n).now, tier := s.get GOV_STATE.TIER }] ∧
      { t with now := s.now, pwr.real := s.pwr.real, vfe := s.vfe } = s) ∧
  (∀ (n fe : Nat) (s : State), ((s.at n).dueBoundary = none ∨ (s.window fe).n < 2 ^ s.get VFE_ILV_WIN.WIN) →
    ∃ t, exec (.ilvWindowClose n fe) s = .next t ∧ onlyTime s t) ∧
  (∀ (n fe : Nat) (v : IlvSolve) (s : State), s.vfe.solving.find? (·.fe == fe) = some v → fe < 33 →
    ∃ t, exec (.ilvSolveDone n fe) s = .next t ∧ t.vfe.solving = s.vfe.solving.erase v ∧ t.vfe.window = s.vfe.window ∧
      t.get SOL_MOD_BATCHES.COUNT = (s.get SOL_MOD_BATCHES.COUNT + 1) % 2 ^ SOL_MOD_BATCHES.COUNT.width ∧
      t.get (VFE_ILVn_STAT.HELD_G fe) = b2n (!v.sums.fits.1) ∧ t.get (VFE_ILVn_STAT.HELD_K fe) = b2n (!v.sums.fits.2) ∧
      t.ilv fe = s.ilv fe ∧ t.sys = s.sys ∧ t.fpl = s.fpl ∧ t.nv.cells = s.nv.cells) ∧
  (∀ (n fe : Nat) (v : IlvSolve) (c : List (Int × Nat)) (e : Int × Option Int × Option Int) (s : State),
    s.vfe.solving.find? (·.fe == fe) = some v → fe < 33 → (v.sums.solve v.tier).1 = some c → (v.sums.solve v.tier).2.status = 0 →
    (ilvEstimates v.sums.fits c).filter ilvPlausible = some e → s.get VFE_ILV_CTRL.EST_EN = 1 → s.get VFE_ILV_CTRL.FREEZE = 0 →
    ∃ t, exec (.ilvSolveDone n fe) s = .next t ∧ t.get (VFE_ILVn_STAT.REJECTS fe) = 0 ∧
      t.vfe.next.find? (·.1 == fe) = some (fe, ilvUpdate (s.get VFE_ILV_CTRL.ALPHA) (s.ilv fe) e) ∧
      (∀ k, k ≠ fe → t.vfe.next.find? (·.1 == k) = s.vfe.next.find? (·.1 == k)) ∧
      (s.alm.unheld = [] → t.isActive 0x0501 fe = false)) ∧
  (∀ (n fe : Nat) (v : IlvSolve) (c : List (Int × Nat)) (s : State), s.vfe.solving.find? (·.fe == fe) = some v → fe < 33 →
    (v.sums.solve v.tier).1 = some c → (v.sums.solve v.tier).2.status = 0 → (ilvEstimates v.sums.fits c).filter ilvPlausible = none →
    ∃ t, exec (.ilvSolveDone n fe) s = .next t ∧ t.get VFE_EVENTS.ILV_REJECT = 1 ∧
      t.get (VFE_ILVn_STAT.REJECTS fe) = min (s.get (VFE_ILVn_STAT.REJECTS fe) + 1) (2 ^ (VFE_ILVn_STAT.REJECTS fe).width - 1) ∧
      t.vfe.next = s.vfe.next ∧ (s.get (VFE_ILVn_STAT.REJECTS fe) = 3 → s.held < 62 → t.isActive 0x0501 fe = true)) ∧
  (∀ (n fe b : Nat) (v : IlvSet) (s : State), (s.at n).dueBoundary = some b → fe < 33 → s.vfe.next.find? (·.1 == fe) = some (fe, v) →
    s.get VFE_ILV_CTRL.EST_EN = 1 → s.get VFE_ILV_CTRL.FREEZE = 0 →
    ∃ t, exec (.ilvSetApply n fe) s = .next t ∧ t.get (VFE_ILVn_OFS.OFS fe) = unsigned 16 v.ofs ∧
      t.get (VFE_ILVn_GAIN.G fe) = unsigned 16 v.g ∧ t.get (VFE_ILVn_SKEW.K fe) = unsigned 16 v.k ∧
      t.get (VFE_ILVn_STAT.ACCEPTS fe) = (s.get (VFE_ILVn_STAT.ACCEPTS fe) + 1) % 2 ^ 16 ∧ t.vfe.next.find? (·.1 == fe) = none ∧
      onlyFields [VFE_ILVn_OFS.OFS fe, VFE_ILVn_GAIN.G fe, VFE_ILVn_SKEW.K fe, VFE_ILVn_STAT.ACCEPTS fe] s t ∧
      { t with now := s.now, pwr.real := s.pwr.real, regs := s.regs, vfe := s.vfe } = s) ∧
  (∀ (n fe b : Nat) (s : State), (s.at n).dueBoundary = some b → (s.get VFE_ILV_CTRL.EST_EN = 0 ∨ s.get VFE_ILV_CTRL.FREEZE = 1) →
    ∃ t, exec (.ilvSetApply n fe) s = .next t ∧ t.vfe.next.find? (·.1 == fe) = none ∧
      { t with now := s.now, pwr.real := s.pwr.real, vfe.next := s.vfe.next } = s) ∧
  (∀ (n fe : Nat) (s : State), (s.at n).dueBoundary = none → ∃ t, exec (.ilvSetApply n fe) s = .next t ∧ onlyTime s t) ∧
  (∀ (n fe : Nat) (v : IlvSolve) (s : State), s.vfe.solving.find? (fun v => v.fe == fe && !v.late) = some v →
    v.since + (if v.tier = 0 then 5 else 10) * msec ≤ (s.at n).now →
    ∃ t, exec (.ilvSolveLate n fe) s = .next t ∧ t.get SOL_EVENTS.MOD_LATE = 1 ∧
      t.get SOL_MOD_LATE.COUNT = (s.get SOL_MOD_LATE.COUNT + 1) % 2 ^ SOL_MOD_LATE.COUNT.width ∧
      (s.held < 62 → t.isActive 0x0901 noInst = true) ∧ t.vfe.solving.find? (fun v => v.fe == fe && !v.late) = none ∧
      t.sys = s.sys ∧ t.fpl = s.fpl ∧ t.nv.cells = s.nv.cells ∧
      onlyFields (SOL_EVENTS.MOD_LATE :: SOL_MOD_LATE.COUNT :: faultFields) s t) ∧
  (∀ (n fe : Nat) (s : State),
    (∀ v ∈ s.vfe.solving, v.fe = fe → v.late = true ∨ (s.at n).now < v.since + 5 * msec) →
    ∃ t, exec (.ilvSolveLate n fe) s = .next t ∧ onlyTime s t)

/-- The rotation of the spare (R198 to R207, R211 to R213): a slot falls due every 2 s from the first offset update of a run on; it begins
the swap of the next front-end with a source, waits for the swap in progress, or is postponed and begins after the calibration; the
shadow's 256 lines end in the takeover with the new match or in a match failure; the readings that pass set the trims and lead to the
comparison; a comparison that passes ends the swap and records the trial; the spare's own trim that passes clears its failures; a
trial that fails again holds the spare on the lane (R208). RELEASE of a held spare in READY gives the lane back, clears fault 0x0503 of
its front-end and records the release (R209); the clearing commands of the front-ends set their counters to 0 (R12). -/
def Obligations.SpareAndFrontEnds : Prop :=
  (∀ (n c : Nat) (s : State), s.rotates = true → s.vfe.slotAt ≤ (s.at n).now → s.get VFE_SPARE_STATE.PHASE = 0 → s.vfe.postponed = false →
    s.swapBarred = false → s.nextChan (s.get VFE_SPARE_STATE.CHAN) = some c →
    ∃ t, exec (.spareSlotDue n) s = .next t ∧ t.get VFE_SPARE_STATE.PHASE = 1 ∧ t.get VFE_SPARE_STATE.CHAN = c ∧
      t.vfe.waiting = false ∧ t.vfe.shadowFrom = (s.at n).now ∧ t.vfe.fit = {} ∧ t.vfe.lines = 0 ∧
      t.vfe.slotAt = s.vfe.slotAt + 2 * sec * (((s.at n).now - s.vfe.slotAt) / (2 * sec) + 1) ∧
      onlyFields [VFE_SPARE_STATE.PHASE, VFE_SPARE_STATE.CHAN, VFE_ROT_TIME.MS, SOL_MOD_BATCHES.COUNT] s t ∧
      { t with now := s.now, pwr.real := s.pwr.real, regs := s.regs, vfe := s.vfe } = s) ∧
  (∀ (n : Nat) (s : State), s.rotates = true → s.vfe.slotAt ≤ (s.at n).now →
    (s.get VFE_SPARE_STATE.PHASE ≠ 0 ∨ s.vfe.postponed = true) →
    ∃ t, exec (.spareSlotDue n) s = .next t ∧ t.vfe.waiting = true ∧
      t.vfe.slotAt = s.vfe.slotAt + 2 * sec * (((s.at n).now - s.vfe.slotAt) / (2 * sec) + 1) ∧
      { t with now := s.now, pwr.real := s.pwr.real, vfe.waiting := s.vfe.waiting, vfe.slotAt := s.vfe.slotAt } = s) ∧
  (∀ (n : Nat) (s : State), s.rotates = true → s.vfe.slotAt ≤ (s.at n).now → s.get VFE_SPARE_STATE.PHASE = 0 → s.vfe.postponed = false →
    s.swapBarred = true →
    ∃ t, exec (.spareSlotDue n) s = .next t ∧ t.get VFE_EVENTS.SWAP_POSTPONED = 1 ∧ t.vfe.postponed = true ∧
      onlyFields [VFE_EVENTS.SWAP_POSTPONED] s t ∧ { t with now := s.now, pwr.real := s.pwr.real, regs := s.regs, vfe := s.vfe } = s) ∧
  (∀ (n : Nat) (s : State), ((s.at n).now < s.vfe.slotAt ∨ s.sys.run = false ∨ s.vfe.started = false) →
    ∃ t, exec (.spareSlotDue n) s = .next t ∧ onlyTime s t) ∧
  (∀ (n b c : Nat) (s : State), (s.at n).postponedFrom = some b → s.vfe.postponed = true → s.rotates = true →
    s.get VFE_SPARE_STATE.PHASE = 0 → s.swapBarred = false → s.nextChan (s.get VFE_SPARE_STATE.CHAN) = some c →
    ∃ t, exec (.sparePostponedStart n) s = .next t ∧ t.get VFE_SPARE_STATE.PHASE = 1 ∧ t.get VFE_SPARE_STATE.CHAN = c ∧
      t.vfe.postponed = false ∧ t.vfe.waiting = s.vfe.waiting ∧ t.vfe.shadowFrom = b ∧
      { t with now := s.now, pwr.real := s.pwr.real, regs := s.regs, vfe := s.vfe } = s) ∧
  (∀ (n : Nat) (s : State), ((s.at n).postponedFrom = none ∨ s.vfe.postponed = false ∨ s.rotates = false ∨ s.swapBarred = true) →
    ∃ t, exec (.sparePostponedStart n) s = .next t ∧ onlyTime s t) ∧
  (∀ (n row : Nat) (own other : List PixelVideo) (u s : State), (s.at n).shadowEnd (joinVideo own other) = some (u, row) →
    s.get VFE_SPARE_STATE.PHASE = 1 →
    u.vfe.fit.matchOk = true →
    ∃ t, exec (.spareShadowDone n own other) s = .next t ∧ t.get VFE_SPARE_STATE.PHASE = 3 ∧ (t.vfe.mofs, t.vfe.mg) = u.vfe.fit.mat ∧
      onlyFields [VFE_SPARE_STATE.PHASE] s t ∧
      { t with now := s.now, pwr.real := s.pwr.real, regs := s.regs, vfe := s.vfe, fpl := s.fpl } = s) ∧
  (∀ (n row : Nat) (own other : List PixelVideo) (u s : State), (s.at n).shadowEnd (joinVideo own other) = some (u, row) →
    s.get VFE_SPARE_STATE.PHASE = 1 →
    u.vfe.fit.matchOk = false →
    ∃ t, exec (.spareShadowDone n own other) s = .next t ∧ t.get VFE_EVENTS.MATCH_FAIL = 1 ∧
      t.get VFE_SPARE_VCS.FAILS = min 2 (s.get VFE_SPARE_VCS.FAILS + 1) ∧ (s.held < 62 → t.isActive 0x0504 noInst = true) ∧
      (1 ≤ s.get VFE_SPARE_VCS.FAILS → t.get VFE_SPARE_STATE.PHASE = 7 ∧ t.get VFE_EVENTS.ROT_HALT = 1) ∧
      t.sys = s.sys ∧ t.fpl = s.fpl ∧ t.nv.cells = s.nv.cells) ∧
  (∀ (n row : Nat) (own other : List PixelVideo) (u s : State), (s.at n).shadowEnd (joinVideo own other) = some (u, row) →
    s.get VFE_SPARE_STATE.PHASE = 6 →
    u.vfe.fit.matchOk = true →
    ∃ t, exec (.spareShadowDone n own other) s = .next t ∧ (t.vfe.mofs, t.vfe.mg) = u.vfe.fit.mat ∧ t.nv.heldMatch = some u.vfe.fit.mat ∧
      t.vfe.rematch = false ∧
      { t with now := s.now, pwr.real := s.pwr.real, vfe := s.vfe, nv.heldMatch := s.nv.heldMatch } = s) ∧
  (∀ (n : Nat) (own other : List PixelVideo) (s : State), (s.at n).shadowEnd (joinVideo own other) = none →
    (∃ t, exec (.spareShadowDone n own other) s = .next t ∧ onlyTime s t) ∧
    ∃ t, exec (.spareReturnShadowDone n own other) s = .next t ∧ onlyTime s t) ∧
  (∀ (n : Nat) (reads : List TrimRead) (s : State), s.get VFE_SPARE_STATE.PHASE = 3 → s.get VFE_SPARE_STATE.CHAN < 32 →
    s.phase3Ok (s.get VFE_SPARE_STATE.CHAN) reads = true →
    ∃ t, exec (.spareTrimDone n reads) s = .next t ∧ t.get VFE_SPARE_STATE.PHASE = 4 ∧
      t.trims (s.get VFE_SPARE_STATE.CHAN) = newTrims reads ∧
      t.vfe.prev = some (s.trims (s.get VFE_SPARE_STATE.CHAN), s.ilv (s.get VFE_SPARE_STATE.CHAN)) ∧
      t.vfe.shadowFrom = (s.at n).now + 10 * us ∧ t.sys = s.sys ∧ t.fpl = s.fpl ∧ t.nv = s.nv) ∧
  (∀ (n : Nat) (reads : List TrimRead) (s : State), s.get VFE_SPARE_STATE.PHASE = 3 → s.get VFE_SPARE_STATE.CHAN < 32 →
    s.phase3Ok (s.get VFE_SPARE_STATE.CHAN) reads = false → s.vfe.fails.contains (s.get VFE_SPARE_STATE.CHAN) = false →
    ∃ t, exec (.spareTrimDone n reads) s = .next t ∧ t.get VFE_SPARE_STATE.PHASE = 4 ∧ t.vfe.failed = true ∧
      t.trims (s.get VFE_SPARE_STATE.CHAN) = s.trims (s.get VFE_SPARE_STATE.CHAN) ∧
      { t with now := s.now, pwr.real := s.pwr.real, regs := s.regs, vfe := s.vfe } = s) ∧
  (∀ (n : Nat) (reads : List TrimRead) (s : State), s.get VFE_SPARE_STATE.PHASE = 3 → s.get VFE_SPARE_STATE.CHAN < 32 →
    s.phase3Ok (s.get VFE_SPARE_STATE.CHAN) reads = false → s.vfe.fails.contains (s.get VFE_SPARE_STATE.CHAN) = true →
    ∃ t, exec (.spareTrimDone n reads) s = .next t ∧ t.get VFE_SPARE_STATE.PHASE = 6 ∧
      t.get VFE_SPARE_STATE.HELD_CHAN = s.get VFE_SPARE_STATE.CHAN ∧ t.get VFE_EVENTS.SPARE_HELD = 1 ∧ t.get VFE_EVENTS.TRIM_FAIL = 1 ∧
      t.nv.heldMatch = some (s.vfe.mofs, s.vfe.mg) ∧
      (s.held < 61 → t.isActive 0x0502 (s.get VFE_SPARE_STATE.CHAN) = true ∧ t.isActive 0x0503 (s.get VFE_SPARE_STATE.CHAN) = true) ∧
      t.sys = s.sys ∧ t.fpl = s.fpl ∧ t.nv.cells = s.nv.cells) ∧
  (∀ (n row : Nat) (own other : List PixelVideo) (u s : State), (s.at n).shadowEnd (joinVideo own other) = some (u, row) →
    s.get VFE_SPARE_STATE.PHASE = 4 →
    s.get VFE_SPARE_STATE.CHAN < 32 → (if u.vfe.fit.n = 0 then Config.freeBool 1 s.free else u.vfe.fit.returnOk) = true →
    ∃ t, exec (.spareReturnShadowDone n own other) s = .next t ∧
      bit (t.get VFE_SPARE_PASS.CHAN) (s.get VFE_SPARE_STATE.CHAN) = b2n (!s.vfe.failed) ∧
      bit (t.get VFE_SPARE_FAIL.CHAN) (s.get VFE_SPARE_STATE.CHAN) = b2n s.vfe.failed ∧
      bit (t.get VFE_SPARE_TRIED.CHAN) (s.get VFE_SPARE_STATE.CHAN) = 1 ∧ t.get VFE_SPARE_LAST.RESULT = (if s.vfe.failed then 2 else 1) ∧
      t.get VFE_SPARE_LAST.CHAN = s.get VFE_SPARE_STATE.CHAN ∧
      (s.get VFE_SPARE_STATE.CHAN ≠ s.lastChan → s.vfe.waiting = false → t.get VFE_SPARE_STATE.PHASE = 0) ∧
      (s.get VFE_SPARE_STATE.CHAN = s.lastChan → t.get VFE_SPARE_STATE.PHASE = 3 ∧ t.get VFE_SPARE_STATE.CHAN = 32) ∧ t.sys = s.sys ∧
      t.nv.cells = s.nv.cells) ∧
  (∀ (n row : Nat) (own other : List PixelVideo) (u s : State), (s.at n).shadowEnd (joinVideo own other) = some (u, row) →
    s.get VFE_SPARE_STATE.PHASE = 4 →
    s.get VFE_SPARE_STATE.CHAN < 32 → (if u.vfe.fit.n = 0 then Config.freeBool 1 s.free else u.vfe.fit.returnOk) = false →
    s.vfe.failed = false → s.vfe.fails.contains (s.get VFE_SPARE_STATE.CHAN) = false →
    ∃ t, exec (.spareReturnShadowDone n own other) s = .next t ∧ t.get VFE_SPARE_STATE.PHASE = 4 ∧ t.vfe.failed = true ∧ t.vfe.lines = 0 ∧
      (∀ p, s.vfe.prev = some p → t.trims (s.get VFE_SPARE_STATE.CHAN) = p.1) ∧ t.sys = s.sys ∧ t.fpl = s.fpl ∧ t.nv = s.nv) ∧
  (∀ (n row : Nat) (own other : List PixelVideo) (u s : State), (s.at n).shadowEnd (joinVideo own other) = some (u, row) →
    s.get VFE_SPARE_STATE.PHASE = 4 →
    s.get VFE_SPARE_STATE.CHAN < 32 → (if u.vfe.fit.n = 0 then Config.freeBool 1 s.free else u.vfe.fit.returnOk) = false →
    (s.vfe.failed = true ∨ s.vfe.fails.contains (s.get VFE_SPARE_STATE.CHAN) = true) →
    ∃ t, exec (.spareReturnShadowDone n own other) s = .next t ∧ t.get VFE_SPARE_STATE.PHASE = 6 ∧
      t.get VFE_SPARE_STATE.HELD_CHAN = s.get VFE_SPARE_STATE.CHAN ∧ t.get VFE_EVENTS.SPARE_HELD = 1 ∧
      t.nv.heldMatch = some (s.vfe.mofs, s.vfe.mg) ∧ (s.held < 61 → t.isActive 0x0503 (s.get VFE_SPARE_STATE.CHAN) = true) ∧
      t.sys = s.sys ∧ t.fpl = s.fpl ∧ t.nv.cells = s.nv.cells) ∧
  (∀ (n : Nat) (reads : List TrimRead) (s : State), s.get VFE_SPARE_STATE.PHASE = 3 → s.get VFE_SPARE_STATE.CHAN = 32 →
    s.phase3Ok 32 reads = true → s.vfe.waiting = false →
    ∃ t, exec (.vcsTrimDone n reads) s = .next t ∧ t.get VFE_SPARE_STATE.PHASE = 0 ∧ t.get VFE_SPARE_VCS.FAILS = 0 ∧
      t.get VFE_SPARE_LAST.CHAN = 32 ∧ t.get VFE_SPARE_LAST.RESULT = 1 ∧ t.trims 32 = newTrims reads ∧ t.sys = s.sys ∧ t.fpl = s.fpl ∧
      t.nv = s.nv) ∧
  (∀ (n : Nat) (reads : List TrimRead) (s : State), s.get VFE_SPARE_STATE.PHASE = 3 → s.get VFE_SPARE_STATE.CHAN = 32 →
    s.phase3Ok 32 reads = false →
    ∃ t, exec (.vcsTrimDone n reads) s = .next t ∧ t.get VFE_SPARE_LAST.CHAN = 32 ∧ t.get VFE_SPARE_LAST.RESULT = 2 ∧
      t.get VFE_SPARE_VCS.FAILS = min 2 (s.get VFE_SPARE_VCS.FAILS + 1) ∧ t.trims 32 = s.trims 32 ∧
      (1 ≤ s.get VFE_SPARE_VCS.FAILS → t.get VFE_SPARE_STATE.PHASE = 7 ∧ (s.held < 62 → t.isActive 0x0505 noInst = true)) ∧
      t.sys = s.sys ∧ t.fpl = s.fpl ∧ t.nv.cells = s.nv.cells) ∧
  (∀ (n : Nat) (s : State), s.takes 0x50600 = true → s.ready = true → s.get VFE_SPARE_STATE.PHASE = 6 →
    ∃ t, exec (.spareRelease n) s = .next t ∧ t.get VFE_SPARE_STATE.PHASE = 0 ∧ t.get VFE_SPARE_STATE.HELD_CHAN = 0x3F ∧
      t.nv.heldMatch = none ∧ (s.alm.unheld = [] → t.isActive 0x0503 (s.get VFE_SPARE_STATE.HELD_CHAN) = false) ∧
      (∃ r : JRec, t.nvs.progs = s.nvs.progs ++ [.journal r none] ∧ r.type = 0x51 ∧
        r.payload = [s.get VFE_SPARE_STATE.HELD_CHAN, 1]) ∧ t.sys = s.sys ∧ t.fpl = s.fpl ∧ t.nv.cells = s.nv.cells) ∧
  (∀ (n : Nat) (s : State), s.takes 0x50600 = true → s.ready = true → s.get VFE_SPARE_STATE.PHASE = 7 →
    ∃ t, exec (.spareRelease n) s = .next t ∧ t.get VFE_SPARE_STATE.PHASE = 0 ∧ t.get VFE_SPARE_VCS.FAILS = 0 ∧
      (s.alm.unheld = [] → t.isActive 0x0505 noInst = false) ∧ t.sys = s.sys ∧ t.fpl = s.fpl ∧ t.nv.cells = s.nv.cells) ∧
  (∀ (n : Nat) (s : State), s.takes 0x50600 = true → s.ready = false →
    ∃ t, exec (.spareRelease n) s = .next t ∧ t.get ENG_LAST_REFUSE.STATUS = 1 ∧
      t.get ENG_LAST_REFUSE.REASON = (if s.imaging then 0x0C else 0x03) ∧ t.vfe = s.vfe ∧ onlyRegs s t) ∧
  (∀ (n : Nat) (s : State), s.takes 0x50804 = true → ∃ t, exec (.vfeClrClip n) s = .next t ∧ t.get VFE_CLAMP_COUNT.COUNT = 0 ∧
    (∀ k, k < 33 → t.get (VFE_CLIPn.COUNT k) = 0) ∧
    onlyFields (VFE_CLAMP_COUNT.COUNT :: (List.range 33).map VFE_CLIPn.COUNT) s t ∧ onlyRegs s t) ∧
  (∀ (n : Nat) (s : State), s.takes 0x50804 = true → ∃ t, exec (.vfeClrSpare n) s = .next t ∧ t.get VFE_SPARE_COUNTS.PASS_TOTAL = 0 ∧
    t.get VFE_SPARE_COUNTS.FAIL_TOTAL = 0 ∧ onlyFields [VFE_SPARE_COUNTS.PASS_TOTAL, VFE_SPARE_COUNTS.FAIL_TOTAL] s t ∧ onlyRegs s t)

/-- The output registers of station 5 are writable outside RUN and LOAD and in RUN refused with COR_EVENTS.REFUSED (R231); its counters
clear (R12); an uncorrectable coefficient makes its pixel bad in the generation read, is counted, and raises fault 0x0603 of its tile,
once (R235). -/
def Obligations.CorrectionRegisters : Prop :=
  (∀ (n v : Nat) (s : State), s.sys.run = false → s.sys.mode ≠ .load →
    (s.takes 0x60004 = true → ∃ t, exec (.corOutputWrite n 0x60004 v) s = .next t ∧ t.get COR_PEDESTAL.PED = v % 2 ^ 16 ∧
      onlyFields [COR_PEDESTAL.PED] s t ∧ onlyRegs s t) ∧
    (s.takes 0x60008 = true → ∃ t, exec (.corOutputWrite n 0x60008 v) s = .next t ∧ t.get COR_OUT_CTRL.GAP_FILL = v % 2 ∧
      onlyFields [COR_OUT_CTRL.GAP_FILL] s t ∧ onlyRegs s t) ∧
    (s.takes 0x6000C = true → ∃ t, exec (.corOutputWrite n 0x6000C v) s = .next t ∧ t.get COR_GAP_VALUE.VALUE = v % 2 ^ 16 ∧
      onlyFields [COR_GAP_VALUE.VALUE] s t ∧ onlyRegs s t)) ∧
  (∀ (n addr v : Nat) (s : State), s.takes addr = true → s.imaging = true → s.sys.run = true →
    ∃ t, exec (.corOutputWrite n addr v) s = .next t ∧ t.get COR_PEDESTAL.PED = s.get COR_PEDESTAL.PED ∧
      t.get COR_OUT_CTRL.GAP_FILL = s.get COR_OUT_CTRL.GAP_FILL ∧ t.get COR_GAP_VALUE.VALUE = s.get COR_GAP_VALUE.VALUE ∧
      t.get COR_EVENTS.REFUSED = 1 ∧ t.get ENG_LAST_REFUSE.STATUS = 1 ∧ t.get ENG_LAST_REFUSE.REASON = 0x0C ∧ onlyRegs s t) ∧
  (∀ (n : Nat) (s : State), s.takes 0x60014 = true → ∃ t, exec (.corClrCounts n) s = .next t ∧
    (∀ k, k < 8 → t.get (COR_SATLOn.COUNT k) = 0 ∧ t.get (COR_SATHIn.COUNT k) = 0 ∧ t.get (COR_GCLAMPn.COUNT k) = 0 ∧
      t.get (COR_REPLACEDn.COUNT k) = 0 ∧ t.get (COR_ORPHANn.COUNT k) = 0 ∧ t.get (COR_DTSATn.COUNT k) = 0 ∧
      t.get (COR_ECCn.COUNT k) = 0 ∧ t.get (COR_BADn.COUNT k) = s.get (COR_BADn.COUNT k)) ∧ onlyRegs s t) ∧
  (∀ (n tile row col : Nat) (s : State), tile < 8 → (s.readGen, tile, row, col) ∉ s.cor.ecc →
    ∃ t, exec (.coefEccError n tile row col) s = .next t ∧ t.cor.ecc = (s.readGen, tile, row, col) :: s.cor.ecc ∧
      t.get (COR_ECCn.COUNT tile) = (s.get (COR_ECCn.COUNT tile) + 1) % 2 ^ 32 ∧ t.get COR_EVENTS.COEF_ECC = 1 ∧
      (s.held < 62 → t.isActive 0x0603 tile = true) ∧ t.sys = s.sys ∧ t.cal = s.cal ∧ t.fpl = s.fpl ∧ t.nv.cells = s.nv.cells ∧
      onlyFields (COR_ECCn.COUNT tile :: COR_EVENTS.COEF_ECC :: faultFields) s t) ∧
  (∀ (n tile row col : Nat) (s : State), (s.readGen, tile, row, col) ∈ s.cor.ecc →
    ∃ t, exec (.coefEccError n tile row col) s = .next t ∧ onlyTime s t)

/-! ### Sweep acquisition, scans, strips and edges -/

/-- The encoder (R279 to R285): an edge accepted on its channel moves the position by one in the sense that counts up or down, with the
new level shown; a quadrature error and a lost signal clear REFERENCED, are shown and raise faults 0x0801 and 0x0802, which the signal
restored for 1 ms clears; nothing counts where the encoder is not live or a level has not stood for FILT phases; a rise of the index level in
forward travel in INDEX_MODE 2 latches the position and, outside a scan, zeroes it, and so does ZERO, refused in a scan; SWP_LINE_CPL
takes a value other than 0 outside RUN (R284). -/
def Obligations.EncoderEvents : Prop :=
  (∀ (n : Nat) (up : Bool) (s : State), s.encLive = true →
    (s.at n).filtOk (if countOnA (s.get SWP_ENC_STATUS.LEVELS) up then s.swp.aAt else s.swp.bAt) = true →
    ∃ t, exec (.encoderCount n up) s = .next t ∧
      t.encPos = signed 64 (unsigned 64 (s.encPos + (if up != s.on SWP_ENC_CTRL.DIR_INV then 1 else -1))) ∧
      t.get SWP_ENC_STATUS.LEVELS = quadNext (s.get SWP_ENC_STATUS.LEVELS) up ∧
      t.swp.aAt = (if countOnA (s.get SWP_ENC_STATUS.LEVELS) up then some (s.at n).now else s.swp.aAt) ∧
      t.swp.bAt = (if countOnA (s.get SWP_ENC_STATUS.LEVELS) up then s.swp.bAt else some (s.at n).now) ∧
      onlyFields ([SWP_ENC_STATUS.LEVELS, SWP_ENC_STATUS.DIR, SWP_ENC_POS_LO.POS, SWP_ENC_POS_HI.POS] ++
        (if s.scanning then [SWP_ALIGN_STATUS.DEPTH, SWP_REV_COUNT.COUNT, SWP_EVENTS.REVERSAL] else [])) s t ∧
      { t with now := s.now, pwr.real := s.pwr.real, regs := s.regs, swp := s.swp } = s) ∧
  (∀ (n : Nat) (up : Bool) (s : State), (s.encLive = false ∨
    (s.at n).filtOk (if countOnA (s.get SWP_ENC_STATUS.LEVELS) up then s.swp.aAt else s.swp.bAt) = false) →
    ∃ t, exec (.encoderCount n up) s = .next t ∧ onlyTime s t) ∧
  (∀ (n : Nat) (s : State), s.encLive = true → (s.at n).filtOk s.swp.aAt = true → (s.at n).filtOk s.swp.bAt = true →
    ∃ t, exec (.encoderQerr n) s = .next t ∧ t.get SWP_EVENTS.QERR = 1 ∧ t.get SWP_ENC_STATUS.REFERENCED = 0 ∧
      t.get SWP_ENC_STATUS.LEVELS = s.get SWP_ENC_STATUS.LEVELS ^^^ 3 ∧
      t.get SWP_ENC_QERR_COUNT.COUNT = (s.get SWP_ENC_QERR_COUNT.COUNT + 1) % 2 ^ 32 ∧
      (s.held < 62 → t.isActive 0x0801 noInst = true) ∧ t.encPos = s.encPos ∧ (s.scanning = true → t.swp.run = false ∧ t.swp.rows = []) ∧
      t.sys = s.sys ∧ t.fpl = s.fpl ∧ t.nv.cells = s.nv.cells) ∧
  (∀ (n : Nat) (s : State), (s.encLive = false ∨ (s.at n).filtOk s.swp.aAt = false ∨ (s.at n).filtOk s.swp.bAt = false) →
    ∃ t, exec (.encoderQerr n) s = .next t ∧ onlyTime s t) ∧
  (∀ (n : Nat) (s : State), s.get SWP_ENC_STATUS.SIG_OK = 1 →
    ∃ t, exec (.encoderSignalLoss n) s = .next t ∧ t.get SWP_ENC_STATUS.SIG_OK = 0 ∧ t.get SWP_EVENTS.SIGLOSS = 1 ∧
      t.get SWP_ENC_STATUS.REFERENCED = 0 ∧ (s.held < 62 → t.isActive 0x0802 noInst = true) ∧ t.encPos = s.encPos ∧
      (s.scanning = true → t.swp.run = false ∧ t.swp.rows = []) ∧ t.sys = s.sys ∧ t.fpl = s.fpl ∧ t.nv.cells = s.nv.cells) ∧
  (∀ (n : Nat) (s : State), (∀ a, s.swp.lossAt = some a → a + msec ≤ (s.at n).now) →
    ∃ t, exec (.encoderSignalRestored n) s = .next t ∧ t.get SWP_ENC_STATUS.SIG_OK = 1 ∧
      (s.alm.unheld = [] → t.isActive 0x0802 noInst = false) ∧ t.swp = s.swp ∧ t.sys = s.sys ∧ t.nv.cells = s.nv.cells ∧
      onlyFields (SWP_ENC_STATUS.SIG_OK :: faultFields) s t) ∧
  (∀ (n a : Nat) (s : State), s.swp.lossAt = some a → (s.at n).now < a + msec →
    ∃ t, exec (.encoderSignalRestored n) s = .next t ∧ onlyTime s t) ∧
  (∀ (n : Nat) (s : State), s.get PWR_STATUS.STATE ≤ 1 → bit (s.get SWP_ENC_STATUS.LEVELS) 2 = 0 → (s.at n).filtOk s.swp.iAt = true →
    s.get SWP_ENC_STATUS.DIR = 0 → s.get SWP_ENC_CTRL.INDEX_MODE = 2 →
    ∃ t, exec (.encoderIndex n) s = .next t ∧ bit (t.get SWP_ENC_STATUS.LEVELS) 2 = 1 ∧ t.swp.iAt = some (s.at n).now ∧
      t.get64 SWP_ENC_INDEX_LO.POS SWP_ENC_INDEX_HI.POS = unsigned 64 s.encPos ∧
      (s.get SWP_SCAN_STATE.STATE ≤ 1 → t.encPos = 0 ∧ t.get SWP_ENC_STATUS.REFERENCED = 1) ∧
      (1 < s.get SWP_SCAN_STATE.STATE → t.encPos = s.encPos) ∧ t.sys = s.sys ∧ t.fpl = s.fpl ∧ t.nv = s.nv) ∧
  (∀ (n : Nat) (s : State), s.get PWR_STATUS.STATE ≤ 1 → bit (s.get SWP_ENC_STATUS.LEVELS) 2 = 1 → (s.at n).filtOk s.swp.iAt = true →
    ∃ t, exec (.encoderIndex n) s = .next t ∧ bit (t.get SWP_ENC_STATUS.LEVELS) 2 = 0 ∧ t.swp.iAt = some (s.at n).now ∧
      onlyFields [SWP_ENC_STATUS.LEVELS] s t ∧ { t with now := s.now, pwr.real := s.pwr.real, regs := s.regs, swp := s.swp } = s) ∧
  (∀ (n : Nat) (s : State), (1 < s.get PWR_STATUS.STATE ∨ (s.at n).filtOk s.swp.iAt = false) →
    ∃ t, exec (.encoderIndex n) s = .next t ∧ onlyTime s t) ∧
  (∀ (n : Nat) (s : State), s.takes 0x80020 = true → s.get SWP_SCAN_STATE.STATE ≤ 1 →
    ∃ t, exec (.encoderZero n) s = .next t ∧ t.encPos = 0 ∧ t.get SWP_ENC_STATUS.REFERENCED = 1 ∧
      onlyFields [SWP_ENC_POS_LO.POS, SWP_ENC_POS_HI.POS, SWP_ENC_STATUS.REFERENCED] s t ∧
      { t with now := s.now, pwr.real := s.pwr.real, regs := s.regs, swp := s.swp } = s) ∧
  (∀ (n : Nat) (s : State), s.takes 0x80020 = true → 1 < s.get SWP_SCAN_STATE.STATE →
    ∃ t, exec (.encoderZero n) s = .next t ∧ t.encPos = s.encPos ∧ t.get ENG_LAST_REFUSE.STATUS = 1 ∧ onlyRegs s t) ∧
  (∀ (n v : Nat) (s : State), s.takes 0x80040 = true → s.sys.mode ≠ .load → s.sys.run = false → v % 2 ^ 16 ≠ 0 →
    ∃ t, exec (.swpLineCplWrite n v) s = .next t ∧ t.get SWP_LINE_CPL.CPL = v % 2 ^ 16 ∧ onlyFields [SWP_LINE_CPL.CPL] s t ∧
      onlyRegs s t) ∧
  (∀ (n v : Nat) (s : State), s.takes 0x80040 = true → s.sys.mode ≠ .load → (s.sys.run = true ∨ v % 2 ^ 16 = 0) →
    ∃ t, exec (.swpLineCplWrite n v) s = .next t ∧ t.get SWP_LINE_CPL.CPL = s.get SWP_LINE_CPL.CPL ∧ t.get ENG_LAST_REFUSE.STATUS = 1 ∧
      t.get ENG_LAST_REFUSE.REASON = (if s.sys.run then 0x0C else 0x0D) ∧ onlyRegs s t)

/-- A scan (R290 to R294): ARM with a good layout in SWEEP arms it with its origin source, and is else refused with its reason; at its
origin in RUN it starts, with its number, its origin and the request of raw line 0; END from ARMED ends it with LAST_END 4, and during a
scan asks for its end; the event that ends a scan leaves IDLE with that outcome and makes the record due, and one line period after a
host END with no more line requested the scan ends with LAST_END 2. The counters of the sweep clear (R12). -/
def Obligations.ScanLifecycle : Prop :=
  (∀ (n : Nat) (s : State), s.takes 0x8011C = true → s.sys.mode = .sweep → s.get SWP_SCAN_STATE.STATE = 0 → s.layoutOk = true →
    ∃ t, exec (.scanArm n) s = .next t ∧ t.get SWP_SCAN_STATE.STATE = 1 ∧ t.swp.startAt = none ∧ t.swp.hostEnd = none ∧
      t.swp.armSrc = s.get SWP_SCAN_CTRL.START_SRC ∧ t.swp.armO = signed 64 (unsigned 64 (s.encPos + s.get SWP_LINE_CPL.CPL)) ∧
      onlyFields [SWP_SCAN_STATE.STATE] s t ∧ { t with now := s.now, pwr.real := s.pwr.real, regs := s.regs, swp := s.swp } = s) ∧
  (∀ (n : Nat) (s : State), s.takes 0x8011C = true → (s.sys.mode ≠ .sweep ∨ s.get SWP_SCAN_STATE.STATE ≠ 0 ∨ s.layoutOk = false) →
    ∃ t, exec (.scanArm n) s = .next t ∧ t.get SWP_SCAN_STATE.STATE = s.get SWP_SCAN_STATE.STATE ∧ t.get SWP_EVENTS.ARM_REFUSED = 1 ∧
      t.get SWP_SCAN_STATE.ARM_REFUSE = (if s.sys.mode ≠ .sweep then 1 else if s.get SWP_SCAN_STATE.STATE ≠ 0 then 3 else 2) ∧
      t.get ENG_LAST_REFUSE.STATUS = 1 ∧ onlyRegs s t) ∧
  (∀ (n a : Nat) (o : Int) (s : State), s.swp.startAt = some (o, a) → s.get SWP_SCAN_STATE.STATE = 1 → s.sys.run = true →
    ∃ t, exec (.scanStart n) s = .next t ∧ t.get SWP_SCAN_STATE.STATE = 2 ∧
      t.get SWP_SCAN_NO.NUMBER = (s.get SWP_SCAN_NO.NUMBER + 1) % 2 ^ 32 ∧ t.get64 SWP_SCAN_O_LO.POS SWP_SCAN_O_HI.POS = unsigned 64 o ∧
      t.swp.reqs = [(0, a, true)] ∧ t.swp.run = true ∧ t.swp.high = none ∧ t.get SWP_REF_STATUS.PASS = 0 ∧
      { t with now := s.now, pwr.real := s.pwr.real, regs := s.regs, swp := s.swp } = s) ∧
  (∀ (n : Nat) (s : State), (s.swp.startAt = none ∨ s.get SWP_SCAN_STATE.STATE ≠ 1 ∨ s.sys.run = false) →
    ∃ t, exec (.scanStart n) s = .next t ∧ onlyTime s t) ∧
  (∀ (n : Nat) (s : State), s.takes 0x8011C = true → s.get SWP_SCAN_STATE.STATE = 1 →
    ∃ t, exec (.scanEndCmd n) s = .next t ∧ t.get SWP_SCAN_STATE.STATE = 0 ∧ t.get SWP_SCAN_STATE.LAST_END = 4 ∧
      t.get SWP_EVENTS.SCAN_DONE = 1 ∧ t.swp.startAt = none ∧
      onlyFields [SWP_SCAN_STATE.STATE, SWP_SCAN_STATE.LAST_END, SWP_EVENTS.SCAN_DONE] s t ∧
      { t with now := s.now, pwr.real := s.pwr.real, regs := s.regs, swp := s.swp } = s) ∧
  (∀ (n : Nat) (s : State), s.takes 0x8011C = true → s.scanning = true → s.swp.hostEnd = none → s.swp.endDue = none →
    ∃ t, exec (.scanEndCmd n) s = .next t ∧ t = { s.at n with swp.hostEnd := some ((s.at n).now) }) ∧
  (∀ (n c : Nat) (s : State), s.scanning = true → s.swp.endDue = some c → c < 8 →
    ∃ t, exec (.scanEnd n) s = .next t ∧ t.get SWP_SCAN_STATE.STATE = 0 ∧ t.get SWP_SCAN_STATE.LAST_END = c ∧
      t.get SWP_EVENTS.SCAN_DONE = 1 ∧ t.swp.fitDue = some (c, none) ∧ t.swp.reqs = [] ∧ t.swp.run = false ∧ t.sys = s.sys ∧
      t.nv.cells = s.nv.cells) ∧
  (∀ (n a : Nat) (s : State), s.scanning = true → s.swp.endDue = none → s.swp.hostEnd = some a →
    a + 16 * s.get SWP_ACT_NOMPER.NOMPER ≤ (s.at n).now →
    ∃ t, exec (.scanEnd n) s = .next t ∧ t.get SWP_SCAN_STATE.STATE = 0 ∧ t.get SWP_SCAN_STATE.LAST_END = 2 ∧
      t.get SWP_EVENTS.SCAN_DONE = 1 ∧ t.swp.fitDue = some (2, none) ∧ t.swp.reqs = [] ∧ t.swp.run = false ∧ t.sys = s.sys ∧
      t.nv.cells = s.nv.cells) ∧
  (∀ (n : Nat) (s : State), (s.scanning = false ∨ s.swp.endDue = none ∧ s.swp.hostEnd = none) →
    ∃ t, exec (.scanEnd n) s = .next t ∧ onlyTime s t) ∧
  (∀ (n : Nat) (s : State), s.takes 0x80138 = true → ∃ t, exec (.swpClrCounts n) s = .next t ∧
    (∀ f ∈ [SWP_ENC_QERR_COUNT.COUNT, SWP_REV_COUNT.COUNT, SWP_REVLINE_COUNT.COUNT, SWP_SKIP_COUNT.COUNT, SWP_REPEAT_COUNT.COUNT,
      SWP_GAPLINE_COUNT.COUNT], t.get f = 0) ∧
    onlyFields [SWP_ENC_QERR_COUNT.COUNT, SWP_REV_COUNT.COUNT, SWP_REVLINE_COUNT.COUNT, SWP_SKIP_COUNT.COUNT, SWP_REPEAT_COUNT.COUNT,
      SWP_GAPLINE_COUNT.COUNT] s t ∧ onlyRegs s t)

/-- The lines of a scan (R287 to R289, R294, R297): a requested boundary that comes too early for the frame before is an overrun, counted,
with fault 0x0408; one that may be taken begins its raw line at the first REFTICK edge at least 100 ns after its count; a raw line read
joins the delay lines of its forward run, a raw line read in reverse is discarded, and the raw line that completes an object line above
the high-water mark emits it.
EDGE and the scan record (R321 to R324): the fits of an ended scan are shown and make its record of 384 bytes due; the record that is
due stands in SWP_SCANREC_WORDi. -/
def Obligations.ScanLinesAndRecord : Prop :=
  (∀ (n i c : Nat) (fwd : Bool) (rest : List (Nat × Nat × Bool)) (s : State), s.sys.mode ≠ .characterise → s.sys.run = true →
    s.sys.stopAt = none → s.swp.reqs = (i, c, fwd) :: rest → tickAfter c ≤ (s.at n).now → s.lineOverrun (tickAfter c) = true →
    ∃ t, exec (.lineBoundary n) s = .next t ∧ t.swp.reqs = rest ∧ t.get FPL_EVENTS.OVERRUN = 1 ∧
      t.get FPL_OVERRUN_COUNT.COUNT = (s.get FPL_OVERRUN_COUNT.COUNT + 1) % 2 ^ FPL_OVERRUN_COUNT.COUNT.width ∧
      (s.held < 62 → t.isActive 0x0408 noInst = true) ∧ t.fpl = s.fpl ∧ t.sys = s.sys ∧ t.nv.cells = s.nv.cells) ∧
  (∀ (n i c : Nat) (fwd : Bool) (rest : List (Nat × Nat × Bool)) (s : State), s.sys.mode ≠ .characterise → s.sys.run = true →
    s.sys.stopAt = none → s.swp.reqs = (i, c, fwd) :: rest → tickAfter c ≤ (s.at n).now → s.lineOverrun (tickAfter c) = false →
    ∃ t l r, exec (.lineBoundary n) s = .next t ∧ t.swp.reqs = rest ∧ t.fpl.frames = l ++ [r] ∧ l.length = s.fpl.frames.length ∧
      r.line = true ∧ r.index = (i : Int) ∧ r.boundary = tickAfter c ∧ (r.drop = .reverse ↔ fwd = false) ∧ t.fpl.lastB = some (tickAfter c) ∧
      t.sys = s.sys ∧ t.nv.cells = s.nv.cells) ∧
  (∀ (n : Nat) (s : State), s.sys.mode ≠ .characterise → (s.swp.reqs = [] ∨ s.sys.run = false) →
    ∃ t, exec (.lineBoundary n) s = .next t ∧ onlyTime s t) ∧
  (∀ (n : Nat) (r : FrameRec) (l : List FrameRec) (s : State), s.sys.mode ≠ .characterise → s.fpl.frames = r :: l → r.line = true →
    r.lastSample.isSome = true → r.drop = .reverse →
    ∃ t, exec (.outputLineEmit n) s = .next t ∧ t = { s.at n with fpl.frames := l }) ∧
  (∀ (n : Nat) (r : FrameRec) (l : List FrameRec) (s : State), s.sys.mode ≠ .characterise → s.fpl.frames = r :: l → r.line = true →
    r.lastSample.isSome = true → r.drop ≠ .reverse → s.scanning = true → s.swp.run = true → r.run = s.swp.runNo → r.index.toNat < 24 →
    ∃ t, exec (.outputLineEmit n) s = .next t ∧ t.fpl.frames = l ∧ t.swp.rows = s.swp.rows ++ [r] ∧
      t.get SWP_ALIGN_STATUS.DEPTH = min 24 (s.swp.rows.length + 1) ∧ onlyFields [SWP_ALIGN_STATUS.DEPTH] s t ∧
      { t with now := s.now, pwr.real := s.pwr.real, regs := s.regs, fpl := s.fpl, swp := s.swp } = s) ∧
  (∀ (n j : Nat) (r : FrameRec) (l rows : List FrameRec) (s : State), s.sys.mode ≠ .characterise → s.fpl.frames = r :: l → r.line = true →
    r.lastSample.isSome = true → r.drop ≠ .reverse → s.scanning = true → s.swp.run = true → r.run = s.swp.runNo → r.index.toNat = j + 24 →
    { s with swp.rows := s.swp.rows ++ [r] }.fourLines j = some rows → j ∉ s.swp.dropped → s.inObject j = true →
    s.inRegion false j = false → s.inRegion true j = false → s.swp.high.all (· < j) = true →
    ∃ t o, exec (.outputLineEmit n) s = .next t ∧ t.fpl.frames = l ∧ t.swp.outq = s.swp.outq ++ [o] ∧ o.j = j ∧ t.swp.high = some j ∧
      t.get SWP_HIGHWATER.INDEX = j % 2 ^ 32 ∧ t.sys = s.sys ∧ t.nv.cells = s.nv.cells) ∧
  (∀ (n code : Nat) (d : Option ScanS) (s : State), s.swp.fitDue = some (code, d) → (stageOf s.image 0x25).isSome = true →
    ∃ t b, exec (.edgeFitDone n) s = .next t ∧ t.swp.fitDue = none ∧ t.swp.recDue = some b ∧ b.length = 384 ∧
      t.get SWP_EDGE_STATUS.LEAD_VALID = b2n (s.edgeFits s.scanData).1.lead.valid ∧
      t.get SWP_EDGE_STATUS.SIDE_VALID = b2n (s.edgeFits s.scanData).1.side.valid ∧
      { t with now := s.now, pwr.real := s.pwr.real, regs := s.regs, swp := s.swp } = s) ∧
  (∀ (n : Nat) (s : State), (s.swp.fitDue = none ∨ (stageOf s.image 0x25).isNone = true) →
    ∃ t, exec (.edgeFitDone n) s = .next t ∧ onlyTime s t) ∧
  (∀ (n : Nat) (b : List Nat) (s : State), s.recordDue = some b →
    ∃ t, exec (.scanRecord n) s = .next t ∧ t.swp.recDue = none ∧
      (∀ i, i < 96 → t.get (SWP_SCANREC_WORDi.BYTES i) = leVal ((b.drop (4 * i)).take 4) % 2 ^ 32) ∧ t.sys = s.sys ∧ t.fpl = s.fpl ∧
      t.nv.cells = s.nv.cells) ∧
  (∀ (n : Nat) (s : State), s.recordDue = none → ∃ t, exec (.scanRecord n) s = .next t ∧ onlyTime s t)

/-- The reference strips (R305 to R311, R544): a due computation begins with the generation committed then; a pass with too few lines of
both strips ends with RESULT 3 and fault 0x0812; one whose checks fail with RESULT 2 and fault 0x0810; one whose checks hold and of which
some tile passed makes a generation of source 4; heaters driven for 300 s without READY raise 0x0813, once; an overcurrent turns its
heater off, and its restart, 1 s later or more, lets it be driven again. -/
def Obligations.StripsAndHeaters : Prop :=
  (∀ (n : Nat) (s : State), s.swp.computeDue = true → s.swp.computed = false → s.get SWP_REF_STATUS.PASS ≠ 3 →
    ∃ t, exec (.stripComputeStart n) s = .next t ∧ t.get SWP_REF_STATUS.PASS = 3 ∧ t.swp.computed = true ∧ t.swp.computeDue = false ∧
      t.swp.startGen = s.cal.newest ∧ onlyFields [SWP_REF_STATUS.PASS] s t ∧
      { t with now := s.now, pwr.real := s.pwr.real, regs := s.regs, swp := s.swp } = s) ∧
  (∀ (n : Nat) (s : State), (s.swp.computeDue = false ∨ s.swp.computed = true ∨ s.get SWP_REF_STATUS.PASS = 3) →
    ∃ t, exec (.stripComputeStart n) s = .next t ∧ onlyTime s t) ∧
  (∀ (n : Nat) (s : State), s.get SWP_REF_STATUS.PASS ≠ 3 → ∃ t, exec (.stripPassCommit n) s = .next t ∧ onlyTime s t) ∧
  (∀ (n : Nat) (s : State), s.get SWP_REF_STATUS.PASS = 3 → s.fewLines false = true → s.fewLines true = true →
    ∃ t, exec (.stripPassCommit n) s = .next t ∧ t.get SWP_REF_STATUS.PASS = 0 ∧ t.get SWP_REF_LAST.RESULT = 3 ∧
      t.get SWP_REF_EVENTS.FEW_LINES = 1 ∧ (s.held < 62 → t.isActive 0x0812 noInst = true) ∧ t.cal = s.cal ∧ t.swp = s.swp ∧
      t.sys = s.sys ∧ t.nv.cells = s.nv.cells) ∧
  (∀ (n : Nat) (s : State), s.get SWP_REF_STATUS.PASS = 3 → (s.fewLines false && s.fewLines true) = false →
    s.passOk s.swp.dark.tb s.swp.bright.tb = false →
    ∃ t, exec (.stripPassCommit n) s = .next t ∧ t.get SWP_REF_STATUS.PASS = 0 ∧ t.get SWP_REF_LAST.RESULT = 2 ∧
      t.get SWP_REF_EVENTS.PASS_REJECT = 1 ∧
      t.get SWP_REF_REJECT_COUNT.COUNT = (s.get SWP_REF_REJECT_COUNT.COUNT + 1) % 2 ^ SWP_REF_REJECT_COUNT.COUNT.width ∧
      (s.held < 61 → t.isActive 0x0810 noInst = true) ∧ t.cal = s.cal ∧ t.swp = s.swp ∧ t.sys = s.sys ∧ t.nv.cells = s.nv.cells) ∧
  (∀ (n : Nat) (s : State), s.get SWP_REF_STATUS.PASS = 3 → (s.fewLines false && s.fewLines true) = false →
    s.passOk s.swp.dark.tb s.swp.bright.tb = true →
    ((if s.fewLines false then s.swp.bright else s.swp.dark).tiles.any fun k =>
      (s.stripTile s.swp.dark.tb k).darkOk || (s.stripTile s.swp.dark.tb k).brightOk) = true →
    ∃ t, exec (.stripPassCommit n) s = .next t ∧ t.get SWP_REF_STATUS.PASS = 0 ∧ t.get SWP_REF_LAST.RESULT = 1 ∧
      t.get SWP_REF_EVENTS.PASS_DONE = 1 ∧ t.cal.newest.no = (s.cal.newest.no + 1) % 2 ^ 32 ∧ t.cal.newest.source = 4 ∧
      t.get CAL_GEN_COMMITTED.GEN = t.cal.newest.no ∧ t.swp.scan.stripOk = true ∧ t.cal.force = s.cal.force ∧ t.sys = s.sys ∧
      t.fpl = s.fpl ∧ t.nv.cells = s.nv.cells) ∧
  (∀ (n a : Nat) (s : State), s.swp.drivenAt = some a → a + 300 * sec ≤ (s.at n).now → s.swp.heatJudged = false →
    ∃ t, exec (.refHeaterTimeout n) s = .next t ∧ t.get SWP_REF_EVENTS.NOT_READY = 1 ∧ (s.held < 62 → t.isActive 0x0813 noInst = true) ∧
      t.swp = { s.swp with heatJudged := true } ∧ t.sys = s.sys ∧ t.nv.cells = s.nv.cells ∧
      onlyFields (SWP_REF_EVENTS.NOT_READY :: faultFields) s t) ∧
  (∀ (n : Nat) (s : State), ((∀ a, s.swp.drivenAt = some a → (s.at n).now < a + 300 * sec) ∨ s.swp.heatJudged = true) →
    ∃ t, exec (.refHeaterTimeout n) s = .next t ∧ onlyTime s t) ∧
  (∀ (n : Nat) (s : State), s.get SWP_REF_STATUS.HEAT_BR = 1 →
    ∃ t, exec (.heaterOvercurrent n true) s = .next t ∧ t.swp.offBr = true ∧ t.swp.brOffAt = (s.at n).now ∧ t.get SWP_REF_STATUS.HEAT_BR = 0 ∧
      t.get SWP_REF_HEAT.DUTY_BR = 0 ∧ t.swp.offDk = s.swp.offDk ∧ t.sys = s.sys ∧ t.nv.cells = s.nv.cells) ∧
  (∀ (n : Nat) (s : State), s.get SWP_REF_STATUS.HEAT_DK = 1 →
    ∃ t, exec (.heaterOvercurrent n false) s = .next t ∧ t.swp.offDk = true ∧ t.swp.dkOffAt = (s.at n).now ∧ t.get SWP_REF_STATUS.HEAT_DK = 0 ∧
      t.get SWP_REF_HEAT.DUTY_DK = 0 ∧ t.swp.offBr = s.swp.offBr ∧ t.sys = s.sys ∧ t.nv.cells = s.nv.cells) ∧
  (∀ (n : Nat) (s : State), s.swp.offBr = true → s.swp.brOffAt + sec ≤ (s.at n).now →
    ∃ t, exec (.heaterRestart n true) s = .next t ∧ t.swp.offBr = false ∧ t.swp.offDk = s.swp.offDk ∧
    t.get SWP_REF_STATUS.HEAT_BR = b2n (s.heatMay && !s.stripBlind true) ∧ t.sys = s.sys ∧ t.nv.cells = s.nv.cells) ∧
  (∀ (n : Nat) (s : State), s.swp.offDk = true → s.swp.dkOffAt + sec ≤ (s.at n).now →
    ∃ t, exec (.heaterRestart n false) s = .next t ∧ t.swp.offDk = false ∧ t.swp.offBr = s.swp.offBr ∧
    t.get SWP_REF_STATUS.HEAT_DK = b2n (s.heatMay && s.on SWP_REF_CTRL.DK_HOLD && s.get SWP_REF_DK_SET.T ≠ 0 && !s.stripBlind false) ∧
    t.sys = s.sys ∧ t.nv.cells = s.nv.cells)

/-! ### The solver -/

/-- The solver's batches (R357, R363 to R371): a system of the running batch that ends joins the ended ones, its record stands in the
window and it is counted; one with an uncorrectable error ends cut, with fault 0x0902; a system that has not begun, or has ended,
changes nothing; a deadline cuts what has not ended; a batch whose systems have all ended leaves with outcome DONE, and under a commit
policy the other half of its commit block is selected. The counters clear (R12). -/
def Obligations.SolverBatches : Prop :=
  (∀ (n i tier : Nat) (b : SolBatch) (rest : List SolBatch) (s : State), s.sol.batches = b :: rest → b.slot < 8 → b.tier = some tier →
    i < (descAt s.sol.win b.off).count → i ∉ b.ended →
    i < b.ended.length + (if (descAt s.sol.win b.off).kind = 5 then 1 else 64) →
    ∃ t, exec (.solSystemEnd n i false) s = .next t ∧ t.sol.batches.head?.map (·.ended) = some (i :: b.ended) ∧
      t.sol.win = s.sol.win.store ((descAt s.sol.win b.off).outOff + i * (descAt s.sol.win b.off).outStride)
        (resultRecord (descAt s.sol.win b.off) s.image (solSystem s.sol.win (descAt s.sol.win b.off) s.image tier i none)) ∧
      t.get SOL_HOST_SYSTEMS.COUNT = (s.get SOL_HOST_SYSTEMS.COUNT + 1) % 2 ^ SOL_HOST_SYSTEMS.COUNT.width ∧
      t.get (OP_RESULT_w.WORD b.slot 2) = (b.ended.length + 1) % 2 ^ 32 ∧
      { t with now := s.now, pwr.real := s.pwr.real, regs := s.regs, sol := s.sol } = s) ∧
  (∀ (n i tier : Nat) (b : SolBatch) (rest : List SolBatch) (s : State), s.sol.batches = b :: rest → b.slot < 8 → b.tier = some tier →
    i < (descAt s.sol.win b.off).count → i ∉ b.ended →
    i < b.ended.length + (if (descAt s.sol.win b.off).kind = 5 then 1 else 64) →
    ∃ t, exec (.solSystemEnd n i true) s = .next t ∧ t.sol.batches.head?.map (·.ended) = some (i :: b.ended) ∧
      t.sol.batches.head?.map (·.cutN) = some (b.cutN + 1) ∧ t.get SOL_EVENTS.ECC = 1 ∧
      (s.held < 62 → t.isActive 0x0902 noInst = true) ∧ t.sys = s.sys ∧ t.ops = s.ops ∧ t.nv.cells = s.nv.cells) ∧
  (∀ (n i : Nat) (ecc : Bool) (s : State), (∀ b rest, s.sol.batches = b :: rest → b.tier = none ∨ (descAt s.sol.win b.off).count ≤ i ∨
      i ∈ b.ended ∨ b.ended.length + (if (descAt s.sol.win b.off).kind = 5 then 1 else 64) ≤ i) →
    ∃ t, exec (.solSystemEnd n i ecc) s = .next t ∧ onlyTime s t) ∧
  (∀ (n d : Nat) (b : SolBatch) (cuts : List SolCut) (s : State), s.sol.batches = [b] → b.dl = some d → d ≤ (s.at n).now → b.hit = false →
    b.ended.length < (descAt s.sol.win b.off).count →
    ∃ t b', exec (.solDeadline n cuts) s = .next t ∧ t.sol.batches = [b'] ∧ b'.hit = true ∧ b'.slot = b.slot ∧
      b'.ended.length = b.ended.length + (unended (descAt s.sol.win b.off).count b.ended).length ∧ t.get SOL_EVENTS.DEADLINE = 1 ∧
      { t with now := s.now, pwr.real := s.pwr.real, regs := s.regs, sol := s.sol } = s) ∧
  (∀ (n : Nat) (cuts : List SolCut) (s : State), (∀ b ∈ s.sol.batches, b.hit = true ∨ ∀ d, b.dl = some d → (s.at n).now < d) →
    ∃ t, exec (.solDeadline n cuts) s = .next t ∧ onlyTime s t) ∧
  (∀ (n : Nat) (b : SolBatch) (s : State), s.sol.batches = [b] → b.slot < 8 → s.ops.slots.length = 8 →
    b.ended.length = (descAt s.sol.win b.off).count →
    ∃ t, exec (.solBatchCommit n) s = .next t ∧ t.sol.batches = [] ∧ (t.opx b.slot).outcome = some 3 ∧
      ((descAt s.sol.win b.off).policy = 0 → t.sol.win = s.sol.win) ∧
      ((descAt s.sol.win b.off).policy ≠ 0 →
        t.sol.win.le (descAt s.sol.win b.off).commit 4 = 1 - s.sol.win.le (descAt s.sol.win b.off).commit 4 % 2) ∧
      t.get SOL_HOST_BATCHES.COUNT = (s.get SOL_HOST_BATCHES.COUNT + 1) % 2 ^ SOL_HOST_BATCHES.COUNT.width ∧ t.sys = s.sys ∧ t.nv = s.nv) ∧
  (∀ (n : Nat) (s : State), (∀ b ∈ s.sol.batches, b.ended.length ≠ (descAt s.sol.win b.off).count) →
    ∃ t, exec (.solBatchCommit n) s = .next t ∧ onlyTime s t) ∧
  (∀ (n : Nat) (s : State), s.takes 0x90024 = true → ∃ t, exec (.solClrCounts n) s = .next t ∧
    (∀ f ∈ [SOL_HOST_BATCHES.COUNT, SOL_HOST_SYSTEMS.COUNT, SOL_MOD_BATCHES.COUNT, SOL_MOD_SYSTEMS.COUNT, SOL_MOD_NOTOK.COUNT,
      SOL_MOD_LATE.COUNT], t.get f = 0) ∧
    onlyFields [SOL_HOST_BATCHES.COUNT, SOL_HOST_SYSTEMS.COUNT, SOL_MOD_BATCHES.COUNT, SOL_MOD_SYSTEMS.COUNT, SOL_MOD_NOTOK.COUNT,
      SOL_MOD_LATE.COUNT] s t ∧ onlyRegs s t)

/-! ### Synchronisation and time -/

/-- Triggers and resets (R382, R383, R385, R388, R389): an accepted edge of an input is counted and stamped FILT − 1 phases before it came,
and, where the input is not FSYNC, touches nothing else; an FSYNC edge in a staring run under TRIGGER_PHASE waits for its boundary; below
Pearl no edge counts; the host's reset is set for the first boundary 500 REFTICKs on; a write of FIL_SYNC_CTRL takes source and mode and
forgets a waiting edge, and is refused in RUN; at a whole second of T the output whose source is PPS gives its pulse. -/
def Obligations.TriggersAndResets : Prop :=
  (∀ (n i : Nat) (s : State), i < 2 → s.get PWR_STATUS.STATE < 2 → s.get FIL_SYNC_CTRL.SRC ≠ i + 1 →
    ∃ t, exec (.triggerEdge n i) s = .next t ∧
      t.get (FIL_TINn_COUNT.COUNT i) = (s.get (FIL_TINn_COUNT.COUNT i) + 1) % 2 ^ (FIL_TINn_COUNT.COUNT i).width ∧
      t.fil.tins = modNth (fun _ => s.stamp ((s.at n).now - (s.get (FIL_TINn_CTRL.FILT i) - 1))) s.fil.tins i ∧
      onlyFields [FIL_TINn_COUNT.COUNT i] s t ∧ { t with now := s.now, pwr.real := s.pwr.real, regs := s.regs, fil.tins := s.fil.tins } = s) ∧
  (∀ (n i : Nat) (s : State), i < 2 → s.get PWR_STATUS.STATE < 2 → s.get FIL_SYNC_CTRL.SRC = i + 1 → s.sys.mode = .stare →
    s.sys.run = true → s.get FIL_SYNC_CTRL.MODE = 2 → s.fil.fsync = none →
    ∃ t, exec (.triggerEdge n i) s = .next t ∧
      t.get (FIL_TINn_COUNT.COUNT i) = (s.get (FIL_TINn_COUNT.COUNT i) + 1) % 2 ^ (FIL_TINn_COUNT.COUNT i).width ∧
      t.fil.fsync = some ((s.at n).now - (s.get (FIL_TINn_CTRL.FILT i) - 1)) ∧ onlyFields [FIL_TINn_COUNT.COUNT i] s t ∧
      { t with now := s.now, pwr.real := s.pwr.real, regs := s.regs, fil.tins := s.fil.tins, fil.fsync := s.fil.fsync } = s) ∧
  (∀ (n i : Nat) (s : State), (2 ≤ s.get PWR_STATUS.STATE ∨ 2 ≤ i) → ∃ t, exec (.triggerEdge n i) s = .next t ∧ onlyTime s t) ∧
  (∀ (n : Nat) (s : State), s.takes 0xA0008 = true →
    exec (.filSyncReset n) s = .next { s.at n with fil.resets := s.fil.resets ++ [16 * ((s.at n).now / 16 + 500)] }) ∧
  (∀ (n v : Nat) (s : State), s.takes 0xA0004 = true → s.sys.mode ≠ .load → s.sys.run = false → FIL_SYNC_CTRL.SRC.ofWord v ≤ 2 →
    ∃ t, exec (.filSyncCtrlWrite n v) s = .next t ∧ t.get FIL_SYNC_CTRL.SRC = FIL_SYNC_CTRL.SRC.ofWord v ∧
      t.get FIL_SYNC_CTRL.MODE = FIL_SYNC_CTRL.MODE.ofWord v ∧ t.fil.fsync = none ∧
      onlyFields [FIL_SYNC_CTRL.SRC, FIL_SYNC_CTRL.MODE] s t ∧ { t with now := s.now, pwr.real := s.pwr.real, regs := s.regs, fil.fsync := s.fil.fsync } = s) ∧
  (∀ (n v : Nat) (s : State), s.takes 0xA0004 = true → s.sys.mode ≠ .load → (s.sys.run = true ∨ 2 < FIL_SYNC_CTRL.SRC.ofWord v) →
    ∃ t, exec (.filSyncCtrlWrite n v) s = .next t ∧ t.get FIL_SYNC_CTRL.SRC = s.get FIL_SYNC_CTRL.SRC ∧
      t.get FIL_SYNC_CTRL.MODE = s.get FIL_SYNC_CTRL.MODE ∧ t.get ENG_LAST_REFUSE.STATUS = 1 ∧
      t.get ENG_LAST_REFUSE.REASON = (if 2 < FIL_SYNC_CTRL.SRC.ofWord v then 0x0D else 0x0C) ∧ onlyRegs s t) ∧
  (∀ (n : Nat) (s : State), s.get PWR_STATUS.STATE < 2 → s.img.extest = false → s.nsAt ((s.at n).now) % 1000000000 < 100 →
    (nth {} s.fil.tout 0).src = 7 → (nth {} s.fil.tout 1).src ≠ 7 →
    exec (.tWholeSecond n) s =
      .next ((s.at n).emit (.pulse 0 ((s.at n).now + (nth {} s.fil.tout 0).delay) (nth {} s.fil.tout 0).width))) ∧
  (∀ (n : Nat) (s : State), (100 ≤ s.nsAt ((s.at n).now) % 1000000000 ∨ 2 ≤ s.get PWR_STATUS.STATE ∨
      (nth {} s.fil.tout 0).src ≠ 7 ∧ (nth {} s.fil.tout 1).src ≠ 7) →
    ∃ t, exec (.tWholeSecond n) s = .next t ∧ onlyTime s t)

/-- Time of day (R392 to R396, R401): with TOD_SRC 0 a set loads T at the present REFTICK, with TOD_SRC 2 it waits for an edge, and else it
is refused; a change of TOD_SRC restarts the servo; a PPS edge that may be used is used, and its offset from the nearest whole second is
shown; one more than 10 µs off in a locked servo is counted as bad, the third in a row with fault 0x0A04; 2.5 s without one, in LOCKED,
begin HOLDOVER with 0x0A02; HOLDOVER beyond its limit raises 0x0A03; a step that waits is taken at the boundary that is due and moves T by
the offset. -/
def Obligations.TimeOfDay : Prop :=
  (∀ (n : Nat) (s : State), s.takes 0xA0420 = true → s.get FIL_TIME_CTRL.TOD_SRC = 0 →
    ∃ t, exec (.timeSet n) s = .next t ∧
      t.timeAt (16 * ((s.at n).now / 16)) = ((s.timeSetting.1 * 10 ^ 9 + s.timeSetting.2 : Nat) : Int) * 2 ^ 32 ∧
      t.fil.rate = s.fil.rate ∧ { t with now := s.now, pwr.real := s.pwr.real, fil.tBase := s.fil.tBase, fil.tAt := s.fil.tAt } = s) ∧
  (∀ (n : Nat) (s : State), s.takes 0xA0420 = true → s.get FIL_TIME_CTRL.TOD_SRC = 2 →
    exec (.timeSet n) s = .next { s.at n with fil.setDue := true }) ∧
  (∀ (n : Nat) (s : State), s.takes 0xA0420 = true → (s.get FIL_TIME_CTRL.TOD_SRC = 1 ∨ s.get FIL_TIME_CTRL.TOD_SRC = 3) →
    ∃ t, exec (.timeSet n) s = .next t ∧ t.fil = s.fil ∧ t.get ENG_LAST_REFUSE.STATUS = 1 ∧ onlyRegs s t) ∧
  (∀ (n v : Nat) (s : State), s.takes 0xA0400 = true → s.sys.mode ≠ .load →
    FIL_TIME_CTRL.TOD_SRC.ofWord v ≠ s.get FIL_TIME_CTRL.TOD_SRC →
    ∃ t, exec (.todSrcWrite n v) s = .next t ∧ t.get FIL_TIME_CTRL.TOD_SRC = FIL_TIME_CTRL.TOD_SRC.ofWord v ∧
      t.get FIL_TIME_CTRL.DOMAIN = FIL_TIME_CTRL.DOMAIN.ofWord v ∧
      t.get FIL_TIME_STATE.STATE = (if FIL_TIME_CTRL.TOD_SRC.ofWord v = 0 then 0 else 1) ∧ t.get FIL_TIME_STATE.SRC_OK = 0 ∧
      t.fil.setDue = false ∧ t.fil.good = 0 ∧
      onlyFields [FIL_TIME_CTRL.TOD_SRC, FIL_TIME_CTRL.REQUIRE_LOCK, FIL_TIME_CTRL.DOMAIN, FIL_TIME_STATE.STATE, FIL_TIME_STATE.SRC_OK] s t ∧
      { t with now := s.now, pwr.real := s.pwr.real, regs := s.regs, fil := s.fil } = s) ∧
  (∀ (n : Nat) (s : State), s.get FIL_TIME_CTRL.TOD_SRC = 2 → s.get PWR_STATUS.STATE < 2 → s.fil.setDue = false →
    (s.get FIL_TIME_STATE.STATE < 2 ∨ s.fil.ppsAny = true ∨
      (secondOfs (s.nsAt ((s.at n).now - 3) - s.geti FIL_PPS_DELAY.NS)).natAbs ≤ 10000) →
    ∃ t, exec (.ppsEdge n) s = .next t ∧ t.fil.ppsUsed = some ((s.at n).now) ∧ t.get FIL_TIME_STATE.SRC_OK = 1 ∧
      t.geti FIL_TIME_OFFSET.NS = secondOfs (s.nsAt ((s.at n).now - 3) - s.geti FIL_PPS_DELAY.NS) ∧ t.fil.ppsBad = 0 ∧
      (s.alm.unheld = [] → t.isActive 0x0A04 noInst = false) ∧
      onlyFields ([FIL_TIME_STATE.SRC_OK, FIL_TIME_STATE.STATE, FIL_TIME_OFFSET.NS, FIL_TIME_RATE.RATE, FIL_EVENTS.TIME_LOCKED] ++
        faultFields) s t ∧ t.sys = s.sys ∧ t.nv.cells = s.nv.cells) ∧
  (∀ (n : Nat) (s : State), s.get FIL_TIME_CTRL.TOD_SRC = 2 → s.get PWR_STATUS.STATE < 2 → s.fil.setDue = false →
    2 ≤ s.get FIL_TIME_STATE.STATE → s.fil.ppsAny = false →
    10000 < (secondOfs (s.nsAt ((s.at n).now - 3) - s.geti FIL_PPS_DELAY.NS)).natAbs →
    ∃ t, exec (.ppsEdge n) s = .next t ∧ t.fil.ppsUsed = s.fil.ppsUsed ∧ t.fil.ppsBad = s.fil.ppsBad + 1 ∧
      t.get FIL_PPS_BAD_COUNT.COUNT = (s.get FIL_PPS_BAD_COUNT.COUNT + 1) % 2 ^ FIL_PPS_BAD_COUNT.COUNT.width ∧
      t.get FIL_EVENTS.PPS_BAD = 1 ∧ (s.fil.ppsBad = 2 → s.held < 62 → t.isActive 0x0A04 noInst = true) ∧
      onlyFields (FIL_PPS_BAD_COUNT.COUNT :: FIL_EVENTS.PPS_BAD :: faultFields) s t ∧ t.sys = s.sys ∧ t.nv.cells = s.nv.cells) ∧
  (∀ (n : Nat) (s : State), (2 ≤ s.get PWR_STATUS.STATE ∨ s.get FIL_TIME_CTRL.TOD_SRC < 2) →
    ∃ t, exec (.ppsEdge n) s = .next t ∧ onlyTime s t) ∧
  (∀ (n u : Nat) (s : State), 2 ≤ s.get FIL_TIME_CTRL.TOD_SRC → s.fil.ppsUsed = some u → u + 400000000 < (s.at n).now →
    s.get FIL_TIME_STATE.STATE = 2 →
    ∃ t, exec (.ppsSourceLoss n) s = .next t ∧ t.get FIL_TIME_STATE.STATE = 3 ∧ t.get FIL_TIME_STATE.SRC_OK = 0 ∧
      t.get FIL_EVENTS.TIME_LOST = 1 ∧ (s.held < 62 → t.isActive 0x0A02 noInst = true) ∧ t.fil.holdSince = some ((s.at n).now) ∧
      t.fil.ppsUsed = none ∧
      onlyFields ([FIL_TIME_STATE.SRC_OK, FIL_TIME_STATE.STATE, FIL_EVENTS.TIME_LOST] ++ faultFields) s t ∧ t.sys = s.sys ∧ t.nv.cells = s.nv.cells) ∧
  (∀ (n : Nat) (s : State), (s.get FIL_TIME_CTRL.TOD_SRC < 2 ∨ ∀ u, s.fil.ppsUsed = some u → (s.at n).now ≤ u + 400000000) →
    ∃ t, exec (.ppsSourceLoss n) s = .next t ∧ onlyTime s t) ∧
  (∀ (n h : Nat) (s : State), s.fil.holdSince = some h → s.get FIL_TIME_STATE.STATE = 3 →
    s.get FIL_HOLD_LIMIT.S * sec < (s.at n).now - h →
    ∃ t, exec (.holdoverLimit n) s = .next t ∧ (s.held < 62 → t.isActive 0x0A03 noInst = true) ∧ onlyFields faultFields s t ∧
      t.fil = s.fil ∧ t.sys = s.sys ∧ t.nv.cells = s.nv.cells) ∧
  (∀ (n b : Nat) (ofs : Int) (s : State), s.fil.stepDue = some ofs → (s.at n).dueBoundary = some b →
    ∃ t, exec (.timeStep n) s = .next t ∧ t.get FIL_EVENTS.TIME_STEP = 1 ∧ t.fil.stepDue = none ∧ t.fil.stepMade = true ∧
      t.timeAt t.now = (s.at n).timeAt t.now - ofs * 2 ^ 32 ∧ onlyFields [FIL_EVENTS.TIME_STEP] s t ∧
      { t with now := s.now, pwr.real := s.pwr.real, regs := s.regs, fil := s.fil } = s) ∧
  (∀ (n : Nat) (s : State), (s.fil.stepDue = none ∨ (s.at n).dueBoundary = none) →
    ∃ t, exec (.timeStep n) s = .next t ∧ onlyTime s t)

/-- The PTP clock (R400): an Announce with none known before becomes the master, its identity and offset to UTC shown; a one-step Sync
gives the offset from origin, receipt, path delay and correction; a two-step Sync waits for its Follow_Up, which gives it; a request goes to the
master under the next sequence number; its answer gives half of the round trip; a master that has fallen silent is left, and a
locked servo that followed it is in HOLDOVER. The timestamps and the rounding of the half are the implementation's. -/
def Obligations.PtpClock : Prop :=
  (∀ (n : Nat) (m : PtpMsg) (s : State), s.get PWR_STATUS.STATE < 4 → m.domain = s.get FIL_TIME_CTRL.DOMAIN → s.fil.masters = [] →
    s.fil.master = none → m.source < 2 ^ 64 → m.utcOffset < 2 ^ FIL_PTP_STATUS.UTC_OFFSET.width →
    ∃ t, exec (.ptpAnnounce n m) s = .next t ∧ t.fil.master = some m.source ∧ t.get FIL_PTP_STATUS.PORT_STATE = 8 ∧
      t.get64 FIL_PTP_MASTER_LO.ID FIL_PTP_MASTER_HI.ID = m.source ∧ t.get FIL_PTP_STATUS.UTC_OFFSET = m.utcOffset ∧
      onlyFields [FIL_PTP_STATUS.PORT_STATE, FIL_PTP_STATUS.UTC_OFFSET, FIL_PTP_MASTER_LO.ID, FIL_PTP_MASTER_HI.ID] s t ∧
      { t with now := s.now, pwr.real := s.pwr.real, regs := s.regs, fil := s.fil } = s) ∧
  (∀ (n : Nat) (m : PtpMsg) (s : State), s.get PWR_STATUS.STATE < 4 → m.domain = s.get FIL_TIME_CTRL.DOMAIN →
    s.fil.master = some m.source → m.followUp = false → m.twoStep = false → s.get FIL_TIME_CTRL.TOD_SRC ≠ 1 →
    ∃ t, exec (.ptpSync n m) s = .next t ∧ t.get FIL_PTP_STATUS.PORT_STATE = 9 ∧ t.fil.lastSync = some ((s.at n).now, m.logInterval) ∧
      t.fil.ptpOfs = some ((s.at n).phyTime - m.originNs - s.geti FIL_PTP_MEANDELAY.NS - m.correction) ∧
      onlyFields [FIL_PTP_STATUS.PORT_STATE] s t ∧ { t with now := s.now, pwr.real := s.pwr.real, regs := s.regs, fil := s.fil } = s) ∧
  (∀ (n : Nat) (m : PtpMsg) (s : State), s.get PWR_STATUS.STATE < 4 → m.domain = s.get FIL_TIME_CTRL.DOMAIN →
    s.fil.master = some m.source → m.followUp = false → m.twoStep = true →
    exec (.ptpSync n m) s = .next { s.at n with
      fil.lastSync := some ((s.at n).now, m.logInterval), fil.sync := some (m.seq, (s.at n).phyTime, m.correction) }) ∧
  (∀ (n : Nat) (m : PtpMsg) (t2 c : Int) (s : State), s.get PWR_STATUS.STATE < 4 → m.domain = s.get FIL_TIME_CTRL.DOMAIN →
    s.fil.master = some m.source → m.followUp = true → s.fil.sync = some (m.seq, t2, c) → s.get FIL_TIME_CTRL.TOD_SRC ≠ 1 →
    ∃ t, exec (.ptpSync n m) s = .next t ∧ t.get FIL_PTP_STATUS.PORT_STATE = 9 ∧ t.fil.sync = none ∧
      t.fil.ptpOfs = some (t2 - m.originNs - s.geti FIL_PTP_MEANDELAY.NS - (c + m.correction)) ∧
      onlyFields [FIL_PTP_STATUS.PORT_STATE] s t ∧ { t with now := s.now, pwr.real := s.pwr.real, regs := s.regs, fil := s.fil } = s) ∧
  (∀ (n : Nat) (m : PtpMsg) (s : State), (4 ≤ s.get PWR_STATUS.STATE ∨ m.domain ≠ s.get FIL_TIME_CTRL.DOMAIN) →
    (∃ t, exec (.ptpAnnounce n m) s = .next t ∧ onlyTime s t) ∧ (∃ t, exec (.ptpSync n m) s = .next t ∧ onlyTime s t) ∧
    ∃ t, exec (.ptpDelayResp n m) s = .next t ∧ onlyTime s t) ∧
  (∀ (n : Nat) (s : State), s.get PWR_STATUS.STATE < 4 → s.fil.master ≠ none → s.fil.pair ≠ none →
    exec (.ptpDelayReqSend n) s = .next { (s.at n).emit (.mgmt "PTP Delay_Req" 0) with
      fil.delaySeq := (s.fil.delaySeq + 1) % 2 ^ 16, fil.delayReq := some ((s.fil.delaySeq + 1) % 2 ^ 16, (s.at n).phyTime) }) ∧
  (∀ (n : Nat) (m : PtpMsg) (t1 t2 t3 corr d : Int) (s : State), s.get PWR_STATUS.STATE < 4 →
    m.domain = s.get FIL_TIME_CTRL.DOMAIN → s.fil.master = some m.source → s.fil.delayReq = some (m.seq, t3) →
    s.fil.pair = some (t1, t2, corr) → d = (t2 - t3) + (m.rxNs - t1) - corr - m.correction → d.natAbs < 2 ^ 31 →
    ∃ t, exec (.ptpDelayResp n m) s = .next t ∧
      (t.geti FIL_PTP_MEANDELAY.NS = d / 2 ∨ (d % 2 ≠ 0 ∧ t.geti FIL_PTP_MEANDELAY.NS = d / 2 + 1)) ∧ t.fil.delayReq = none ∧
      onlyFields [FIL_PTP_MEANDELAY.NS] s t ∧ { t with now := s.now, pwr.real := s.pwr.real, regs := s.regs, fil.delayReq := s.fil.delayReq } = s) ∧
  (∀ (n x : Nat) (s : State), s.fil.master = some x → (s.at n).announceLate = true → s.get FIL_TIME_CTRL.TOD_SRC = 1 →
    s.get FIL_TIME_STATE.STATE = 2 →
    ∃ t, exec (.ptpSourceLoss n) s = .next t ∧ t.get FIL_TIME_STATE.STATE = 3 ∧ t.get FIL_TIME_STATE.SRC_OK = 0 ∧
      t.get FIL_EVENTS.TIME_LOST = 1 ∧ (s.held < 62 → t.isActive 0x0A02 noInst = true) ∧ t.fil.master ≠ some x ∧
      onlyFields ([FIL_TIME_STATE.SRC_OK, FIL_TIME_STATE.STATE, FIL_EVENTS.TIME_LOST, FIL_PTP_STATUS.PORT_STATE, FIL_PTP_STATUS.UTC_OFFSET,
        FIL_PTP_MASTER_LO.ID, FIL_PTP_MASTER_HI.ID, FIL_EVENTS.MASTER_CHANGE] ++ faultFields) s t ∧ t.sys = s.sys ∧ t.nv.cells = s.nv.cells) ∧
  (∀ (n : Nat) (s : State), (s.fil.master = none ∨ (s.at n).announceLate = false ∧ (s.at n).syncLate = false) →
    ∃ t, exec (.ptpSourceLoss n) s = .next t ∧ onlyTime s t)

/-! ### The monitor converter -/

/-- Sequences of the monitor (R407, R408, R416, R419, R12): a cycle that is due starts at entry 0, an overrun counted; a completed regular
entry of an input has its corrected code in the entry's result register, with its input, valid, and its time behind it (an entry of
DIE where the module has escalated already: a hotter one may escalate it); a valid shadow is pending, an invalid one says why; the
pending sequence is in force from the next cycle; MON_CLR clears the two counts.
Injected sequences (R414 to R416): an enabled trigger of a running monitor starts the sequence with its source and tick, is held
while one runs, and is lost while one is held; MON_CTRL.INJ_GO is the host's trigger; the end of the sequence hands back to the
interrupted entry. -/
def Obligations.MonitorSequences : Prop :=
  (∀ (n : Nat) (s : State), (s.at n).cycleReady = true → s.mon.pendSeq = none →
    ∃ t, exec (.monCycleStart n) s = .next t ∧ t.get MON_STATUS.ENTRY = 0 ∧ t.mon.cycling = true ∧
      t.mon.entryAt = max s.mon.due s.mon.ended ∧
      t.get MON_OVERRUN_COUNT.COUNT = (if s.mon.act.period ≠ 0 ∧ s.mon.due < s.mon.lastEnd
        then (s.get MON_OVERRUN_COUNT.COUNT + 1) % 2 ^ MON_OVERRUN_COUNT.COUNT.width else s.get MON_OVERRUN_COUNT.COUNT) ∧
      onlyFields [MON_STATUS.ENTRY, MON_OVERRUN_COUNT.COUNT] s t ∧ { t with now := s.now, pwr.real := s.pwr.real, regs := s.regs, mon := s.mon } = s) ∧
  (∀ (n i k : Nat) (e : Nat × Nat) (codes : List Nat) (s : State), s.get MON_STATUS.RUNNING = 1 → s.mon.inj = none →
    s.get MON_STATUS.ENTRY = i → i < 16 → s.mon.act.reg[i]? = some e → s.mon.cycling = true → codes.length = 2 ^ entAvg e →
    s.mon.entryAt + entTime e ≤ (s.at n).now / 16 → 1 ≤ entSpan e → entInput e + entSpan e ≤ 24 → entGain e ≤ 4 →
    k = entInput e + nth 0 s.mon.rot i % entSpan e → (k ≠ 22 ∨ s.sys.escalated = true) →
    ∃ t, exec (.monEntryComplete n codes) s = .next t ∧
      t.get (MON_RSLT_ii.VALUE i) = corrCode (codes.map (· % 2 ^ 14)).sum (entAvg e) (s.geti (MON_CAL_g.OFS (entGain e)))
        (s.get (MON_CAL_g.GAIN (entGain e))) (s.geti (MON_HCORn.HOFS k)) (s.get (MON_HCORn.HGAIN k)) ∧
      t.get (MON_RSLT_ii.INPUT i) = k ∧ t.get (MON_RSLT_ii.VALID i) = 1 ∧ t.mon.entryAt = s.mon.entryAt + entTime e ∧
      t.get MON_STATUS.ENTRY = (if i + 1 < s.mon.act.reg.length then (i + 1) % 2 ^ MON_STATUS.ENTRY.width else 0) ∧ t.sys = s.sys ∧
      t.nv.cells = s.nv.cells) ∧
  (∀ (n : Nat) (s : State), (s.at n).cycleReady = false →
    (∃ t, exec (.monCycleStart n) s = .next t ∧ onlyTime s t) ∧ ∃ t, exec (.monSeqTakeEffect n) s = .next t ∧ onlyTime s t) ∧
  (∀ (n : Nat) (s : State), s.takes 0xB0004 = true → s.shadowRefuse = 0 →
    ∃ t, exec (.monSeqApply n) s = .next t ∧ t.get MON_SEQ_STATE.PENDING = 1 ∧ t.get MON_SEQ_STATE.REFUSE = 0 ∧
      t.mon.pendSeq = some s.shadowSeq ∧ onlyFields [MON_SEQ_STATE.PENDING, MON_SEQ_STATE.REFUSE] s t ∧
      { t with now := s.now, pwr.real := s.pwr.real, regs := s.regs, mon.pendSeq := s.mon.pendSeq } = s) ∧
  (∀ (n : Nat) (s : State), s.takes 0xB0004 = true → s.shadowRefuse ≠ 0 →
    ∃ t, exec (.monSeqApply n) s = .next t ∧ t.get MON_SEQ_STATE.REFUSE = s.shadowRefuse % 2 ^ MON_SEQ_STATE.REFUSE.width ∧
      t.get MON_EVENTS.SEQ_REFUSED = 1 ∧ t.mon = s.mon ∧ t.sys = s.sys ∧ t.nv = s.nv) ∧
  (∀ (n : Nat) (q : MonSeq) (s : State), (s.at n).cycleReady = true → s.mon.pendSeq = some q →
    ∃ t, exec (.monSeqTakeEffect n) s = .next t ∧ t.mon.act = q ∧ t.mon.pendSeq = none ∧ t.mon.rot = List.replicate 16 0 ∧
      t.get MON_SEQ_STATE.PENDING = 0 ∧ t.get MON_EVENTS.SEQ_APPLIED = 1 ∧
      t.get MON_ACT_PERIOD.PERIOD = q.period % 2 ^ MON_ACT_PERIOD.PERIOD.width ∧
      t.get MON_CYCLE.TIME = q.time % 2 ^ MON_CYCLE.TIME.width ∧
      (∀ i, i < 16 → t.get (MON_ACT_SEQi_W0.W0 i) = (nth (0, 0) q.reg i).1 % 2 ^ 24) ∧
      { t with now := s.now, pwr.real := s.pwr.real, regs := s.regs, mon := s.mon } = s) ∧
  (∀ (n : Nat) (s : State), s.takes 0xB0030 = true →
    ∃ t, exec (.monClrCounts n) s = .next t ∧ t.get MON_INJ_LOST.COUNT = 0 ∧ t.get MON_OVERRUN_COUNT.COUNT = 0 ∧
      onlyFields [MON_INJ_LOST.COUNT, MON_OVERRUN_COUNT.COUNT] s t ∧ onlyRegs s t) ∧
  (∀ (n src : Nat) (s : State), src < 4 → s.mon.act.inj ≠ [] → bit s.mon.act.trig src = 1 → s.get MON_STATUS.RUNNING = 1 →
    s.get MON_STATUS.CALIBRATING = 0 → s.mon.inj = none →
    ∃ t, exec (.monInjectTrigger n src) s = .next t ∧ t.get MON_STATUS.INJ_RUN = 1 ∧ t.get MON_INJ_STATUS.SRC = src ∧
      t.mon.inj = some (src, 0, (s.at n).now / 16) ∧ t.get MON_INJ_TICK_LO.TICK = (s.at n).now / 16 % 2 ^ 32 ∧
      onlyFields [MON_STATUS.INJ_RUN, MON_INJ_STATUS.SRC, MON_INJ_TICK_LO.TICK, MON_INJ_TICK_HI.TICK] s t ∧
      { t with now := s.now, pwr.real := s.pwr.real, regs := s.regs, mon.inj := s.mon.inj } = s) ∧
  (∀ (n src : Nat) (s : State), src < 4 → s.mon.act.inj ≠ [] → bit s.mon.act.trig src = 1 → s.get MON_STATUS.RUNNING = 1 →
    s.mon.inj.isSome = true → s.mon.heldTrig = none →
    ∃ t, exec (.monInjectTrigger n src) s = .next t ∧ t.get MON_STATUS.INJ_PENDING = 1 ∧ t.mon.heldTrig = some src ∧
      onlyFields [MON_STATUS.INJ_PENDING] s t ∧ { t with now := s.now, pwr.real := s.pwr.real, regs := s.regs, mon.heldTrig := s.mon.heldTrig } = s) ∧
  (∀ (n src : Nat) (s : State), src < 4 → s.mon.act.inj ≠ [] → bit s.mon.act.trig src = 1 → s.get MON_STATUS.RUNNING = 1 →
    s.mon.inj.isSome = true → s.mon.heldTrig.isSome = true →
    ∃ t, exec (.monInjectTrigger n src) s = .next t ∧
      t.get MON_INJ_LOST.COUNT = (s.get MON_INJ_LOST.COUNT + 1) % 2 ^ MON_INJ_LOST.COUNT.width ∧ t.get MON_EVENTS.INJ_LOST = 1 ∧
      onlyFields [MON_INJ_LOST.COUNT, MON_EVENTS.INJ_LOST] s t ∧ onlyRegs s t) ∧
  (∀ (n src : Nat) (s : State), (4 ≤ src ∨ s.mon.act.inj = [] ∨ bit s.mon.act.trig src = 0 ∨
      s.get MON_STATUS.RUNNING = 0 ∧ s.get MON_STATUS.CALIBRATING = 0) →
    ∃ t, exec (.monInjectTrigger n src) s = .next t ∧ onlyTime s t) ∧
  (∀ (n : Nat) (s : State), s.takes 0xB0004 = true → s.mon.act.inj = [] →
    ∃ t, exec (.monInjGo n) s = .next t ∧ t.get ENG_LAST_REFUSE.STATUS = 1 ∧ t.mon = s.mon ∧ onlyRegs s t) ∧
  (∀ (n : Nat) (s : State), s.takes 0xB0004 = true → s.mon.act.inj ≠ [] → bit s.mon.act.trig 2 = 1 → s.get MON_STATUS.RUNNING = 1 →
    s.get MON_STATUS.CALIBRATING = 0 → s.mon.inj = none →
    ∃ t, exec (.monInjGo n) s = .next t ∧ t.get MON_STATUS.INJ_RUN = 1 ∧ t.get MON_INJ_STATUS.SRC = 2 ∧
      t.mon.inj = some (2, 0, (s.at n).now / 16) ∧ { t with now := s.now, pwr.real := s.pwr.real, regs := s.regs, mon.inj := s.mon.inj } = s) ∧
  (∀ (n src j a : Nat) (s : State), s.mon.inj = some (src, j, a) → s.mon.act.inj.length ≤ j → s.mon.heldTrig = none →
    ∃ t, exec (.monInjectedDone n) s = .next t ∧ t.get MON_STATUS.INJ_RUN = 0 ∧ t.get MON_EVENTS.INJ_DONE = 1 ∧ t.mon.inj = none ∧
      t.mon.entryAt = a ∧ onlyFields [MON_STATUS.INJ_RUN, MON_EVENTS.INJ_DONE] s t ∧
      { t with now := s.now, pwr.real := s.pwr.real, regs := s.regs, mon := s.mon } = s) ∧
  (∀ (n src j a h : Nat) (s : State), s.mon.inj = some (src, j, a) → s.mon.act.inj.length ≤ j → s.mon.heldTrig = some h →
    ∃ t, exec (.monInjectedDone n) s = .next t ∧ t.get MON_STATUS.INJ_RUN = 1 ∧ t.get MON_STATUS.INJ_PENDING = 0 ∧
      t.get MON_EVENTS.INJ_DONE = 1 ∧ t.mon.inj = some (h, 0, (s.at n).now / 16) ∧ t.mon.heldTrig = none ∧ t.mon.entryAt = a ∧
      { t with now := s.now, pwr.real := s.pwr.real, regs := s.regs, mon := s.mon } = s) ∧
  (∀ (n : Nat) (s : State), (∀ src j a, s.mon.inj = some (src, j, a) → j < s.mon.act.inj.length) →
    ∃ t, exec (.monInjectedDone n) s = .next t ∧ onlyTime s t)

/-- Self-calibration and the monitor's faults (R421 to R427): MON_CTRL.CALIBRATE outside RUN, CHARACTERISE and LOAD, from White to
Silver, stops the sequences, and is refused elsewhere; its results come 19,200 REFTICKs later: factors within limits are applied
and 0x0B01 clears, anything else raises it; either way the regular sequence runs again. A write of an alarm register takes its fields and restarts the input's runs. A needed input whose last sample is
more than 200 ms old raises 0x0B06; the comparator raises 0x0104 and forces TIER_MAX, and its release ends both conditions together
with 16 cool values. -/
def Obligations.MonitorCalibrationAndFaults : Prop :=
  (∀ (n : Nat) (s : State), s.takes 0xB0004 = true → s.sys.run = false → s.sys.mode ≠ .characterise → s.sys.mode ≠ .load →
    s.get PWR_STATUS.STATE ≤ 2 →
    s.get MON_STATUS.CALIBRATING = 0 →
    ∃ t, exec (.monCalibrate n) s = .next t ∧ t.get MON_STATUS.CALIBRATING = 1 ∧ t.get MON_STATUS.RUNNING = 0 ∧
      t.get MON_STATUS.INJ_RUN = 0 ∧ t.mon.cycling = false ∧ t.mon.inj = none ∧
      onlyFields [MON_STATUS.CALIBRATING, MON_STATUS.RUNNING, MON_STATUS.INJ_RUN] s t ∧
      { t with now := s.now, pwr.real := s.pwr.real, regs := s.regs, mon := s.mon } = s) ∧
  (∀ (n : Nat) (s : State), s.takes 0xB0004 = true →
    (s.sys.run = true ∨ s.sys.mode = .characterise ∨ s.sys.mode = .load ∨ 2 < s.get PWR_STATUS.STATE) →
    ∃ t, exec (.monCalibrate n) s = .next t ∧ t.mon = s.mon ∧ t.get ENG_LAST_REFUSE.STATUS = 1 ∧
      t.get ENG_LAST_REFUSE.REASON = (if s.sys.run then 0x0C else if s.sys.mode = .characterise ∨ s.sys.mode = .load then 0x03 else 0x06) ∧
      onlyRegs s t) ∧
  (∀ (n : Nat) (points : List (Nat × Nat)) (s : State),
    (s.get MON_STATUS.CALIBRATING = 0 ∨ (s.at n).now / 16 < s.mon.calAt + selfCalTicks) →
    ∃ t, exec (.monSelfCalDone n points) s = .next t ∧ onlyTime s t) ∧
  (∀ (n : Nat) (points : List (Nat × Nat)) (s : State), s.get MON_STATUS.CALIBRATING = 1 →
    s.mon.calAt + selfCalTicks ≤ (s.at n).now / 16 → points.length ≠ 10 →
    ∃ t, exec (.monSelfCalDone n points) s = .next t ∧ t.get MON_STATUS.CALIBRATING = 0 ∧ t.get MON_STATUS.CAL_OK = 0 ∧
      t.get MON_CAL_STATUS.FAIL = 1 ∧ t.get MON_EVENTS.CAL_FAIL = 1 ∧ (s.held < 62 → t.isActive 0x0B01 noInst = true) ∧ t.get MON_STATUS.RUNNING = 1 ∧
      t.get MON_STATUS.ENTRY = 0 ∧ t.get MON_CAL_STATUS.COUNT = (s.get MON_CAL_STATUS.COUNT + 1) % 2 ^ MON_CAL_STATUS.COUNT.width ∧
      t.sys = s.sys ∧ t.nv.cells = s.nv.cells) ∧
  (∀ (n : Nat) (points : List (Nat × Nat)) (p : Nat → Int × Int) (s : State), s.get MON_STATUS.CALIBRATING = 1 →
    s.mon.calAt + selfCalTicks ≤ (s.at n).now / 16 → points.length = 10 →
    points.all quietPoint = true →
    (∀ g, g < 5 → calFactors (nth (0, 0) points (2 * g)).1 (nth (0, 0) points (2 * g + 1)).1 = some (p g) ∧ factorsOk (p g) = true) →
    ∃ t, exec (.monSelfCalDone n points) s = .next t ∧ t.get MON_STATUS.CALIBRATING = 0 ∧ t.get MON_STATUS.CAL_OK = 1 ∧
      t.get MON_CAL_STATUS.DONE = 1 ∧ t.get MON_CAL_STATUS.FAIL = 0 ∧ t.get MON_EVENTS.CAL_DONE = 1 ∧ (s.alm.unheld = [] → t.isActive 0x0B01 noInst = false) ∧
      (∀ g, g < 5 → t.geti (MON_CAL_g.OFS g) = (p g).1 ∧ ((t.get (MON_CAL_g.GAIN g) : Nat) : Int) = (p g).2) ∧
      t.get MON_STATUS.RUNNING = 1 ∧ t.get MON_STATUS.ENTRY = 0 ∧ t.sys = s.sys ∧ t.nv.cells = s.nv.cells) ∧
  (∀ (n k v : Nat) (s : State), s.takes (0xB0384 + 16 * k) = true → k < 24 → s.sys.mode ≠ .load →
    ∃ t, exec (.monAlarmWrite n (0xB0384 + 16 * k) v) s = .next t ∧ t.get (MON_ALMn_HI.HI k) = (MON_ALMn_HI.HI k).ofWord v ∧
      t.mon.hi = modNth (fun _ => 0) s.mon.hi k ∧ t.mon.lo = modNth (fun _ => 0) s.mon.lo k ∧ onlyFields [MON_ALMn_HI.HI k] s t ∧
      { t with now := s.now, pwr.real := s.pwr.real, regs := s.regs, mon.hi := s.mon.hi, mon.lo := s.mon.lo } = s) ∧
  (∀ (n k v : Nat) (s : State), s.takes (0xB0380 + 16 * k) = true → k < 24 → s.sys.mode ≠ .load → (MON_ALMn_CTRL.QUAL k).ofWord v ≠ 0 →
    ∃ t, exec (.monAlarmWrite n (0xB0380 + 16 * k) v) s = .next t ∧
      (∀ f ∈ [MON_ALMn_CTRL.EN_HI k, MON_ALMn_CTRL.EN_LO k, MON_ALMn_CTRL.QUAL k, MON_ALMn_CTRL.HYST k], t.get f = f.ofWord v) ∧
      onlyFields [MON_ALMn_CTRL.EN_HI k, MON_ALMn_CTRL.EN_LO k, MON_ALMn_CTRL.QUAL k, MON_ALMn_CTRL.HYST k] s t ∧
      { t with now := s.now, pwr.real := s.pwr.real, regs := s.regs, mon.hi := s.mon.hi, mon.lo := s.mon.lo } = s) ∧
  (∀ (n k : Nat) (s : State), s.get MON_STATUS.RUNNING = 1 → s.needed.contains k = true → 2000000 < (s.at n).inputAge k →
    ∃ t, exec (.monInputStarved n k) s = .next t ∧ t.get MON_EVENTS.STARVED = 1 ∧ (s.held < 62 → s.alm.unheld = [] → t.isActive 0x0B06 k = true) ∧ t.mon = s.mon ∧
      onlyFields ([MON_EVENTS.STARVED] ++ faultFields) s t ∧
      t.sys = s.sys ∧ t.nv.cells = s.nv.cells) ∧
  (∀ (n : Nat) (s : State), s.get MON_STATUS.OT_COMP = 0 → s.get PWR_STATUS.STATE ≤ 2 →
    ∃ t, exec (.overtempTrip n) s = .next t ∧ t.get MON_STATUS.OT_COMP = 1 ∧ (s.held < 62 → t.isActive 0x0104 noInst = true) ∧
      t.alm.heatSince = some (s.alm.heatSince.getD ((s.at n).now)) ∧ t.gov.tierNext = some (s.get GOV_CTRL.TIER_MAX) ∧ t.gov.hot = true ∧
      onlyFields ([MON_STATUS.OT_COMP, MON_STATUS.INJ_RUN, MON_STATUS.INJ_PENDING, MON_INJ_STATUS.SRC, MON_INJ_TICK_LO.TICK,
        MON_INJ_TICK_HI.TICK, MON_INJ_LOST.COUNT, MON_EVENTS.INJ_LOST] ++ faultFields) s t ∧ t.sys = s.sys ∧ t.nv.cells = s.nv.cells) ∧
  (∀ (n : Nat) (s : State), s.pwr.heldOff = false → s.mon.dieCool = 16 →
    ∃ t, exec (.overtempRelease n) s = .next t ∧ t.get MON_STATUS.OT_COMP = 0 ∧ (s.alm.unheld = [] → t.isActive 0x0104 noInst = false) ∧
      t.alm.heatSince = none ∧ onlyFields ([MON_STATUS.OT_COMP] ++ faultFields) s t ∧ t.sys = s.sys ∧ t.nv.cells = s.nv.cells) ∧
  (∀ (n : Nat) (s : State), s.pwr.heldOff = false → s.mon.dieCool ≠ 16 →
    ∃ t, exec (.overtempRelease n) s = .next t ∧ t.get MON_STATUS.OT_COMP = 0 ∧ onlyFields [MON_STATUS.OT_COMP] s t ∧ onlyRegs s t)

/-! ### The burst buffer, the data ports and their channels -/

/-- Pluggables and links (R429 to R431, R461): a pluggable that can be read shows its PHY and clears 0x0C01, one that cannot reads PHY 7
and raises it; its removal takes the link with it; a link lost is counted and raises 0x0C11 on a port with an enabled channel, the
entries kept; a link that comes up on a lit port clears 0x0C11 and 0x0C02; a CR4 partner that does not resolve raises 0x0C02; ten
bad seconds running raise 0x0C03. -/
def Obligations.PortLinks : Prop :=
  (∀ (n p phy cls : Nat) (s : State), p < 4 → 1 ≤ phy → phy ≤ 3 → cls ≤ 4 →
    ∃ t, exec (.pluggableInsert n p phy cls true) s = .next t ∧ t.get (PRT_Pn_STATUS.PRESENT p) = 1 ∧
      t.get (PRT_Pn_STATUS.PHY p) = phy ∧ t.get PRT_EVENTS.PLUGGABLE = 1 ∧ (s.alm.unheld = [] → t.isActive 0x0C01 p = false) ∧
      onlyFields ([PRT_Pn_STATUS.PRESENT p, PRT_Pn_STATUS.PHY p, PRT_EVENTS.PLUGGABLE] ++ faultFields) s t ∧ t.sys = s.sys ∧
      t.nv.cells = s.nv.cells) ∧
  (∀ (n p phy cls : Nat) (s : State), p < 4 →
    ∃ t, exec (.pluggableInsert n p phy cls false) s = .next t ∧ t.get (PRT_Pn_STATUS.PRESENT p) = 1 ∧
      t.get (PRT_Pn_STATUS.PHY p) = 7 ∧ t.get PRT_EVENTS.PLUGGABLE = 1 ∧ (s.held < 62 → t.isActive 0x0C01 p = true) ∧
      onlyFields ([PRT_Pn_STATUS.PRESENT p, PRT_Pn_STATUS.PHY p, PRT_EVENTS.PLUGGABLE] ++ faultFields) s t ∧ t.sys = s.sys ∧
      t.nv.cells = s.nv.cells) ∧
  (∀ (n p : Nat) (s : State), p < 4 → s.get (PRT_Pn_STATUS.PRESENT p) = 1 → s.get (PRT_Pn_STATUS.LINK p) < 2 →
    ∃ t, exec (.pluggableRemove n p) s = .next t ∧ t.get (PRT_Pn_STATUS.PRESENT p) = 0 ∧ t.get (PRT_Pn_STATUS.PHY p) = 0 ∧
      t.get (PRT_Pn_STATUS.LINK p) = 0 ∧ t.get (PRT_Pn_STATUS.AN_FAIL p) = 0 ∧ t.get PRT_EVENTS.PLUGGABLE = 1 ∧
      (s.alm.unheld = [] → t.isActive 0x0C01 p = false) ∧
      onlyFields ([PRT_Pn_STATUS.PRESENT p, PRT_Pn_STATUS.PHY p, PRT_Pn_STATUS.LINK p, PRT_Pn_STATUS.AN_FAIL p, PRT_EVENTS.PLUGGABLE,
        PRT_EVENTS.LINK_DOWN, PRT_Pn_LINKDOWN_COUNT.COUNT p] ++ faultFields) s t ∧ t.prt.entries = s.prt.entries ∧ t.sys = s.sys ∧ t.nv.cells = s.nv.cells) ∧
  (∀ (n p : Nat) (s : State), p < 4 → s.get (PRT_Pn_STATUS.LINK p) = 1 → s.portOn p = true →
    ∃ t, exec (.linkDown n p) s = .next t ∧ t.get (PRT_Pn_STATUS.LINK p) = 0 ∧
      t.get (PRT_Pn_LINKDOWN_COUNT.COUNT p) = (s.get (PRT_Pn_LINKDOWN_COUNT.COUNT p) + 1) % 2 ^ (PRT_Pn_LINKDOWN_COUNT.COUNT p).width ∧
      t.get PRT_EVENTS.LINK_DOWN = 1 ∧ (s.held < 62 → t.isActive 0x0C11 p = true) ∧
      onlyFields ([PRT_Pn_STATUS.LINK p, PRT_EVENTS.LINK_DOWN, PRT_Pn_LINKDOWN_COUNT.COUNT p] ++ faultFields) s t ∧ t.prt.entries = s.prt.entries ∧ t.prt.ports = s.prt.ports ∧
      t.sys = s.sys ∧ t.nv.cells = s.nv.cells) ∧
  (∀ (n p : Nat) (s : State), p < 4 → s.get (PRT_Pn_STATUS.LINK p) = 0 → s.portLit p = true → 1 ≤ s.get (PRT_Pn_STATUS.PHY p) →
    s.get (PRT_Pn_STATUS.PHY p) ≤ 3 →
    ∃ t, exec (.linkUp n p) s = .next t ∧ t.get (PRT_Pn_STATUS.LINK p) = 1 ∧ t.get (PRT_Pn_STATUS.AN_FAIL p) = 0 ∧
      t.get PRT_EVENTS.LINK_UP = 1 ∧ (s.alm.unheld = [] → t.isActive 0x0C11 p = false) ∧ (s.alm.unheld = [] → t.isActive 0x0C02 p = false) ∧
      onlyFields ([PRT_Pn_STATUS.LINK p, PRT_Pn_STATUS.AN_FAIL p, PRT_EVENTS.LINK_UP] ++ faultFields) s t ∧ t.prt.entries = s.prt.entries ∧
      t.prt.ports = s.prt.ports ∧ t.sys = s.sys ∧ t.nv.cells = s.nv.cells) ∧
  (∀ (n p : Nat) (s : State), p < 4 → s.get (PRT_Pn_STATUS.PHY p) = 3 → s.get (PRT_Pn_STATUS.LINK p) = 0 →
    ∃ t, exec (.anFail n p) s = .next t ∧ t.get (PRT_Pn_STATUS.AN_FAIL p) = 1 ∧ (s.held < 62 → t.isActive 0x0C02 p = true) ∧ t.prt = s.prt ∧
      onlyFields ([PRT_Pn_STATUS.AN_FAIL p] ++ faultFields) s t ∧
      t.sys = s.sys ∧ t.nv.cells = s.nv.cells) ∧
  (∀ (n p corr uncorr : Nat) (s : State), p < 4 → (s.get (PRT_Pn_STATUS.PHY p) = 1 ∨ s.get (PRT_Pn_STATUS.PHY p) = 3) → uncorr ≠ 0 →
    (s.port p).fecBad = 9 →
    ∃ t, exec (.fecSecond n p corr uncorr) s = .next t ∧
      t.get (PRT_Pn_FEC_CORR.COUNT p) = (s.get (PRT_Pn_FEC_CORR.COUNT p) + corr) % 2 ^ (PRT_Pn_FEC_CORR.COUNT p).width ∧
      t.get (PRT_Pn_FEC_UNCORR.COUNT p) = (s.get (PRT_Pn_FEC_UNCORR.COUNT p) + uncorr) % 2 ^ (PRT_Pn_FEC_UNCORR.COUNT p).width ∧
      t.prt.ports = modNth (fun q => { q with fecBad := 10, fecGood := 0 }) s.prt.ports p ∧ (s.held < 62 → s.alm.unheld = [] → t.isActive 0x0C03 p = true) ∧
      onlyFields ([PRT_Pn_FEC_CORR.COUNT p, PRT_Pn_FEC_UNCORR.COUNT p] ++ faultFields) s t ∧
      t.sys = s.sys ∧ t.nv.cells = s.nv.cells) ∧
  (∀ (n p corr : Nat) (s : State), p < 4 → (s.get (PRT_Pn_STATUS.PHY p) = 1 ∨ s.get (PRT_Pn_STATUS.PHY p) = 3) →
    (s.port p).fecGood < 9 →
    ∃ t, exec (.fecSecond n p corr 0) s = .next t ∧
      t.get (PRT_Pn_FEC_CORR.COUNT p) = (s.get (PRT_Pn_FEC_CORR.COUNT p) + corr) % 2 ^ (PRT_Pn_FEC_CORR.COUNT p).width ∧
      t.prt.ports = modNth (fun q => { q with fecBad := 0, fecGood := (s.port p).fecGood + 1 }) s.prt.ports p ∧
      onlyFields [PRT_Pn_FEC_CORR.COUNT p, PRT_Pn_FEC_UNCORR.COUNT p] s t ∧
      { t with now := s.now, pwr.real := s.pwr.real, regs := s.regs, prt.ports := s.prt.ports } = s)

/-- What a port answers and obeys (R433, R434, R465): a pause of the kind that FC_MODE obeys holds the port for its quanta, one that it
does not is nothing; a pause beyond the limit raises 0x0C32 and goes on; its end clears both and adds to the time paused. Requests
for the own address are answered above Slate, a reply gives the next hop's MAC address, an unresolved channel asks, and after three answers that
did not come raises 0x0C31; ten echo requests a second are answered; a frame for nobody is counted. -/
def Obligations.PortTraffic : Prop :=
  (∀ (n p a q : Nat) (quanta : List (Nat × Nat)) (pfc : Bool) (s : State), p < 4 → s.get (PRT_Pn_STATUS.LINK p) = 1 →
    (s.port p).pauseTo = none → 0 < q → q < 65536 →
    ((s.get (PRT_Pn_CTRL.FC_MODE p) = 1 ∧ pfc = false ∧ quanta.head? = some (a, q)) ∨
      (s.get (PRT_Pn_CTRL.FC_MODE p) = 2 ∧ pfc = true ∧ quanta.find? (·.1 == s.get (PRT_Pn_CTRL.PCP p)) = some (a, q))) →
    ∃ t, exec (.pauseFrame n p quanta pfc) s = .next t ∧ t.get (PRT_Pn_STATUS.PAUSED p) = 1 ∧
      t.prt.ports = modNth (fun c => { c with pauseTo := some ((s.at n).now + quantaPhases q),
                                              pauseFrom := some (c.pauseFrom.getD ((s.at n).now)) }) s.prt.ports p ∧
      onlyFields [PRT_Pn_STATUS.PAUSED p] s t ∧ { t with now := s.now, pwr.real := s.pwr.real, regs := s.regs, prt.ports := s.prt.ports } = s) ∧
  (∀ (n p : Nat) (quanta : List (Nat × Nat)) (pfc : Bool) (s : State), p < 4 → (s.port p).pauseTo = none →
    (s.get (PRT_Pn_CTRL.FC_MODE p) = 0 ∨ (s.get (PRT_Pn_CTRL.FC_MODE p) = 1 ∧ pfc = true) ∨
      (s.get (PRT_Pn_CTRL.FC_MODE p) = 2 ∧ pfc = false)) →
    exec (.pauseFrame n p quanta pfc) s = .next (s.at n)) ∧
  (∀ (n p f : Nat) (s : State), p < 4 → (s.port p).pauseFrom = some f → (s.at n).paused p = true →
    s.get (PRT_Pn_PAUSE_LIMIT.MS p) * msec < (s.at n).now - f →
    ∃ t, exec (.pauseLimitExceeded n p) s = .next t ∧ t.get PRT_EVENTS.PAUSE_LONG = 1 ∧ (s.held < 62 → s.alm.unheld = [] → t.isActive 0x0C32 p = true) ∧ t.prt = s.prt ∧
      onlyFields ([PRT_EVENTS.PAUSE_LONG] ++ faultFields) s t ∧ t.sys = s.sys ∧ t.nv.cells = s.nv.cells) ∧
  (∀ (n p a f : Nat) (s : State), p < 4 → (s.port p).pauseTo = some a → a ≤ (s.at n).now → (s.port p).pauseFrom = some f →
    ∃ t, exec (.pauseExpiry n p) s = .next t ∧ t.get (PRT_Pn_STATUS.PAUSED p) = 0 ∧
      t.prt.ports = modNth (fun q => { q with pauseTo := none, pauseFrom := none, pauseAcc := q.pauseAcc + (a - f) }) s.prt.ports p ∧
      (s.alm.unheld = [] → t.isActive 0x0C32 p = false) ∧ onlyFields ([PRT_Pn_STATUS.PAUSED p] ++ faultFields) s t ∧ t.sys = s.sys ∧ t.nv.cells = s.nv.cells) ∧
  (∀ (n p ip mac target : Nat) (s : State), p < 4 → target = s.get (PRT_Pn_IP.ADDR p) → target ≠ 0 → s.get (PRT_Pn_STATUS.LINK p) = 1 →
    s.asleep = false →
    ∃ t, exec (.arpRequestRx n p ip mac target) s = .next t ∧
      t.out = .packet p "ARP reply" (ethFrame mac (portMac p) (s.tagOf p) 0x0806 (arpBody 2 (portMac p) target mac ip)) :: s.out ∧
      { t with now := s.now, pwr.real := s.pwr.real, out := s.out, prt.ports := s.prt.ports } = s) ∧
  (∀ (n ip mac target : Nat) (s : State), target = s.get ENG_MGMT_ACTIVE_IP.ADDR → target ≠ 0 → s.asleep = false →
    exec (.arpRequestRx n 4 ip mac target) s = .next ((s.at n).emit (.mgmt "ARP reply" ip))) ∧
  (∀ (n p ip mac target : Nat) (payload : List Nat) (s : State), s.asleep = true →
    (∃ t, exec (.arpRequestRx n p ip mac target) s = .next t ∧ onlyTime s t) ∧
    ∃ t, exec (.icmpEchoRx n p ip mac payload) s = .next t ∧ onlyTime s t) ∧
  (∀ (n c ip mac : Nat) (s : State), s.chanOn c = true → s.get (PRT_CHn_DST_MAC_HI.STATIC c) = 0 → s.nextHop c = ip →
    s.get (PRT_Pn_STATUS.LINK (c / 4)) = 1 →
    ∃ t, exec (.arpReplyRx n (c / 4) ip mac) s = .next t ∧
      t.prt.ports = modNth (fun q => { q with arp := (ip, mac, (s.at n).now) :: q.arp.filter (·.1 ≠ ip) }) s.prt.ports (c / 4) ∧
      (s.alm.unheld = [] → t.isActive 0x0C31 c = false) ∧ onlyFields faultFields s t ∧ t.prt.entries = s.prt.entries ∧ t.sys = s.sys ∧ t.nv.cells = s.nv.cells) ∧
  (∀ (n c : Nat) (s : State), s.chanOn c = true → s.get (PRT_CHn_DST_MAC_HI.STATIC c) = 0 → s.get (PRT_Pn_STATUS.LINK (c / 4)) = 1 →
    (s.at n).arpFind (c / 4) (s.nextHop c) = none → (s.chan c).arpAt = none →
    ∃ t, exec (.arpTimer n (c / 4) c) s = .next t ∧
      t.out = .packet (c / 4) "ARP request" (ethFrame (2 ^ 48 - 1) (portMac (c / 4)) (s.tagOf (c / 4)) 0x0806
        (arpBody 1 (portMac (c / 4)) (s.get (PRT_Pn_IP.ADDR (c / 4))) 0 (s.nextHop c))) :: s.out ∧
      t.prt.chans = modNth (fun q => { q with arpTries := q.arpTries + 1, arpAt := some ((s.at n).now), arpFailed := false }) s.prt.chans c ∧
      { t with now := s.now, pwr.real := s.pwr.real, out := s.out, prt.ports := s.prt.ports, prt.chans := s.prt.chans } = s) ∧
  (∀ (n c a : Nat) (s : State), s.chanOn c = true → s.get (PRT_CHn_DST_MAC_HI.STATIC c) = 0 → s.get (PRT_Pn_STATUS.LINK (c / 4)) = 1 →
    (s.at n).arpFind (c / 4) (s.nextHop c) = none → (s.chan c).arpAt = some a → (s.chan c).arpFailed = false → a + sec ≤ (s.at n).now →
    3 ≤ (s.chan c).arpTries →
    ∃ t, exec (.arpTimer n (c / 4) c) s = .next t ∧ t.get PRT_EVENTS.ARP_FAIL = 1 ∧ (s.held < 62 → t.isActive 0x0C31 c = true) ∧
      t.prt.chans = modNth (fun q => { q with arpFailed := true, arpAt := some ((s.at n).now) }) s.prt.chans c ∧ t.out = s.out ∧
      onlyFields ([PRT_EVENTS.ARP_FAIL] ++ faultFields) s t ∧
      t.sys = s.sys ∧ t.nv.cells = s.nv.cells) ∧
  (∀ (n p ip mac : Nat) (payload : List Nat) (s : State), p < 4 → s.get (PRT_Pn_STATUS.LINK p) = 1 →
    s.asleep = false → ((s.at n).lastSecond (s.port p).echoes).length < 10 →
    ∃ t, exec (.icmpEchoRx n p ip mac payload) s = .next t ∧
      t.out = .packet p "ICMP echo reply" (ethFrame mac (portMac p) (s.tagOf p) 0x0800
        (ipPacket 0 s.ipId 1 (s.get (PRT_Pn_IP.ADDR p)) ip (echoReply payload))) :: s.out ∧
      { t with now := s.now, pwr.real := s.pwr.real, out := s.out, free := s.free, prt.ports := s.prt.ports } = s) ∧
  (∀ (n p ip mac : Nat) (payload : List Nat) (s : State), p < 4 → 10 ≤ ((s.at n).lastSecond (s.port p).echoes).length →
    ∃ t, exec (.icmpEchoRx n p ip mac payload) s = .next t ∧ { t with now := s.now, pwr.real := s.pwr.real, prt.ports := s.prt.ports } = s) ∧
  (∀ (n ip mac : Nat) (payload : List Nat) (s : State), s.get ENG_MGMT_ACTIVE_IP.ADDR ≠ 0 → s.asleep = false →
    ((s.at n).lastSecond s.tmp.echoes).length < 10 →
    ∃ t, exec (.icmpEchoRx n 4 ip mac payload) s = .next t ∧ t.out = .mgmt "ICMP echo reply" ip :: s.out ∧
      { t with now := s.now, pwr.real := s.pwr.real, out := s.out, tmp.echoes := s.tmp.echoes } = s) ∧
  (∀ (n p : Nat) (s : State), p < 4 →
    ∃ t, exec (.rxDiscard n p) s = .next t ∧
      t.get (PRT_Pn_RX_DISCARD.COUNT p) = (s.get (PRT_Pn_RX_DISCARD.COUNT p) + 1) % 2 ^ (PRT_Pn_RX_DISCARD.COUNT p).width ∧
      onlyFields [PRT_Pn_RX_DISCARD.COUNT p] s t ∧ onlyRegs s t)

/-- Sending (R446, R451, R452, R454 to R457): on its turn a Toson channel with an entry sends one record of it and counts it in its
sequence; the last record of a share finishes it; a channel that has been silent for 1 s sends a heartbeat; an RDMA channel sends the
next packet of its entry; a request that reaches a queue pair is discarded. -/
def Obligations.ChannelsSend : Prop :=
  (∀ (n c : Nat) (e : Entry) (s : State), s.chanOn c = true → s.get (PRT_CHn_CTRL.TRANSPORT c) = 1 → (s.at n).myTurn c = true →
    s.nextEntry c = some e → (s.chan c).idx + 1 ≠ e.recCount s.image c →
    ∃ t f, exec (.tosonRecordSend n c) s = .next t ∧ t.out = .packet (c / 4) "Toson" f :: s.out ∧
      t.get (PRT_CHn_SEQ.SEQ c) = (s.get (PRT_CHn_SEQ.SEQ c) + 1) % 2 ^ 32 ∧ t.prt.entries = s.prt.entries ∧
      onlyFields [PRT_CHn_SEQ.SEQ c] s t ∧
      { t with now := s.now, pwr.real := s.pwr.real, regs := s.regs, out := s.out, free := s.free, prt.ports := s.prt.ports, prt.chans := s.prt.chans } = s) ∧
  (∀ (n c : Nat) (e : Entry) (s : State), s.chanOn c = true → s.get (PRT_CHn_CTRL.TRANSPORT c) = 1 → (s.at n).myTurn c = true →
    s.nextEntry c = some e → (s.chan c).idx + 1 = e.recCount s.image c →
    ∃ t f, exec (.tosonRecordSend n c) s = .next t ∧ t.out = .packet (c / 4) "Toson" f :: s.out ∧
      t.get (PRT_CHn_SEQ.SEQ c) = (s.get (PRT_CHn_SEQ.SEQ c) + 1) % 2 ^ 32 ∧
      t.get (PRT_CHn_SENT.COUNT c) = (s.get (PRT_CHn_SENT.COUNT c) + 1) % 2 ^ 32 ∧
      (∀ x ∈ t.prt.entries, x.complete = true → x.shares ≠ []) ∧
      onlyFields ([PRT_CHn_SEQ.SEQ c, PRT_CHn_SENT.COUNT c] ++ bufferFields) s t ∧ t.sys = s.sys ∧ t.nv = s.nv) ∧
  (∀ (n c : Nat) (s : State), s.chanOn c = true → s.get (PRT_CHn_CTRL.TRANSPORT c) = 1 → s.get (PRT_Pn_STATUS.LINK (c / 4)) = 1 →
    (s.at n).paused (c / 4) = false → s.get PWR_STATUS.STATE ≤ 1 → ((s.at n).macOf c).isSome = true →
    (s.chan c).lastSent + sec ≤ (s.at n).now → (s.port (c / 4)).busyTo ≤ (s.at n).now →
    ∃ t f, exec (.heartbeat n c) s = .next t ∧ t.out = .packet (c / 4) "Toson" f :: s.out ∧
      t.get (PRT_CHn_SEQ.SEQ c) = (s.get (PRT_CHn_SEQ.SEQ c) + 1) % 2 ^ 32 ∧ onlyFields [PRT_CHn_SEQ.SEQ c] s t ∧
      { t with now := s.now, pwr.real := s.pwr.real, regs := s.regs, out := s.out, free := s.free, prt.ports := s.prt.ports, prt.chans := s.prt.chans } = s) ∧
  (∀ (n c : Nat) (e : Entry) (s : State), s.chanOn c = true → s.get (PRT_CHn_CTRL.TRANSPORT c) = 2 → (s.at n).myTurn c = true →
    s.nextEntry c = some e →
    ∃ t f, exec (.roceWriteSend n c) s = .next t ∧ t.out = .packet (c / 4) "RoCE v2" f :: s.out ∧
      (c < s.prt.chans.length → (t.chan c).cur = some e.no ∧ (t.chan c).pkt = (s.chan c).pkt + 1) ∧
      { t with now := s.now, pwr.real := s.pwr.real, out := s.out, free := s.free, prt.ports := s.prt.ports, prt.chans := s.prt.chans } = s) ∧
  (∀ (n c : Nat) (s : State), exec (.roceRequestDiscard n c) s = .next (s.at n))

/-- Queue pairs (R457, R459, R460): an acknowledgement of part of an entry moves the oldest unacknowledged packet on, and that of its
last packet finishes the share and raises PROD; a NAK that names the request's fault, and a timeout with no attempt left, put
the queue pair into ERROR with 0x0C41; a timeout with attempts left resends; a CNP reduces the rate, and the two timers restore it. -/
def Obligations.QueuePairs : Prop :=
  (∀ (n c psn no k : Nat) (e : Entry) (s : State), s.qpLive c = true → s.get (PRT_Pn_STATUS.LINK (c / 4)) = 1 →
    k = (s.chan c).covers (psn % 2 ^ 24) + 1 → (s.chan c).acked < k → k ≤ (s.chan c).sent → (s.chan c).cur = some no →
    s.prt.entries.find? (fun x => x.no == no && x.shares.contains c) = some e → k ≠ s.chanPackets c e →
    ∃ t, exec (.roceAck n c psn) s = .next t ∧
      t.prt.chans = modNth (fun q => { q with
        acked := k, pkt := max q.pkt k, attempts := 0, timerAt := if k < q.sent then some ((s.at n).now) else none }) s.prt.chans c ∧
      { t with now := s.now, pwr.real := s.pwr.real, prt.chans := s.prt.chans } = s) ∧
  (∀ (n c psn no k : Nat) (e : Entry) (s : State), s.qpLive c = true → s.get (PRT_Pn_STATUS.LINK (c / 4)) = 1 →
    k = (s.chan c).covers (psn % 2 ^ 24) + 1 → (s.chan c).acked < k → k ≤ (s.chan c).sent → (s.chan c).cur = some no →
    s.prt.entries.find? (fun x => x.no == no && x.shares.contains c) = some e → k = s.chanPackets c e →
    ∃ t, exec (.roceAck n c psn) s = .next t ∧ t.get (PRT_CHn_PROD.PROD c) = (s.get (PRT_CHn_PROD.PROD c) + 1) % 2 ^ 32 ∧
      t.get (PRT_CHn_SENT.COUNT c) = (s.get (PRT_CHn_SENT.COUNT c) + 1) % 2 ^ 32 ∧
      t.prt.chans = modNth (fun q => { q with cur := none, psn0 := (q.psn0 + k) % 2 ^ 24, pkt := 0, sent := 0, acked := 0, attempts := 0,
                                              timerAt := none }) s.prt.chans c ∧
      onlyFields ([PRT_CHn_PROD.PROD c, PRT_CHn_SENT.COUNT c] ++ bufferFields) s t ∧ t.sys = s.sys ∧ t.nv = s.nv) ∧
  (∀ (n c psn syn : Nat) (s : State), s.qpLive c = true → s.get (PRT_Pn_STATUS.LINK (c / 4)) = 1 → 0x61 ≤ syn → syn ≤ 0x63 →
    ∃ t, exec (.roceNak n c psn syn) s = .next t ∧ t.get (PRT_CHn_QP_STATE.STATE c) = 2 ∧ t.get PRT_EVENTS.QP_ERROR = 1 ∧
      (s.held < 62 → t.isActive 0x0C41 c = true) ∧
      onlyFields ([PRT_CHn_QP_STATE.STATE c, PRT_EVENTS.QP_ERROR] ++ faultFields) s t ∧ t.prt.entries = s.prt.entries ∧ t.sys = s.sys ∧ t.nv.cells = s.nv.cells) ∧
  (∀ (n c a : Nat) (s : State), s.qpLive c = true → s.get (PRT_Pn_STATUS.LINK (c / 4)) = 1 → (s.chan c).timerAt = some a →
    100 * a + 65536 * 2 ^ s.get (PRT_CHn_RDMA_CFG.TIMEOUT c) ≤ 100 * (s.at n).now → (s.chan c).attempts ≤ s.get (PRT_CHn_RDMA_CFG.RETRY c) →
    ∃ t, exec (.roceAckTimeout n c) s = .next t ∧ t.get (PRT_CHn_RETRANS.COUNT c) = (s.get (PRT_CHn_RETRANS.COUNT c) + 1) % 2 ^ 32 ∧
      t.prt.chans = modNth (fun q => { q with pkt := (s.chan c).acked, attempts := (s.chan c).attempts + 1, timerAt := some ((s.at n).now) })
        s.prt.chans c ∧
      onlyFields [PRT_CHn_RETRANS.COUNT c] s t ∧ { t with now := s.now, pwr.real := s.pwr.real, regs := s.regs, prt.chans := s.prt.chans } = s) ∧
  (∀ (n c a : Nat) (s : State), s.qpLive c = true → s.get (PRT_Pn_STATUS.LINK (c / 4)) = 1 → (s.chan c).timerAt = some a →
    100 * a + 65536 * 2 ^ s.get (PRT_CHn_RDMA_CFG.TIMEOUT c) ≤ 100 * (s.at n).now → s.get (PRT_CHn_RDMA_CFG.RETRY c) < (s.chan c).attempts →
    ∃ t, exec (.roceAckTimeout n c) s = .next t ∧ t.get (PRT_CHn_QP_STATE.STATE c) = 2 ∧ t.get PRT_EVENTS.QP_ERROR = 1 ∧
      (s.held < 62 → t.isActive 0x0C41 c = true) ∧
      onlyFields ([PRT_CHn_QP_STATE.STATE c, PRT_EVENTS.QP_ERROR] ++ faultFields) s t ∧ t.prt.entries = s.prt.entries ∧ t.sys = s.sys ∧ t.nv.cells = s.nv.cells) ∧
  (∀ (n c : Nat) (s : State), s.qpLive c = true → (∀ a, (s.chan c).cutAt = some a → a + 50 * us ≤ (s.at n).now) →
    ∃ t, exec (.roceCnp n c) s = .next t ∧ t.get (PRT_CHn_CNP_COUNT.COUNT c) = (s.get (PRT_CHn_CNP_COUNT.COUNT c) + 1) % 2 ^ 32 ∧
      t.prt.chans = modNth (·.cnp ((s.at n).now)) s.prt.chans c ∧ onlyFields [PRT_CHn_CNP_COUNT.COUNT c, PRT_CHn_RATE.MBPS c] s t ∧
      { t with now := s.now, pwr.real := s.pwr.real, regs := s.regs, prt.chans := s.prt.chans } = s) ∧
  (∀ (n c : Nat) (s : State), s.qpLive c = true → (s.chan c).alphaAt + 55 * us ≤ (s.at n).now →
    ∃ t, exec (.dcqcnAlphaTimer n c) s = .next t ∧
      t.prt.chans = modNth (fun q => { q with alpha := q.alpha * 15 / 16, alphaAt := q.alphaAt + 55 * us }) s.prt.chans c ∧
      { t with now := s.now, pwr.real := s.pwr.real, prt.chans := s.prt.chans } = s) ∧
  (∀ (n c : Nat) (s : State), s.qpLive c = true → (s.chan c).rateAt + 300 * us ≤ (s.at n).now → c < s.prt.chans.length →
    (s.chan c).k < 5 →
    ∃ t, exec (.dcqcnRateTimer n c) s = .next t ∧ (t.chan c).k = (s.chan c).k + 1 ∧ (t.chan c).rt = (s.chan c).rt ∧
      (t.chan c).rc = lowest ((s.chan c).rc.1 * (s.chan c).rt.2 + (s.chan c).rt.1 * (s.chan c).rc.2, 2 * (s.chan c).rc.2 * (s.chan c).rt.2) ∧
      onlyFields [PRT_CHn_RATE.MBPS c] s t ∧ { t with now := s.now, pwr.real := s.pwr.real, regs := s.regs, prt.chans := s.prt.chans } = s)

/-- Registers of ports and channels (R12, R433, R436, R455, R458): a Toson channel enabled by a write of its control register, an RDMA
channel whose settings pass in RTS; the REFUSE code of one whose settings fail, and of a transport that does not exist; a channel disabled;
CONS between its value and PROD, and refused elsewhere; an address of a port while none of its channels is enabled and a destination of a channel while it is not; the counts cleared. -/
def Obligations.ChannelRegisters : Prop :=
  (∀ (n c v : Nat) (s : State), s.takes (0xC0800 + 0x80 * c) = true → c < 16 → s.sys.mode ≠ .load →
    s.get (PRT_CHn_CTRL.EN c) = 0 → (PRT_CHn_CTRL.EN c).ofWord v = 1 →
    (PRT_CHn_CTRL.TRANSPORT c).ofWord v = 1 →
    ∃ t, exec (.channelCtrlWrite n c v) s = .next t ∧ t.get (PRT_CHn_CTRL.EN c) = 1 ∧ t.get (PRT_CHn_CTRL.TRANSPORT c) = 1 ∧
      t.get (PRT_CHn_CTRL.DSCP c) = (PRT_CHn_CTRL.DSCP c).ofWord v ∧ t.get (PRT_CHn_STATUS.REFUSE c) = 0 ∧
      onlyFields [PRT_CHn_CTRL.EN c, PRT_CHn_CTRL.TRANSPORT c, PRT_CHn_CTRL.DSCP c, PRT_CHn_STATUS.REFUSE c] s t ∧
      { t with now := s.now, pwr.real := s.pwr.real, regs := s.regs, prt.chans := s.prt.chans } = s) ∧
  (∀ (n c v : Nat) (s : State), s.takes (0xC0800 + 0x80 * c) = true → c < 16 → s.sys.mode ≠ .load →
    s.get (PRT_CHn_CTRL.EN c) = 0 → (PRT_CHn_CTRL.EN c).ofWord v = 1 → (PRT_CHn_CTRL.TRANSPORT c).ofWord v = 2 → s.rdmaRefuse c = 0 →
    ∃ t, exec (.channelCtrlWrite n c v) s = .next t ∧ t.get (PRT_CHn_CTRL.EN c) = 1 ∧ t.get (PRT_CHn_CTRL.TRANSPORT c) = 2 ∧
      t.get (PRT_CHn_QP_STATE.STATE c) = 1 ∧ t.get (PRT_CHn_STATUS.REFUSE c) = 0 ∧
      ((s.chan c).cur = none → t.get (PRT_CHn_PROD.PROD c) = 0 ∧ t.get (PRT_CHn_CONS.CONS c) = 0) ∧
      onlyFields [PRT_CHn_CTRL.EN c, PRT_CHn_CTRL.TRANSPORT c, PRT_CHn_CTRL.DSCP c, PRT_CHn_STATUS.REFUSE c, PRT_CHn_QP_STATE.STATE c,
        PRT_CHn_PROD.PROD c, PRT_CHn_CONS.CONS c, PRT_CHn_RATE.MBPS c] s t ∧
      { t with now := s.now, pwr.real := s.pwr.real, regs := s.regs, prt.chans := s.prt.chans } = s) ∧
  (∀ (n c v : Nat) (s : State), s.takes (0xC0800 + 0x80 * c) = true → c < 16 → s.sys.mode ≠ .load →
    ((PRT_CHn_CTRL.TRANSPORT c).ofWord v = 3 ∨ (PRT_CHn_CTRL.EN c).ofWord v = 1 ∧ (PRT_CHn_CTRL.TRANSPORT c).ofWord v = 0) →
    ∃ t, exec (.channelCtrlWrite n c v) s = .next t ∧ t.get (PRT_CHn_CTRL.EN c) = s.get (PRT_CHn_CTRL.EN c) ∧
      t.get (PRT_CHn_STATUS.REFUSE c) = 4 ∧ t.get ENG_LAST_REFUSE.STATUS = 1 ∧ onlyRegs s t) ∧
  (∀ (n c v : Nat) (s : State), s.takes (0xC0800 + 0x80 * c) = true → c < 16 → s.sys.mode ≠ .load →
    s.get (PRT_CHn_CTRL.EN c) = 0 → (PRT_CHn_CTRL.EN c).ofWord v = 1 →
    (PRT_CHn_CTRL.TRANSPORT c).ofWord v = 2 → s.rdmaRefuse c ≠ 0 →
    ∃ t, exec (.channelCtrlWrite n c v) s = .next t ∧ t.get (PRT_CHn_CTRL.EN c) = 0 ∧ t.get (PRT_CHn_STATUS.REFUSE c) = s.rdmaRefuse c ∧
      t.get ENG_LAST_REFUSE.STATUS = 1 ∧ t.get ENG_LAST_REFUSE_ADDR.ADDR = 0xC0800 + 0x80 * c ∧ onlyRegs s t) ∧
  (∀ (n c v : Nat) (s : State), s.takes (0xC0800 + 0x80 * c) = true → c < 16 → s.sys.mode ≠ .load →
    s.get (PRT_CHn_CTRL.EN c) = 1 → (PRT_CHn_CTRL.EN c).ofWord v = 0 →
    (PRT_CHn_CTRL.TRANSPORT c).ofWord v ≠ 3 → s.get (PRT_CHn_QP_STATE.STATE c) ≠ 2 →
    ∃ t, exec (.channelCtrlWrite n c v) s = .next t ∧ t.get (PRT_CHn_CTRL.EN c) = 0 ∧ t.get (PRT_CHn_QP_STATE.STATE c) = 0 ∧
      t.get (PRT_CHn_OFF_DISCARD.COUNT c) =
        (s.get (PRT_CHn_OFF_DISCARD.COUNT c) + (s.prt.entries.filter fun e => e.shares.contains c).length) % 2 ^ 32 ∧
      (s.alm.unheld = [] → t.isActive 0x0C41 c = false) ∧
      onlyFields ([PRT_CHn_CTRL.EN c, PRT_CHn_CTRL.TRANSPORT c, PRT_CHn_CTRL.DSCP c, PRT_CHn_QP_STATE.STATE c, PRT_CHn_OFF_DISCARD.COUNT c] ++
        bufferFields ++ faultFields) s t ∧ t.prt.ports = s.prt.ports ∧ t.sys = s.sys ∧ t.nv.cells = s.nv.cells) ∧
  (∀ (n c v : Nat) (s : State), s.takes (0xC0850 + 0x80 * c) = true → c < 16 → s.sys.mode ≠ .load →
    (v % 2 ^ 32 + 2 ^ 32 - s.get (PRT_CHn_CONS.CONS c)) % 2 ^ 32 ≤
      (s.get (PRT_CHn_PROD.PROD c) + 2 ^ 32 - s.get (PRT_CHn_CONS.CONS c)) % 2 ^ 32 →
    ∃ t, exec (.consWrite n c v) s = .next t ∧ t.get (PRT_CHn_CONS.CONS c) = v % 2 ^ 32 ∧ onlyFields [PRT_CHn_CONS.CONS c] s t ∧
      onlyRegs s t) ∧
  (∀ (n c v : Nat) (s : State), s.takes (0xC0850 + 0x80 * c) = true → c < 16 → s.sys.mode ≠ .load →
    (s.get (PRT_CHn_PROD.PROD c) + 2 ^ 32 - s.get (PRT_CHn_CONS.CONS c)) % 2 ^ 32 <
      (v % 2 ^ 32 + 2 ^ 32 - s.get (PRT_CHn_CONS.CONS c)) % 2 ^ 32 →
    ∃ t, exec (.consWrite n c v) s = .next t ∧ t.get (PRT_CHn_CONS.CONS c) = s.get (PRT_CHn_CONS.CONS c) ∧
      t.get ENG_LAST_REFUSE.STATUS = 1 ∧ onlyRegs s t) ∧
  (∀ (n p v : Nat) (s : State), s.takes (0xC0108 + 0x100 * p) = true → p < 4 → s.sys.mode ≠ .load → s.portOn p = false →
    ∃ t, exec (.portConfigWrite n (0xC0108 + 0x100 * p) v) s = .next t ∧ t.get (PRT_Pn_IP.ADDR p) = v % 2 ^ 32 ∧
      onlyFields [PRT_Pn_IP.ADDR p] s t ∧ onlyRegs s t) ∧
  (∀ (n c v : Nat) (s : State), s.takes (0xC0808 + 0x80 * c) = true → c < 16 → s.sys.mode ≠ .load → s.get (PRT_CHn_CTRL.EN c) = 0 →
    ∃ t, exec (.portConfigWrite n (0xC0808 + 0x80 * c) v) s = .next t ∧ t.get (PRT_CHn_DST_IP.ADDR c) = v % 2 ^ 32 ∧
      onlyFields [PRT_CHn_DST_IP.ADDR c] s t ∧ onlyRegs s t) ∧
  (∀ (n : Nat) (s : State), s.takes 0xC0030 = true → ∃ t, exec (.prtClrCounts n) s = .next t ∧ t.get PRT_BB_DROP_COUNT.COUNT = 0 ∧
    t.get PRT_BB_LIVE_DROP.COUNT = 0 ∧ t.get PRT_BB_FLUSH_COUNT.COUNT = 0 ∧
    (∀ p, p < 4 → t.get (PRT_Pn_RX_DISCARD.COUNT p) = 0 ∧ t.get (PRT_Pn_LINKDOWN_COUNT.COUNT p) = 0 ∧ t.get (PRT_Pn_FEC_CORR.COUNT p) = 0) ∧
    (∀ c, c < 16 → t.get (PRT_CHn_SENT.COUNT c) = 0 ∧ t.get (PRT_CHn_CNP_COUNT.COUNT c) = 0 ∧ t.get (PRT_CHn_RETRANS.COUNT c) = 0) ∧
    { t with now := s.now, pwr.real := s.pwr.real, regs := s.regs, prt.ports := s.prt.ports } = s)

/-- The burst buffer's control and its capture (R442, R443): MODE and LIVE_DEPTH outside RUN in IDLE; ARM in CAPTURE_THEN_DRAIN and IDLE;
STOP in ARMED and in CAPTURING; CAPTURING at a boundary at least 50 µs after the ARM in RUN; DRAINING once the entries asked for are
captured, and IDLE again where none is held. -/
def Obligations.Capture : Prop :=
  (∀ (n v : Nat) (s : State), s.takes 0xC0000 = true → s.sys.mode ≠ .load → s.sys.run = false →
    s.get PRT_BB_STATE.CAP = 0 → PRT_BB_CTRL.MODE.ofWord v ≠ 3 →
    PRT_BB_CTRL.LIVE_DEPTH.ofWord v ≠ 0 →
    ∃ t, exec (.prtBbCtrlWrite n v) s = .next t ∧ t.get PRT_BB_CTRL.MODE = PRT_BB_CTRL.MODE.ofWord v ∧
      t.get PRT_BB_CTRL.LIVE_DEPTH = PRT_BB_CTRL.LIVE_DEPTH.ofWord v ∧ onlyFields [PRT_BB_CTRL.MODE, PRT_BB_CTRL.LIVE_DEPTH] s t ∧
      onlyRegs s t) ∧
  (∀ (n : Nat) (s : State), s.takes 0xC0008 = true → s.imaging = true → s.get PRT_BB_CTRL.MODE = 2 → s.get PRT_BB_STATE.CAP = 0 →
    ∃ t, exec (.bbArm n) s = .next t ∧ t.get PRT_BB_STATE.CAP = 1 ∧ t.prt.armAt = (s.at n).now ∧ t.prt.stopDue = false ∧
      onlyFields [PRT_BB_STATE.CAP] s t ∧
      { t with now := s.now, pwr.real := s.pwr.real, regs := s.regs, prt.armAt := s.prt.armAt, prt.stopDue := s.prt.stopDue } = s) ∧
  (∀ (n : Nat) (s : State), s.takes 0xC0008 = true →
    (s.imaging = false ∨ s.get PRT_BB_CTRL.MODE ≠ 2 ∨ s.get PRT_BB_STATE.CAP ≠ 0) →
    ∃ t, exec (.bbArm n) s = .next t ∧ t.get PRT_BB_STATE.CAP = s.get PRT_BB_STATE.CAP ∧ t.get ENG_LAST_REFUSE.STATUS = 1 ∧ onlyRegs s t) ∧
  (∀ (n : Nat) (s : State), s.takes 0xC0008 = true → s.get PRT_BB_STATE.CAP = 1 →
    ∃ t, exec (.bbStop n) s = .next t ∧ t.get PRT_BB_STATE.CAP = 0 ∧ onlyFields [PRT_BB_STATE.CAP] s t ∧ onlyRegs s t) ∧
  (∀ (n : Nat) (s : State), s.takes 0xC0008 = true → s.get PRT_BB_STATE.CAP = 2 →
    exec (.bbStop n) s = .next { s.at n with prt.stopDue := true }) ∧
  (∀ (n : Nat) (s : State), s.get PRT_BB_STATE.CAP = 1 → s.sys.run = true → (s.at n).atBoundary = true →
    s.prt.armAt + 50 * us ≤ 16 * ((s.at n).now / 16) →
    ∃ t, exec (.captureStart n) s = .next t ∧ t.get PRT_BB_STATE.CAP = 2 ∧ t.get PRT_BB_CAPTURED.COUNT = 0 ∧
      onlyFields [PRT_BB_STATE.CAP, PRT_BB_CAPTURED.COUNT] s t ∧ onlyRegs s t) ∧
  (∀ (n : Nat) (s : State), s.get PRT_BB_STATE.CAP = 2 → s.get PRT_BB_CAP_FRAMES.COUNT ≠ 0 →
    s.get PRT_BB_CAP_FRAMES.COUNT ≤ s.get PRT_BB_CAPTURED.COUNT → s.prt.entries.any (·.captured) = true →
    ∃ t, exec (.drainStart n) s = .next t ∧ t.get PRT_BB_STATE.CAP = 3 ∧ t.prt.entries = s.prt.entries ∧
      onlyFields [PRT_BB_STATE.CAP] s t ∧ { t with now := s.now, pwr.real := s.pwr.real, regs := s.regs, prt.stopDue := s.prt.stopDue } = s) ∧
  (∀ (n : Nat) (s : State), s.get PRT_BB_STATE.CAP = 2 → s.sys.run = false → s.prt.entries.any (·.captured) = false →
    ∃ t, exec (.drainStart n) s = .next t ∧ t.get PRT_BB_STATE.CAP = 0 ∧ t.get PRT_EVENTS.DRAIN_DONE = 1 ∧
      t.prt.entries = s.prt.entries ∧ onlyFields [PRT_BB_STATE.CAP, PRT_EVENTS.DRAIN_DONE] s t) ∧
  (∀ (n : Nat) (s : State), (s.get PRT_BB_STATE.CAP ≠ 1 ∨ s.sys.run = false ∨ (s.at n).atBoundary = false) →
    ∃ t, exec (.captureStart n) s = .next t ∧ onlyTime s t) ∧
  (∀ (n : Nat) (s : State), s.get PRT_BB_STATE.CAP ≠ 2 → ∃ t, exec (.drainStart n) s = .next t ∧ onlyTime s t)

/-- FLUSH (R445): outside RUN every admitted entry whose shares are not all finished is discarded and counted, and every channel restarts
with the next entry admitted; during RUN it is refused with an access error and the buffer stays. -/
def Obligations.FlushDiscards : Prop :=
  (∀ (n : Nat) (s : State), s.takes 0xC0008 = true → s.sys.run = false →
    ∃ t, exec (.bbFlush n) s = .next t ∧ t.prt.entries = [] ∧
      t.get PRT_BB_FLUSH_COUNT.COUNT = (s.get PRT_BB_FLUSH_COUNT.COUNT +
        (s.prt.entries.filter fun e => !e.shares.isEmpty || !e.complete).length) % 2 ^ PRT_BB_FLUSH_COUNT.COUNT.width ∧
      t.prt.chans = s.prt.chans.map ChanS.restart ∧ (∀ q ∈ t.prt.chans, q.cur = none ∧ q.idx = 0 ∧ q.pkt = 0) ∧
      t.get PRT_BB_STATE.ENTRIES = 0 ∧ onlyFields ([PRT_BB_FLUSH_COUNT.COUNT] ++ bufferFields) s t ∧ t.sys = s.sys ∧ t.nv = s.nv) ∧
  (∀ (n : Nat) (s : State), s.takes 0xC0008 = true → s.sys.run = true →
    ∃ t, exec (.bbFlush n) s = .next t ∧ t.get ENG_LAST_REFUSE.STATUS = 1 ∧ t.get ENG_LAST_REFUSE.REASON = 0x0C ∧ t.prt = s.prt ∧
      onlyFields [ENG_LAST_REFUSE.REASON, ENG_LAST_REFUSE.STATUS, ENG_LAST_REFUSE.OP, ENG_LAST_REFUSE_ADDR.ADDR] s t ∧ onlyRegs s t)

/-! ### TMP -/

/-- Sessions (R472, R474 to R478): OPEN from an allowed source gives a session under a number not used before; AUTH with the
custodian's signature makes it a custodian session; a TOKEN whose signature and count are right is held by it; CLOSE ends it; KEEPALIVE
answers ENG_STATUS; a datagram that is no request is counted; a repeated request repeats its reply and does nothing, and one out of
sequence is an error; in Slate and Black the wake logic answers with STATUS 3 (R151). -/
def Obligations.TmpSessions : Prop :=
  (∀ (n : Nat) (q : TmpReq) (s : State), s.get PWR_STATUS.STATE < 4 → s.tmpUp = true → s.sys.recovery = false → headerBad 1 q = none →
    s.aclOk q.srcIp = true → s.tmp.sessions.length < 4 → (∀ e ∈ s.tmp.sessions, e.ip ≠ q.srcIp ∨ e.port ≠ q.srcPort) →
    (nth 0 q.payload 0 = 0 ∨ ∀ e ∈ s.tmp.sessions, e.role = 0) →
    ∃ t e b, exec (.tmpOpen n q) s = .next t ∧ t.tmp.sessions = s.tmp.sessions ++ [e] ∧ e.ip = q.srcIp ∧ e.port = q.srcPort ∧
      e.role = nth 0 q.payload 0 ∧ e.seq = q.seq ∧ e.last = (s.at n).now ∧ e.no ≠ 0 ∧ e.no ∉ s.tmp.used ∧ t.tmp.used = e.no :: s.tmp.used ∧
      t.get ENG_SESSIONS.COUNT = s.tmp.sessions.length + 1 ∧ t.out = .tmpReply q.srcIp q.srcPort b :: s.out ∧
      onlyFields [ENG_TMP_RX.COUNT, ENG_SESSIONS.COUNT, ENG_SESSIONS.CUST] s t ∧
      { t with now := s.now, pwr.real := s.pwr.real, regs := s.regs, out := s.out, free := s.free, tmp := s.tmp } = s) ∧
  (∀ (n : Nat) (q : TmpReq) (e : Sess) (k : List Nat) (s : State), Served 2 q e s → s.sys.recovery = false → e.role = 1 →
    s.custKey (leVal (q.payload.take 2)) = some k → edVerify k (q.payload.drop 4) (authMessage e.no e.nonce) = true →
    ∃ t, exec (.tmpAuth n q) s = .next t ∧ Answered 2 q {} s t ∧ t.get ENG_SESSIONS.CUST = 1 ∧
      t.tmp.sessions = s.tmp.sessions.map (fun x => if x.no = q.session
        then { x with role := 2, last := (s.at n).now, seq := q.seq, held := replyBytes 2 q q.session {} } else x) ∧
      onlyFields [ENG_TMP_RX.COUNT, ENG_SESSIONS.COUNT, ENG_SESSIONS.CUST] s t ∧
      { t with now := s.now, pwr.real := s.pwr.real, regs := s.regs, out := s.out, tmp := s.tmp } = s) ∧
  (∀ (n : Nat) (q : TmpReq) (e : Sess) (k : List Nat) (s : State), Served 2 q e s → s.sys.recovery = false → e.role = 1 →
    s.custKey (leVal (q.payload.take 2)) = some k → edVerify k (q.payload.drop 4) (authMessage e.no e.nonce) = false →
    ∃ t, exec (.tmpAuth n q) s = .next t ∧ Answered 2 q (no 4 0x0203) s t ∧
      t.tmp.sessions = s.tmp.sessions.filter (·.no != q.session) ∧ t.get ENG_LAST_REFUSE.STATUS = 4 ∧ t.get ENG_LAST_REFUSE.REASON = 0x0203) ∧
  (∀ (n : Nat) (q : TmpReq) (e : Sess) (k : List Nat) (s : State), Served 9 q e s → s.sys.recovery = false → e.role = 2 →
    s.custKey (tkKey q.payload) = some k → edVerify k (tkSig q.payload) (tokenMessage q.payload) = true →
    tkCount q.payload = s.tally (tkSetting q.payload) + 1 → s.tally (tkSetting q.payload) < tallyTotal (tkSetting q.payload) →
    ∃ t, exec (.tmpToken n q) s = .next t ∧ Answered 9 q {} s t ∧
      t.tmp.sessions = s.tmp.sessions.map (fun x => if x.no = q.session
        then { x with token := some ⟨tkSetting q.payload, tkKey q.payload, tkCount q.payload, tkRequest q.payload⟩,
                      last := (s.at n).now, seq := q.seq, held := replyBytes 9 q q.session {} } else x) ∧
      onlyFields [ENG_TMP_RX.COUNT] s t ∧ { t with now := s.now, pwr.real := s.pwr.real, regs := s.regs, out := s.out, tmp := s.tmp } = s) ∧
  (∀ (n : Nat) (q : TmpReq) (e : Sess) (s : State), Served 3 q e s →
    ∃ t, exec (.tmpClose n q) s = .next t ∧ Answered 3 q {} s t ∧ t.tmp.sessions = s.tmp.sessions.filter (·.no != q.session) ∧
      onlyFields [ENG_TMP_RX.COUNT, ENG_SESSIONS.COUNT, ENG_SESSIONS.CUST] s t ∧
      { t with now := s.now, pwr.real := s.pwr.real, regs := s.regs, out := s.out, tmp := s.tmp } = s) ∧
  (∀ (n : Nat) (q : TmpReq) (e : Sess) (s : State), Served 10 q e s → e.role ≠ 1 →
    ∃ t, exec (.tmpKeepalive n q) s = .next t ∧ Answered 10 q { payload := leBytes 4 (s.at n).engStatus } s t ∧
      onlyFields [ENG_TMP_RX.COUNT] s t ∧ { t with now := s.now, pwr.real := s.pwr.real, regs := s.regs, out := s.out, tmp := s.tmp } = s) ∧
  (∀ (n ip port : Nat) (d : List Nat) (s : State), d.length < 24 → s.tmpUp = true →
    ∃ t, exec (.tmpDiscard n ip port d) s = .next t ∧ t.get ENG_TMP_DISCARD.COUNT = (s.get ENG_TMP_DISCARD.COUNT + 1) % 2 ^ 32 ∧
      onlyFields [ENG_TMP_DISCARD.COUNT] s t ∧ onlyRegs s t) ∧
  (∀ (n : Nat) (q : TmpReq) (e : Sess) (s : State), s.get PWR_STATUS.STATE < 4 → s.tmpUp = true → headerBad 5 q = none →
    s.sessOf q = some e → s.tmp.waits = [] → q.seq = e.seq →
    ∃ t, exec (.tmpWrite n q) s = .next t ∧ t.out = .tmpReply q.srcIp q.srcPort e.held :: s.out ∧
      t.get ENG_TMP_RETRY.COUNT = (s.get ENG_TMP_RETRY.COUNT + 1) % 2 ^ 32 ∧
      onlyFields [ENG_TMP_RX.COUNT, ENG_TMP_RETRY.COUNT, ENG_TMP_ERR.COUNT] s t ∧
      { t with now := s.now, pwr.real := s.pwr.real, regs := s.regs, out := s.out, tmp := s.tmp } = s) ∧
  (∀ (n : Nat) (q : TmpReq) (e : Sess) (s : State), s.get PWR_STATUS.STATE < 4 → s.tmpUp = true → headerBad 10 q = none →
    s.sessOf q = some e → s.tmp.waits = [] → q.seq ≠ e.seq → q.seq ≠ (e.seq + 1) % 2 ^ 32 →
    ∃ t, exec (.tmpKeepalive n q) s = .next t ∧ Answered 10 q (no 5 0x0101) s t ∧ t.get ENG_LAST_REFUSE.STATUS = 5 ∧
      t.get ENG_LAST_REFUSE.REASON = 0x0101 ∧
      { t with now := s.now, pwr.real := s.pwr.real, regs := s.regs, out := s.out, tmp := s.tmp } = s) ∧
  (∀ (n : Nat) (q : TmpReq) (s : State), 4 ≤ s.get PWR_STATUS.STATE →
    ∃ t, exec (.tmpKeepalive n q) s = .next t ∧ Answered 10 q (no 3 0) s t ∧ t.get ENG_LAST_REFUSE.STATUS = 3 ∧
      { t with now := s.now, pwr.real := s.pwr.real, regs := s.regs, out := s.out } = s)

/-- Access by TMP (R94, R468, R469, R472): a READ answers COUNT values of four bytes and changes no register; a READ, a WRITE and a
MASKWRITE of a plain register give, set, and replace the masked bits of its value; a BLOCK_READ and a BLOCK_WRITE within the staging
window give and store its bytes. The register of the single accesses is PRT_BB_CAP_FRAMES. -/
def Obligations.TmpAccess : Prop :=
  (∀ (n : Nat) (q : TmpReq) (e : Sess) (s : State), Served 4 q e s → s.sys.recovery = false → e.role ≠ 1 → q.addr = 0xC0004 →
    q.count = 1 →
    ∃ t, exec (.tmpRead n q) s = .next t ∧ Answered 4 q { count := 1, payload := leBytes 4 (s.get PRT_BB_CAP_FRAMES.COUNT) } s t ∧
      onlyFields [ENG_TMP_RX.COUNT] s t ∧ { t with now := s.now, pwr.real := s.pwr.real, regs := s.regs, out := s.out, free := s.free, tmp := s.tmp } = s) ∧
  (∀ (n : Nat) (q : TmpReq) (e : Sess) (s : State), Served 4 q e s → s.sys.recovery = false → e.role ≠ 1 →
    q.addr + 4 * q.count ≤ 0x100000 →
    ∃ t a, exec (.tmpRead n q) s = .next t ∧ Answered 4 q a s t ∧ a.status = 0 ∧ a.count = q.count ∧ a.payload.length = 4 * q.count ∧
      { t with now := s.now, pwr.real := s.pwr.real, regs := s.regs, out := s.out, free := s.free, tmp := s.tmp } = s) ∧
  (∀ (n v : Nat) (q : TmpReq) (e : Sess) (s : State), Served 5 q e s → s.sys.recovery = false → e.role ≠ 1 → q.addr = 0xC0004 →
    q.count = 1 → byteWord q.payload 0 = v → v < 2 ^ 32 → s.sys.mode ≠ .load →
    ∃ t, exec (.tmpWrite n q) s = .next t ∧ Answered 5 q { count := 1 } s t ∧ t.get PRT_BB_CAP_FRAMES.COUNT = v ∧
      onlyFields [ENG_TMP_RX.COUNT, PRT_BB_CAP_FRAMES.COUNT] s t ∧
      { t with now := s.now, pwr.real := s.pwr.real, regs := s.regs, out := s.out, tmp := s.tmp } = s) ∧
  (∀ (n m v : Nat) (q : TmpReq) (e : Sess) (s : State), Served 6 q e s → s.sys.recovery = false → e.role ≠ 1 → q.addr = 0xC0004 →
    byteWord q.payload 0 = m → byteWord q.payload 1 = v → m < 2 ^ 32 → v < 2 ^ 32 → s.get PRT_BB_CAP_FRAMES.COUNT < 2 ^ 32 →
    s.sys.mode ≠ .load →
    ∃ t, exec (.tmpMaskwrite n q) s = .next t ∧ t.get PRT_BB_CAP_FRAMES.COUNT = maskWord (s.get PRT_BB_CAP_FRAMES.COUNT) m v ∧
      Answered 6 q { count := 1, payload := leBytes 4 (maskWord (s.get PRT_BB_CAP_FRAMES.COUNT) m v) } s t ∧
      onlyFields [ENG_TMP_RX.COUNT, PRT_BB_CAP_FRAMES.COUNT] s t ∧
      { t with now := s.now, pwr.real := s.pwr.real, regs := s.regs, out := s.out, tmp := s.tmp } = s) ∧
  (∀ (n o : Nat) (q : TmpReq) (e : Sess) (s : State), Served 7 q e s → s.sys.recovery = false → e.role ≠ 1 →
    windowOf q.addr q.count = some (true, o) →
    ∃ t, exec (.tmpBlockRead n q) s = .next t ∧ Answered 7 q { count := q.count, payload := s.img.staging.bytes o q.count } s t ∧
      onlyFields [ENG_TMP_RX.COUNT] s t ∧ { t with now := s.now, pwr.real := s.pwr.real, regs := s.regs, out := s.out, tmp := s.tmp } = s) ∧
  (∀ (n o : Nat) (q : TmpReq) (e : Sess) (s : State), Served 8 q e s → e.role ≠ 1 → windowOf q.addr q.count = some (true, o) →
    s.stagingBusy = false →
    ∃ t, exec (.tmpBlockWrite n q) s = .next t ∧ Answered 8 q { count := q.count } s t ∧
      t.img.staging = s.img.staging.store o q.payload ∧ onlyFields [ENG_TMP_RX.COUNT] s t ∧
      { t with now := s.now, pwr.real := s.pwr.real, regs := s.regs, out := s.out, tmp := s.tmp, img.staging := s.img.staging } = s)

/-! ### The store, the panel, counted changes, alarms -/

/-- The store at work (R491 to R497, R504): a journal record whose program ends is durable, the oldest program gone from the queue; an
erase that ends well is recorded and counted and its block is clean; one that fails retires its block with 0x0E0B; a relocation
outside RUN moves a block to the next spare block and retires it; a compaction appends a CHECKPOINT and erases all but the ring's
head. No cell changes. -/
def Obligations.StoreWork : Prop :=
  (∀ (n : Nat) (r : JRec) (rest : List Prog) (s : State), s.nvs.progs = .journal r none :: rest → r.type ≠ 0x31 → r.type ≠ 0x42 →
    ∃ t, exec (.nandProgramDone n true) s = .next t ∧ t.nvs.progs = rest ∧ t.nv.journal = r :: s.nv.journal ∧
      t.nv.jfree = (if (r.jseq + 511) % 512 = 0 then s.nv.jfree - 1 else s.nv.jfree) ∧ t.nv.cells = s.nv.cells ∧ t.sys = s.sys ∧
      t.nvs.erasing = s.nvs.erasing) ∧
  (∀ (n : Nat) (j : EraseJ) (rest : List EraseJ) (s : State), s.nvs.erasing = j :: rest → s.intentWaits j = false → j.slot = none →
    j.region ≠ 5 → s.erases j.phys < 99999 → s.nv.retired.contains j.phys = false →
    ∃ t r, exec (.nandEraseDone n true true) s = .next t ∧ t.nvs.erasing = rest ∧ t.nvs.progs = s.nvs.progs ++ [.journal r none] ∧
      r.type = 2 ∧ t.erases j.phys = s.erases j.phys + 1 ∧ j.phys ∉ t.nv.dirty ∧ onlyFields [] s t ∧ t.nv.cells = s.nv.cells ∧
      t.sys = s.sys ∧ t.ops = s.ops) ∧
  (∀ (n : Nat) (blank : Bool) (j : EraseJ) (rest : List EraseJ) (s : State), s.nvs.erasing = j :: rest → s.intentWaits j = false →
    j.slot = none → s.nv.spareUsed + 257 ≤ spareBlocks → s.get PWR_STATUS.PFW = 0 →
    ∃ t, exec (.nandEraseDone n false blank) s = .next t ∧ t.nv.retired = j.phys :: s.nv.retired ∧
      t.nv.spareUsed = s.nv.spareUsed + 1 ∧ t.get NVS_EVENTS.RETIRED = 1 ∧ (s.held < 62 → t.isActive 0x0E0B noInst = true) ∧
      onlyFields ([NVS_EVENTS.RETIRED] ++ faultFields) s t ∧
      (∃ j', t.nvs.erasing = rest ++ [j'] ∧ j'.phys = 5104 + s.nv.spareUsed) ∧ t.nv.cells = s.nv.cells ∧ t.sys = s.sys) ∧
  (∀ (n : Nat) (s : State), s.sys.run = false → s.get NVS_STATUS.STORE_OK = 1 → s.nv.spareUsed + 257 ≤ spareBlocks →
    ∃ t b, exec (.blockRelocation n) s = .next t ∧ t.phys b = 5104 + s.nv.spareUsed ∧ t.nv.spareUsed = s.nv.spareUsed + 1 ∧
      t.nv.retired = s.phys b :: s.nv.retired ∧ t.get NVS_EVENTS.RETIRED = 1 ∧ (s.held < 62 → t.isActive 0x0E0B noInst = true) ∧
      onlyFields ([NVS_EVENTS.RETIRED, NVS_ECC_CORR.COUNT] ++ faultFields) s t ∧ t.nv.cells = s.nv.cells ∧ t.sys = s.sys) ∧
  (∀ (n : Nat) (s : State), s.nv.jfree < 16 → s.get PWR_STATUS.PFW = 0 → s.get NVS_STATUS.STORE_OK = 1 →
    ∃ t r l, exec (.journalCompaction n) s = .next t ∧ t.get NVS_EVENTS.COMPACT = 1 ∧ onlyFields [NVS_EVENTS.COMPACT] s t ∧
      t.nvs.progs = s.nvs.progs ++ .journal r none :: l ∧ r.type = 0x81 ∧
      t.nvs.erasing.length = s.nvs.erasing.length + (255 - s.nv.jfree) ∧ t.nv.journal = s.nv.journal ∧ t.nv.cells = s.nv.cells ∧
      t.sys = s.sys)

/-- Shutdown, restart and the panel (R504, R512 to R514): in READY and QUARANTINE, with no operation and no warning, SHUTDOWN and RESTART
begin a panel refresh of their own under the next SEQ, and otherwise, or from the recovery loader (R502), SHUTDOWN is refused; the
durable SHUTDOWN record of a RESTART goes through reset to stage 1, the cells and the commands that wait kept; an automatic refresh begins when what the panel shows has changed; the end of the driving appends PANEL_END. -/
def Obligations.ShutdownAndPanel : Prop :=
  (∀ (n : Nat) (s : State), s.takes 0xE0004 = true → s.sys.recovery = false → (s.ready = true ∨ s.sys.mode = .quarantine) → s.opBusy = false →
    s.get PWR_STATUS.PFW = 0 → s.nvs.drive = none → s.nvs.driveWait = [] → s.nvs.stale = false →
    ∃ t d j, exec (.nvsShutdown n) s = .next t ∧ t.nvs.drive = some d ∧ d.purpose = 2 ∧ d.seq = s.nv.panelSeq + 1 ∧ t.nvs.restart = false ∧
      t.nv.panelSeq = s.nv.panelSeq + 1 ∧ t.nvs.progs = s.nvs.progs ++ [.journal j none] ∧ j.type = 0x30 ∧ onlyFields [] s t ∧
      { t with now := s.now, pwr.real := s.pwr.real, nv := s.nv, nvs := s.nvs } = s) ∧
  (∀ (n : Nat) (s : State), s.takes 0xE0004 = true →
    (s.sys.recovery = true ∨ (s.ready = false ∧ s.sys.mode ≠ .quarantine) ∨ s.opBusy = true ∨ s.get PWR_STATUS.PFW = 1) →
    ∃ t, exec (.nvsShutdown n) s = .next t ∧ t.get ENG_LAST_REFUSE.STATUS = 1 ∧ (s.sys.recovery = true → t.get ENG_LAST_REFUSE.REASON = 0x03) ∧
      onlyRegs s t) ∧
  (∀ (n : Nat) (s : State), s.takes 0xE0004 = true → (s.ready = true ∨ s.sys.mode = .quarantine) → s.opBusy = false →
    s.get PWR_STATUS.PFW = 0 → s.nvs.drive = none → s.nvs.driveWait = [] → s.nvs.stale = false →
    ∃ t d j, exec (.nvsRestart n) s = .next t ∧ t.nvs.drive = some d ∧ d.purpose = 3 ∧ d.seq = s.nv.panelSeq + 1 ∧ t.nvs.restart = true ∧
      t.nv.panelSeq = s.nv.panelSeq + 1 ∧ t.nvs.progs = s.nvs.progs ++ [.journal j none] ∧ j.type = 0x30 ∧ onlyFields [] s t ∧
      { t with now := s.now, pwr.real := s.pwr.real, nv := s.nv, nvs := s.nvs } = s) ∧
  (∀ (n : Nat) (r : JRec) (k : Option Nat) (rest : List Prog) (s : State), s.nvs.progs = .journal r k :: rest → r.type = 0x42 →
    r.comp = false → s.nvs.restart = true →
    ∃ t, exec (.nandProgramDone n true) s = .next t ∧ t.sys.stages = [1] ∧ t.sys.mode = .none ∧ t.sys.up = false ∧ t.now = 0 ∧
      t.alm.active = [] ∧ t.nvs.progs = [] ∧ t.tmp.sessions = [] ∧ t.tmp.used = s.tmp.used ∧ t.nv.cells = s.nv.cells ∧
      (∀ f : Fld, f.key ∉ [PWR_STATUS.PFW, PWR_STATUS.SOURCE, PWR_STATUS.AC_OK, PWR_STATUS.DC_OK, NVS_BOOT_COUNT.COUNT].map Fld.key →
        t.get f = f.reset) ∧ t.pending = s.pending) ∧
  (∀ (n : Nat) (s : State), s.get NVS_PNL_CTRL.AUTO_EN = 1 → s.get NVS_STATUS.STORE_OK = 1 → s.get PWR_STATUS.STATE ≤ 3 →
    s.nv.panelShown ≠ (s.at n).panelFields → s.nvs.lastAuto = none → s.nvs.drive = none → s.nvs.driveWait = [] → s.nvs.stale = false →
    s.get PWR_STATUS.PFW = 0 →
    ∃ t d, exec (.panelAutoRefresh n) s = .next t ∧ t.nvs.drive = some d ∧ d.purpose = 0 ∧ d.seq = s.nv.panelSeq + 1 ∧
      t.nvs.lastAuto = some ((s.at n).now) ∧ onlyFields [] s t ∧ { t with now := s.now, pwr.real := s.pwr.real, nv := s.nv, nvs := s.nvs } = s) ∧
  (∀ (n : Nat) (d : DriveJ) (s : State), s.nvs.drive = some d → (progRecs s.nvs.progs).any (·.type == 0x31) = false →
    ∃ t j, exec (.panelDriveDone n) s = .next t ∧ t.nvs.progs = s.nvs.progs ++ [.journal j d.slot] ∧ j.type = 0x31 ∧
      j.payload = leBytes 4 d.seq ∧ t.nvs.drive = some d ∧ onlyFields [] s t ∧ t.nv.cells = s.nv.cells ∧ t.sys = s.sys)

/-- Counted changes (R86, R123, R505, R506): an override with its token in QUARANTINE begins the burn of the next cell of its setting, the
INTENT recorded; the burn of a golden-slot unlock sets its cell and no other, and the slot's lock opens; a burn that fails leaves the
cells, raises 0x0E07 and is refused. -/
def Obligations.CountedChanges : Prop :=
  (∀ (n sess : Nat) (s : State), s.takes 0x148 = true → s.sys.mode = .quarantine → s.img.active.isSome = true →
    s.get ENG_COMPAT.OUTCOME = 1 →
    s.sys.escalated = false → s.get IMG_STATUS.OVERRIDE = 0 → s.countedRefusal sess 2 (s.comboRequest s.image) = none →
    s.get PWR_STATUS.PFW = 0 → s.nvs.burn = none → s.nvs.burnWait = [] →
    ∃ t b r, exec (.quarOverride n sess) s = .next t ∧ t.nvs.burn = some b ∧ b.setting = 2 ∧ b.cell = (tallyField 2).1 + s.tally 2 ∧
      b.count = s.tally 2 + 1 ∧ b.session = sess ∧ t.nv.tlog0 = r :: s.nv.tlog0 ∧ t.nv.tlog1 = r :: s.nv.tlog1 ∧ r.kind = 1 ∧
      t.nv.cells = s.nv.cells ∧ onlyFields [] s t ∧ { t with now := s.now, pwr.real := s.pwr.real, nv := s.nv, nvs := s.nvs } = s) ∧
  (∀ (n : Nat) (b : BurnS) (s : State), s.nvs.burn = some b → b.setting = 3 → b.slot = none → s.nvs.burnWait = [] → s.tmp.waits = [] →
    ∃ t r, exec (.tallyBurnDone n true) s = .next t ∧ t.nv.cells = s.nv.cells ||| 2 ^ b.cell ∧ t.nvs.burn = none ∧
      t.nv.tlog0 = r :: s.nv.tlog0 ∧ r.kind = 2 ∧ t.get IMG_GOLDEN.LOCKED = 0 ∧ t.img.unlocked = true ∧
      t.tmp.sessions = s.tmp.sessions.map (fun e => if e.no = b.session then { e with token := none } else e) ∧ t.sys = s.sys) ∧
  (∀ (n : Nat) (b : BurnS) (s : State), s.nvs.burn = some b → b.setting = 3 → b.slot = none → s.nvs.burnWait = [] → s.tmp.waits = [] →
    ∃ t r, exec (.tallyBurnDone n false) s = .next t ∧ t.nv.cells = s.nv.cells ∧ t.nvs.burn = none ∧ t.nv.tlog0 = r :: s.nv.tlog0 ∧
      r.kind = 3 ∧ t.get NVS_EVENTS.BURN_FAIL = 1 ∧ (s.held < 62 → t.isActive 0x0E07 3 = true) ∧ t.get ENG_LAST_REFUSE.STATUS = 1 ∧
      t.get ENG_LAST_REFUSE_ADDR.ADDR = 0x20028 ∧ t.get IMG_GOLDEN.LOCKED = s.get IMG_GOLDEN.LOCKED ∧ t.sys = s.sys)

/-- Acknowledgement and escalation (R521, R522, R527, R528): an acknowledged fault that may be is active no more; one that may not is
refused and stays; ALL acknowledges every one that may be. 0x0104 active for 60 s escalates once: 0x0F01, the cause and the count,
and QUARANTINE from an imaging mode. -/
def Obligations.AcknowledgementAndEscalation : Prop :=
  (∀ (n v : Nat) (s : State), s.takes 0xF0004 = true → ALM_ACK.ALL.ofWord v = 0 → ackable (ALM_ACK.CODE.ofWord v) = true →
    ∃ t, exec (.almAck n v) s = .next t ∧ (s.alm.unheld = [] → t.isActive (ALM_ACK.CODE.ofWord v) (ALM_ACK.INST.ofWord v) = false) ∧
      (s.alm.unheld = [] → ∀ e ∈ t.alm.active, e ∈ s.alm.active) ∧ onlyFields faultFields s t ∧ t.sys = s.sys ∧ t.nv.cells = s.nv.cells) ∧
  (∀ (n v : Nat) (s : State), s.takes 0xF0004 = true → ALM_ACK.ALL.ofWord v = 0 → ackable (ALM_ACK.CODE.ofWord v) = false →
    s.isActive (ALM_ACK.CODE.ofWord v) (ALM_ACK.INST.ofWord v) = true →
    ∃ t, exec (.almAck n v) s = .next t ∧ t.get ENG_LAST_REFUSE.STATUS = 1 ∧ t.get ENG_LAST_REFUSE_ADDR.ADDR = 0xF0004 ∧
      onlyFields [ENG_LAST_REFUSE.REASON, ENG_LAST_REFUSE.STATUS, ENG_LAST_REFUSE.OP, ENG_LAST_REFUSE_ADDR.ADDR] s t ∧ onlyRegs s t) ∧
  (∀ (n v : Nat) (s : State), s.takes 0xF0004 = true → ALM_ACK.ALL.ofWord v = 1 →
    ∃ t, exec (.almAck n v) s = .next t ∧ (s.alm.unheld = [] → ∀ code inst, ackable code = true → t.isActive code inst = false) ∧
      (s.alm.unheld = [] → ∀ code inst, ackable code = false → code ≠ 0x0F02 → t.isActive code inst = s.isActive code inst) ∧ t.sys = s.sys ∧
      t.nv.cells = s.nv.cells) ∧
  (∀ (n a : Nat) (s : State), s.alm.heatSince = some a → a + 60 * sec ≤ (s.at n).now → s.alm.escHeat = false → s.sys.escalated = false →
    s.isActive 0x0F01 noInst = false → s.opBusy = false →
    ∃ t, exec (.escalationTimer n 0x0104) s = .next t ∧ t.sys.escalated = true ∧ t.alm.escHeat = true ∧ t.isActive 0x0F01 noInst = true ∧
      t.get ALM_ESC_CAUSE.CODE = 0x0104 ∧ t.get ALM_ESC_COUNT.COUNT = (s.get ALM_ESC_COUNT.COUNT + 1) % 2 ^ ALM_ESC_COUNT.COUNT.width ∧
      t.get ALM_EVENTS.ESCALATED = 1 ∧ (s.imaging = true → t.sys.mode = .quarantine) ∧ (s.imaging = false → s.sys.mode ≠ .characterise →
        t.sys.mode = s.sys.mode) ∧ t.nv.cells = s.nv.cells)

/-! ### A register write -/

/-- REGISTER_WRITE (R12, R14, R159): a plain RW register takes the value; a 1 clears a W1C bit and a 0 leaves it; a register of RO fields
alone and a value out of range are refused and leave every register of the file but the newest refusal; the origin of a tile moves
outside RUN and LOAD. The registers are PRT_BB_CAP_FRAMES, PRT_EVENTS, PRT_BB_PAGES and CAL_SHUT_PERIOD. -/
def Obligations.RegisterWrites : Prop :=
  (∀ (n sess v : Nat) (s : State), s.takes 0xC0004 = true → s.sys.mode ≠ .load →
    ∃ t, exec (.registerWrite n sess 0xC0004 v) s = .next t ∧ t.get PRT_BB_CAP_FRAMES.COUNT = v % 2 ^ 32 ∧
      onlyFields [PRT_BB_CAP_FRAMES.COUNT] s t ∧ onlyRegs s t) ∧
  (∀ (n sess v : Nat) (s : State), s.takes 0xC002C = true → v < 256 →
    ∃ t, exec (.registerWrite n sess 0xC002C v) s = .next t ∧
      (∀ f ∈ [PRT_EVENTS.OVERRUN, PRT_EVENTS.DRAIN_DONE, PRT_EVENTS.LINK_DOWN, PRT_EVENTS.LINK_UP, PRT_EVENTS.QP_ERROR,
        PRT_EVENTS.PAUSE_LONG, PRT_EVENTS.ARP_FAIL, PRT_EVENTS.PLUGGABLE], s.get f < 2 → t.get f = if f.ofWord v = 1 then 0 else s.get f) ∧
      onlyFields [PRT_EVENTS.OVERRUN, PRT_EVENTS.DRAIN_DONE, PRT_EVENTS.LINK_DOWN, PRT_EVENTS.LINK_UP, PRT_EVENTS.QP_ERROR,
        PRT_EVENTS.PAUSE_LONG, PRT_EVENTS.ARP_FAIL, PRT_EVENTS.PLUGGABLE] s t ∧ onlyRegs s t) ∧
  (∀ (n sess v : Nat) (s : State), s.takes 0xC0010 = true →
    ∃ t, exec (.registerWrite n sess 0xC0010 v) s = .next t ∧ t.get ENG_LAST_REFUSE.STATUS = 1 ∧ t.get ENG_LAST_REFUSE.REASON = 0x01 ∧
      t.get ENG_LAST_REFUSE_ADDR.ADDR = 0xC0010 ∧
      onlyFields [ENG_LAST_REFUSE.REASON, ENG_LAST_REFUSE.STATUS, ENG_LAST_REFUSE.OP, ENG_LAST_REFUSE_ADDR.ADDR] s t ∧ onlyRegs s t) ∧
  (∀ (n sess v : Nat) (s : State), s.takes CAL_SHUT_PERIOD.S.addr = true → s.sys.mode ≠ .load →
    (CAL_SHUT_PERIOD.S.ofWord v < 10 ∨ 3600 < CAL_SHUT_PERIOD.S.ofWord v) →
    ∃ t, exec (.registerWrite n sess CAL_SHUT_PERIOD.S.addr v) s = .next t ∧ t.get ENG_LAST_REFUSE.STATUS = 1 ∧
      t.get ENG_LAST_REFUSE.REASON = 0x0D ∧ t.get CAL_SHUT_PERIOD.S = s.get CAL_SHUT_PERIOD.S ∧
      onlyFields [ENG_LAST_REFUSE.REASON, ENG_LAST_REFUSE.STATUS, ENG_LAST_REFUSE.OP, ENG_LAST_REFUSE_ADDR.ADDR] s t ∧ onlyRegs s t) ∧
  (∀ (n k v : Nat) (s : State), s.takes (0x40300 + 16 * k) = true → k < 8 → s.sys.mode ≠ .load → s.sys.run = false →
    ∃ t, exec (.fplGeomWrite n (0x40300 + 16 * k) v) s = .next t ∧ t.get (FPL_GEOMn_X.X k) = (FPL_GEOMn_X.X k).ofWord v ∧
      onlyFields [FPL_GEOMn_X.X k] s t ∧ onlyRegs s t)

/-! ### The whole machine -/

/-- Reset (R15): every register field reads its table's reset value, nothing is active or waiting, no cell is burnt, and the register
file is in its form. The contents of the store and of the histories at the very first reset are the model's choice (log entry 2). -/
def Obligations.ResetState : Prop :=
  (∀ f : Fld, State.reset.get f = f.reset) ∧ State.reset.pending = [] ∧ State.reset.alm.active = [] ∧ State.reset.nv.cells = 0 ∧
    State.reset.nvs.progs = [] ∧ State.reset.tmp.sessions = [] ∧ State.reset.fpl.frames = [] ∧ State.reset.sys.run = false ∧
    State.reset.regsOk

/-- No command sends commands: whatever a step does, what waits after it is the rest of the queue. -/
def Obligations.QueueTakenInOrder : Prop := ∀ (s t : State), step s = .next t → t.pending = s.pending.tail

/-- A burnt cell of the tally stays burnt (R505), through every step, a fall of the rails among them. -/
def Obligations.BurntCellsStay : Prop :=
  ∀ (s t : State) (k : Nat), step s = .next t → s.nv.cells.testBit k = true → t.nv.cells.testBit k = true

/-- The register file keeps its form through every step. -/
def Obligations.RegisterFormKept : Prop := ∀ (s t : State), s.regsOk → step s = .next t → t.regsOk
end

