-- ==== Sys2Proof/Laws/Sparse.lean ====
section
/-! SUPPORT. Laws of the sparse stores: read after write, and that every write keeps the canonical form. -/
namespace Sys2Proof.Machine
set_option Elab.async false

variable {α : Type} {d : α}

theorem Sparse.get_erase_ne (m : List (Nat × α)) {k j : Nat} (h : j ≠ k) :
    Sparse.get d (Sparse.erase m k) j = Sparse.get d m j := by
  induction m with
  | nil => rfl
  | cons e m ih =>
    obtain ⟨i, w⟩ := e
    by_cases hi : i = k
    · subst hi; simp [Sparse.erase, Sparse.get, h] at ih ⊢; exact ih
    · simp [Sparse.erase, Sparse.get, hi] at ih ⊢; rw [ih]

theorem Sparse.get_erase_self (m : List (Nat × α)) (k : Nat) : Sparse.get d (Sparse.erase m k) k = d := by
  induction m with
  | nil => rfl
  | cons e m ih =>
    obtain ⟨i, w⟩ := e
    by_cases hi : i = k
    · subst hi; simpa [Sparse.erase] using ih
    · simp [Sparse.erase, Sparse.get, hi] at ih ⊢
      rw [if_neg (fun h => hi h.symm)]; exact ih

theorem Sparse.above_iff {b : Nat} {m : List (Nat × α)} : Sparse.above b m = true ↔ ∀ e ∈ m, b < e.1 := by
  simp [Sparse.above]

theorem Sparse.above_cons {b : Nat} {e : Nat × α} {m : List (Nat × α)} :
    Sparse.above b (e :: m) = true ↔ b < e.1 ∧ Sparse.above b m = true := by
  simp [Sparse.above]

theorem Sparse.erase_above {m : List (Nat × α)} {k j : Nat} (h : Sparse.above j m = true) : Sparse.above j (Sparse.erase m k) = true := by
  rw [Sparse.above_iff] at *
  intro e he
  exact h e (List.mem_filter.1 he).1

variable [DecidableEq α]

/-- A key just written reads as written. -/
@[simp] theorem Sparse.get_put_self (m : List (Nat × α)) (k : Nat) (v : α) : Sparse.get d (Sparse.put d m k v) k = v := by
  induction m with
  | nil => by_cases h : v = d <;> simp [Sparse.put, Sparse.get, h]
  | cons e m ih =>
    obtain ⟨j, w⟩ := e
    by_cases h1 : k < j
    · by_cases h : v = d
      · have : k ≠ j := by omega
        subst h
        simp [Sparse.put, Sparse.get, h1, this, Sparse.get_erase_self]
      · simp [Sparse.put, Sparse.get, h1, h]
    · by_cases h2 : k = j
      · by_cases h : v = d
        · subst h; simp [Sparse.put, h2, Sparse.get_erase_self]
        · simp [Sparse.put, Sparse.get, h2, h]
      · simp [Sparse.put, Sparse.get, h1, h2, ih]

/-- Writing one key leaves every other key's reading. -/
@[simp] theorem Sparse.get_put_ne (m : List (Nat × α)) {k j : Nat} (v : α) (h : j ≠ k) :
    Sparse.get d (Sparse.put d m k v) j = Sparse.get d m j := by
  induction m with
  | nil => by_cases hv : v = d <;> simp [Sparse.put, Sparse.get, hv, h]
  | cons e m ih =>
    obtain ⟨i, w⟩ := e
    by_cases h1 : k < i
    · by_cases hv : v = d
      · simp [Sparse.put, Sparse.get, h1, hv, Sparse.get_erase_ne _ h]
      · simp [Sparse.put, Sparse.get, h1, hv, h]
    · by_cases h2 : k = i
      · subst h2
        by_cases hv : v = d <;> simp [Sparse.put, Sparse.get, hv, h, Sparse.get_erase_ne _ h]
      · simp [Sparse.put, Sparse.get, h1, h2, ih]

theorem Sparse.filter_wf (p : Nat × α → Bool) {m : List (Nat × α)} (h : Sparse.wf d m = true) : Sparse.wf d (m.filter p) = true := by
  induction m with
  | nil => rfl
  | cons e m ih =>
    obtain ⟨j, w⟩ := e
    simp only [Sparse.wf, Bool.and_eq_true] at h
    by_cases hp : p (j, w) = true
    · simp only [List.filter_cons_of_pos hp, Sparse.wf, Bool.and_eq_true]
      refine ⟨⟨h.1.1, ?_⟩, ih h.2⟩
      rw [Sparse.above_iff]
      intro e he
      exact Sparse.above_iff.1 h.1.2 e (List.mem_filter.1 he).1
    · rw [List.filter_cons_of_neg hp]
      exact ih h.2

/-- Erasing keeps the canonical form. -/
theorem Sparse.erase_wf {m : List (Nat × α)} (k : Nat) (h : Sparse.wf d m = true) : Sparse.wf d (Sparse.erase m k) = true :=
  Sparse.filter_wf _ h

theorem Sparse.put_above {m : List (Nat × α)} {b k : Nat} (v : α) (hk : b < k) (h : Sparse.above b m = true) :
    Sparse.above b (Sparse.put d m k v) = true := by
  induction m with
  | nil => by_cases hv : v = d <;> simp [Sparse.put, Sparse.above, hv, hk]
  | cons e m ih =>
    obtain ⟨j, w⟩ := e
    have hj : b < j := Sparse.above_iff.1 h _ (List.mem_cons_self ..)
    have hm : Sparse.above b m = true := Sparse.above_iff.2 fun e he => Sparse.above_iff.1 h e (List.mem_cons_of_mem _ he)
    have he := Sparse.erase_above (k := k) hm
    have hp := ih hm
    unfold Sparse.put
    split
    · split <;> simp [Sparse.above_cons, hj, hk, hm, he]
    · split
      · split <;> simp [Sparse.above_cons, hk, hm, he]
      · simp [Sparse.above_cons, hj, hp]

/-- A write keeps the canonical form. -/
theorem Sparse.put_wf {m : List (Nat × α)} (k : Nat) (v : α) (h : Sparse.wf d m = true) : Sparse.wf d (Sparse.put d m k v) = true := by
  induction m with
  | nil => by_cases hv : v = d <;> simp [Sparse.put, Sparse.wf, Sparse.above, hv]
  | cons e m ih =>
    obtain ⟨j, w⟩ := e
    simp only [Sparse.wf, Bool.and_eq_true, decide_eq_true_eq] at h
    obtain ⟨⟨hw, ha⟩, hm⟩ := h
    by_cases h1 : k < j
    · by_cases hv : v = d
      · simp [Sparse.put, Sparse.wf, h1, hv, hw, Sparse.erase_above ha, Sparse.erase_wf k hm]
      · simp only [Sparse.put, h1, hv, if_true, if_false, Sparse.wf, Bool.and_eq_true, decide_eq_true_eq]
        refine ⟨⟨hv, ?_⟩, ⟨hw, ha⟩, hm⟩
        rw [Sparse.above_iff]
        intro e he
        rcases List.mem_cons.1 he with rfl | he
        · exact h1
        · have := Sparse.above_iff.1 ha e he; omega
    · by_cases h2 : k = j
      · subst h2
        by_cases hv : v = d
        · simp [Sparse.put, hv, Sparse.erase_wf k hm]
        · simp [Sparse.put, Sparse.wf, hv, ha, hm]
      · have hk : j < k := by omega
        simp [Sparse.put, Sparse.wf, h1, h2, hw, ih hm, Sparse.put_above v hk ha]

/-- Successive writes keep the canonical form. -/
theorem Sparse.puts_wf (vs : List α) {m : List (Nat × α)} (k : Nat) (h : Sparse.wf d m = true) :
    Sparse.wf d (Sparse.puts d m k vs) = true := by
  induction vs generalizing m k with
  | nil => exact h
  | cons v vs ih => exact ih (k + 1) (Sparse.put_wf k v h)

/-- A store of bytes keeps a buffer's canonical form. -/
theorem Mem.store_wf {m : Mem} (a : Nat) (bs : List Nat) (h : Memory.wf m = true) : Memory.wf (m.store a bs) = true :=
  Sparse.puts_wf _ a h

/-- Bytes stored from `a` upward leave every byte outside them. -/
theorem Sparse.get_puts_out (vs : List α) {m : List (Nat × α)} {k j : Nat} (h : j < k ∨ k + vs.length ≤ j) :
    Sparse.get d (Sparse.puts d m k vs) j = Sparse.get d m j := by
  induction vs generalizing m k with
  | nil => rfl
  | cons v vs ih =>
    simp only [List.length_cons] at h
    simp only [Sparse.puts]
    rw [ih (by omega), Sparse.get_put_ne _ _ (by omega)]

/-- A byte of a buffer outside the bytes stored reads as before. -/
theorem Mem.byte_store_out {m : Mem} {a j : Nat} {bs : List Nat} (h : j < a ∨ a + bs.length ≤ j) :
    (m.store a bs).byte j = m.byte j := by
  simp only [Mem.byte, Mem.store]
  rw [Sparse.get_puts_out]
  simpa using h

/-- Bytes stored read back. -/
theorem Sparse.get_puts_in (vs : List α) {m : List (Nat × α)} {k i : Nat} (h : i < vs.length) :
    Sparse.get d (Sparse.puts d m k vs) (k + i) = vs[i] := by
  induction vs generalizing m k i with
  | nil => simp at h
  | cons v vs ih =>
    simp only [Sparse.puts]
    cases i with
    | zero => rw [Sparse.get_puts_out _ (by omega)]; simp
    | succ i =>
      have := ih (m := Sparse.put d m k v) (k := k + 1) (i := i) (by simpa using h)
      rw [show k + (i + 1) = k + 1 + i by omega, this]; simp

end Sys2Proof.Machine
end

