-- ==== Sys2Proof/Laws/State.lean ====
section
/-! SUPPORT. Laws of the state: what each of the basic updates leaves, field by field, and reading a register field after
writing one. -/
namespace Sys2Proof.Machine
set_option Elab.async false

/-! ### Updates and components -/

@[simp] theorem State.set_now (s : State) (f : Fld) (v : Nat) : (s.set f v).now = s.now := rfl
@[simp] theorem State.set_sys (s : State) (f : Fld) (v : Nat) : (s.set f v).sys = s.sys := rfl
@[simp] theorem State.set_gov (s : State) (f : Fld) (v : Nat) : (s.set f v).gov = s.gov := rfl
@[simp] theorem State.set_img (s : State) (f : Fld) (v : Nat) : (s.set f v).img = s.img := rfl
@[simp] theorem State.set_bring (s : State) (f : Fld) (v : Nat) : (s.set f v).bring = s.bring := rfl
@[simp] theorem State.set_pwr (s : State) (f : Fld) (v : Nat) : (s.set f v).pwr = s.pwr := rfl
@[simp] theorem State.set_fpl (s : State) (f : Fld) (v : Nat) : (s.set f v).fpl = s.fpl := rfl
@[simp] theorem State.set_vfe (s : State) (f : Fld) (v : Nat) : (s.set f v).vfe = s.vfe := rfl
@[simp] theorem State.set_cor (s : State) (f : Fld) (v : Nat) : (s.set f v).cor = s.cor := rfl
@[simp] theorem State.set_cal (s : State) (f : Fld) (v : Nat) : (s.set f v).cal = s.cal := rfl
@[simp] theorem State.set_swp (s : State) (f : Fld) (v : Nat) : (s.set f v).swp = s.swp := rfl
@[simp] theorem State.set_sol (s : State) (f : Fld) (v : Nat) : (s.set f v).sol = s.sol := rfl
@[simp] theorem State.set_fil (s : State) (f : Fld) (v : Nat) : (s.set f v).fil = s.fil := rfl
@[simp] theorem State.set_mon (s : State) (f : Fld) (v : Nat) : (s.set f v).mon = s.mon := rfl
@[simp] theorem State.set_prt (s : State) (f : Fld) (v : Nat) : (s.set f v).prt = s.prt := rfl
@[simp] theorem State.set_tmp (s : State) (f : Fld) (v : Nat) : (s.set f v).tmp = s.tmp := rfl
@[simp] theorem State.set_ops (s : State) (f : Fld) (v : Nat) : (s.set f v).ops = s.ops := rfl
@[simp] theorem State.set_nv (s : State) (f : Fld) (v : Nat) : (s.set f v).nv = s.nv := rfl
@[simp] theorem State.set_nvs (s : State) (f : Fld) (v : Nat) : (s.set f v).nvs = s.nvs := rfl
@[simp] theorem State.set_alm (s : State) (f : Fld) (v : Nat) : (s.set f v).alm = s.alm := rfl
@[simp] theorem State.set_out (s : State) (f : Fld) (v : Nat) : (s.set f v).out = s.out := rfl
@[simp] theorem State.set_free (s : State) (f : Fld) (v : Nat) : (s.set f v).free = s.free := rfl
@[simp] theorem State.set_pending (s : State) (f : Fld) (v : Nat) : (s.set f v).pending = s.pending := rfl

@[simp] theorem State.at_regs (s : State) (t : Nat) : (s.at t).regs = s.regs := rfl
@[simp] theorem State.at_sys (s : State) (t : Nat) : (s.at t).sys = s.sys := rfl
@[simp] theorem State.at_gov (s : State) (t : Nat) : (s.at t).gov = s.gov := rfl
@[simp] theorem State.at_img (s : State) (t : Nat) : (s.at t).img = s.img := rfl
@[simp] theorem State.at_bring (s : State) (t : Nat) : (s.at t).bring = s.bring := rfl
@[simp] theorem State.at_pwr (s : State) (t : Nat) : (s.at t).pwr = { s.pwr with real := max s.pwr.real t } := rfl
@[simp] theorem State.at_fpl (s : State) (t : Nat) : (s.at t).fpl = s.fpl := rfl
@[simp] theorem State.at_vfe (s : State) (t : Nat) : (s.at t).vfe = s.vfe := rfl
@[simp] theorem State.at_cor (s : State) (t : Nat) : (s.at t).cor = s.cor := rfl
@[simp] theorem State.at_cal (s : State) (t : Nat) : (s.at t).cal = s.cal := rfl
@[simp] theorem State.at_swp (s : State) (t : Nat) : (s.at t).swp = s.swp := rfl
@[simp] theorem State.at_sol (s : State) (t : Nat) : (s.at t).sol = s.sol := rfl
@[simp] theorem State.at_fil (s : State) (t : Nat) : (s.at t).fil = s.fil := rfl
@[simp] theorem State.at_mon (s : State) (t : Nat) : (s.at t).mon = s.mon := rfl
@[simp] theorem State.at_prt (s : State) (t : Nat) : (s.at t).prt = s.prt := rfl
@[simp] theorem State.at_tmp (s : State) (t : Nat) : (s.at t).tmp = s.tmp := rfl
@[simp] theorem State.at_ops (s : State) (t : Nat) : (s.at t).ops = s.ops := rfl
@[simp] theorem State.at_nv (s : State) (t : Nat) : (s.at t).nv = s.nv := rfl
@[simp] theorem State.at_nvs (s : State) (t : Nat) : (s.at t).nvs = s.nvs := rfl
@[simp] theorem State.at_alm (s : State) (t : Nat) : (s.at t).alm = s.alm := rfl
@[simp] theorem State.at_out (s : State) (t : Nat) : (s.at t).out = s.out := rfl
@[simp] theorem State.at_free (s : State) (t : Nat) : (s.at t).free = s.free := rfl
@[simp] theorem State.at_pending (s : State) (t : Nat) : (s.at t).pending = s.pending := rfl

@[simp] theorem State.emit_now (s : State) (o : Output) : (s.emit o).now = s.now := rfl
@[simp] theorem State.emit_regs (s : State) (o : Output) : (s.emit o).regs = s.regs := rfl
@[simp] theorem State.emit_sys (s : State) (o : Output) : (s.emit o).sys = s.sys := rfl
@[simp] theorem State.emit_gov (s : State) (o : Output) : (s.emit o).gov = s.gov := rfl
@[simp] theorem State.emit_img (s : State) (o : Output) : (s.emit o).img = s.img := rfl
@[simp] theorem State.emit_bring (s : State) (o : Output) : (s.emit o).bring = s.bring := rfl
@[simp] theorem State.emit_pwr (s : State) (o : Output) : (s.emit o).pwr = s.pwr := rfl
@[simp] theorem State.emit_fpl (s : State) (o : Output) : (s.emit o).fpl = s.fpl := rfl
@[simp] theorem State.emit_vfe (s : State) (o : Output) : (s.emit o).vfe = s.vfe := rfl
@[simp] theorem State.emit_cor (s : State) (o : Output) : (s.emit o).cor = s.cor := rfl
@[simp] theorem State.emit_cal (s : State) (o : Output) : (s.emit o).cal = s.cal := rfl
@[simp] theorem State.emit_swp (s : State) (o : Output) : (s.emit o).swp = s.swp := rfl
@[simp] theorem State.emit_sol (s : State) (o : Output) : (s.emit o).sol = s.sol := rfl
@[simp] theorem State.emit_fil (s : State) (o : Output) : (s.emit o).fil = s.fil := rfl
@[simp] theorem State.emit_mon (s : State) (o : Output) : (s.emit o).mon = s.mon := rfl
@[simp] theorem State.emit_prt (s : State) (o : Output) : (s.emit o).prt = s.prt := rfl
@[simp] theorem State.emit_tmp (s : State) (o : Output) : (s.emit o).tmp = s.tmp := rfl
@[simp] theorem State.emit_ops (s : State) (o : Output) : (s.emit o).ops = s.ops := rfl
@[simp] theorem State.emit_nv (s : State) (o : Output) : (s.emit o).nv = s.nv := rfl
@[simp] theorem State.emit_nvs (s : State) (o : Output) : (s.emit o).nvs = s.nvs := rfl
@[simp] theorem State.emit_alm (s : State) (o : Output) : (s.emit o).alm = s.alm := rfl
@[simp] theorem State.emit_free (s : State) (o : Output) : (s.emit o).free = s.free := rfl
@[simp] theorem State.emit_pending (s : State) (o : Output) : (s.emit o).pending = s.pending := rfl

@[simp] theorem State.nextFree_now (s : State)  : (s.nextFree).now = s.now := rfl
@[simp] theorem State.nextFree_regs (s : State)  : (s.nextFree).regs = s.regs := rfl
@[simp] theorem State.nextFree_sys (s : State)  : (s.nextFree).sys = s.sys := rfl
@[simp] theorem State.nextFree_gov (s : State)  : (s.nextFree).gov = s.gov := rfl
@[simp] theorem State.nextFree_img (s : State)  : (s.nextFree).img = s.img := rfl
@[simp] theorem State.nextFree_bring (s : State)  : (s.nextFree).bring = s.bring := rfl
@[simp] theorem State.nextFree_pwr (s : State)  : (s.nextFree).pwr = s.pwr := rfl
@[simp] theorem State.nextFree_fpl (s : State)  : (s.nextFree).fpl = s.fpl := rfl
@[simp] theorem State.nextFree_vfe (s : State)  : (s.nextFree).vfe = s.vfe := rfl
@[simp] theorem State.nextFree_cor (s : State)  : (s.nextFree).cor = s.cor := rfl
@[simp] theorem State.nextFree_cal (s : State)  : (s.nextFree).cal = s.cal := rfl
@[simp] theorem State.nextFree_swp (s : State)  : (s.nextFree).swp = s.swp := rfl
@[simp] theorem State.nextFree_sol (s : State)  : (s.nextFree).sol = s.sol := rfl
@[simp] theorem State.nextFree_fil (s : State)  : (s.nextFree).fil = s.fil := rfl
@[simp] theorem State.nextFree_mon (s : State)  : (s.nextFree).mon = s.mon := rfl
@[simp] theorem State.nextFree_prt (s : State)  : (s.nextFree).prt = s.prt := rfl
@[simp] theorem State.nextFree_tmp (s : State)  : (s.nextFree).tmp = s.tmp := rfl
@[simp] theorem State.nextFree_ops (s : State)  : (s.nextFree).ops = s.ops := rfl
@[simp] theorem State.nextFree_nv (s : State)  : (s.nextFree).nv = s.nv := rfl
@[simp] theorem State.nextFree_nvs (s : State)  : (s.nextFree).nvs = s.nvs := rfl
@[simp] theorem State.nextFree_alm (s : State)  : (s.nextFree).alm = s.alm := rfl
@[simp] theorem State.nextFree_out (s : State)  : (s.nextFree).out = s.out := rfl
@[simp] theorem State.nextFree_pending (s : State)  : (s.nextFree).pending = s.pending := rfl

@[simp] theorem State.set_regs (s : State) (f : Fld) (v : Nat) : (s.set f v).regs = s.regs.set f v := rfl
@[simp] theorem State.at_now (s : State) (t : Nat) :
    (s.at t).now = if s.get PWR_STATUS.STATE = 5 then s.now else max s.now t := rfl
@[simp] theorem State.at_wall (s : State) (t : Nat) : (s.at t).wall = max s.wall t := by
  simp only [State.wall, State.at]; split <;> omega
@[simp] theorem State.emit_out (s : State) (o : Output) : (s.emit o).out = o :: s.out := rfl
@[simp] theorem State.nextFree_free (s : State) : s.nextFree.free = s.free + 1 := rfl
@[simp] theorem State.asleep_at (s : State) (t : Nat) : (s.at t).asleep = s.asleep := rfl
/-- Outside Black REFTICK goes on to the instant of the command. -/
theorem State.at_now_on (s : State) (t : Nat) (h : s.get PWR_STATUS.STATE ≠ 5) : (s.at t).now = max s.now t := if_neg h
theorem State.at_of_le (s : State) (t : Nat) (h : t ≤ s.now) (hr : t ≤ s.pwr.real) : s.at t = s := by
  simp [State.at, Nat.max_eq_left h, Nat.max_eq_left hr]

/-! ### The writes that come down to one -/

@[simp] theorem State.seti_eq (s : State) (f : Fld) (v : Int) : s.seti f v = s.set f (unsigned f.width v) := rfl
@[simp] theorem State.setb_eq (s : State) (f : Fld) (b : Bool) : s.setb f b = s.set f (b2n b) := rfl
@[simp] theorem State.add_eq (s : State) (f : Fld) (n : Nat) : s.add f n = s.set f (s.get f + n) := rfl
@[simp] theorem State.inc_eq (s : State) (f : Fld) : s.inc f = s.set f (s.get f + 1) := rfl
@[simp] theorem State.incSat_eq (s : State) (f : Fld) : s.incSat f = s.set f (min (s.get f + 1) (2 ^ f.width - 1)) := rfl
@[simp] theorem State.set64_eq (s : State) (lo hi : Fld) (v : Nat) : s.set64 lo hi v = (s.set lo v).set hi (v / 2 ^ 32) := rfl
@[simp] theorem State.on_eq (s : State) (f : Fld) : s.on f = (s.get f == 1) := rfl
@[simp] theorem State.setAll_nil (s : State) (v : Nat) : s.setAll [] v = s := rfl
@[simp] theorem State.setAll_cons (s : State) (f : Fld) (fs : List Fld) (v : Nat) : s.setAll (f :: fs) v = (s.set f v).setAll fs v := rfl

/-! ### Reading after writing -/

/-- A field just written reads as the low bits of the value (R7). -/
@[simp] theorem RegFile.get_set_self (r : RegFile) (f : Fld) (v : Nat) : (r.set f v).get f = v % 2 ^ f.width := by
  simp [RegFile.get, RegFile.set, Nat.xor_assoc]

/-- A field with another home keeps its value. -/
@[simp] theorem RegFile.get_set_ne (r : RegFile) {f g : Fld} (v : Nat) (h : g.key ≠ f.key) : (r.set f v).get g = r.get g := by
  simp [RegFile.get, RegFile.set, h]

@[simp] theorem State.get_set_self (s : State) (f : Fld) (v : Nat) : (s.set f v).get f = v % 2 ^ f.width :=
  RegFile.get_set_self ..

@[simp] theorem State.get_set_ne (s : State) {f g : Fld} (v : Nat) (h : g.key ≠ f.key) : (s.set f v).get g = s.get g :=
  RegFile.get_set_ne _ _ h

@[simp] theorem State.get_at (s : State) (t : Nat) (f : Fld) : (s.at t).get f = s.get f := rfl
@[simp] theorem State.get_emit (s : State) (o : Output) (f : Fld) : (s.emit o).get f = s.get f := rfl
@[simp] theorem State.get_nextFree (s : State) (f : Fld) : s.nextFree.get f = s.get f := rfl

/-- A field of a state written out: the register file alone decides. -/
@[simp] theorem State.get_mk (now regs sys gov img bring pwr fpl vfe cor cal swp sol fil mon prt tmp ops nv nvs alm out free pending)
    (f : Fld) : (State.mk now regs sys gov img bring pwr fpl vfe cor cal swp sol fil mon prt tmp ops nv nvs alm out free
      pending).get f = regs.get f := rfl

/-- Only the register file decides what a field reads as. -/
theorem State.get_congr {s t : State} (h : t.regs = s.regs) (f : Fld) : t.get f = s.get f :=
  congrArg (fun r => RegFile.get r f) h

/-- A field at its reset value after reset. -/
@[simp] theorem State.reset_get (f : Fld) : State.reset.get f = f.reset := by
  simp [State.get, State.reset, RegFile.get, Sparse.get]

@[simp] theorem State.regs_get (s : State) (f : Fld) : RegFile.get s.regs f = s.get f := rfl

/-! ### The canonical form of the register file -/

theorem RegFile.set_wf {r : RegFile} (f : Fld) (v : Nat) (h : Sparse.wf 0 r = true) : Sparse.wf 0 (r.set f v) = true :=
  Sparse.put_wf _ _ h

end Sys2Proof.Machine
end

