-- ==== Sys2Proof/Laws/Ops.lean ====
section
/-! SUPPORT. Laws of the shared operations: what a fault raised or cleared, an event log entry, a journal record and a refused
write can change. -/
namespace Sys2Proof.Machine
set_option Elab.async false

/-! ### The event log (R519) and the journal (R493) -/

@[simp] theorem State.logEvent_now (s : State) (code kind inst : Nat) : (s.logEvent code kind inst).now = s.now := by
  unfold State.logEvent; dsimp only; repeat' split
  all_goals rfl
@[simp] theorem State.logEvent_sys (s : State) (code kind inst : Nat) : (s.logEvent code kind inst).sys = s.sys := by
  unfold State.logEvent; dsimp only; repeat' split
  all_goals rfl
@[simp] theorem State.logEvent_gov (s : State) (code kind inst : Nat) : (s.logEvent code kind inst).gov = s.gov := by
  unfold State.logEvent; dsimp only; repeat' split
  all_goals rfl
@[simp] theorem State.logEvent_img (s : State) (code kind inst : Nat) : (s.logEvent code kind inst).img = s.img := by
  unfold State.logEvent; dsimp only; repeat' split
  all_goals rfl
@[simp] theorem State.logEvent_bring (s : State) (code kind inst : Nat) : (s.logEvent code kind inst).bring = s.bring := by
  unfold State.logEvent; dsimp only; repeat' split
  all_goals rfl
@[simp] theorem State.logEvent_pwr (s : State) (code kind inst : Nat) : (s.logEvent code kind inst).pwr = s.pwr := by
  unfold State.logEvent; dsimp only; repeat' split
  all_goals rfl
@[simp] theorem State.logEvent_fpl (s : State) (code kind inst : Nat) : (s.logEvent code kind inst).fpl = s.fpl := by
  unfold State.logEvent; dsimp only; repeat' split
  all_goals rfl
@[simp] theorem State.logEvent_vfe (s : State) (code kind inst : Nat) : (s.logEvent code kind inst).vfe = s.vfe := by
  unfold State.logEvent; dsimp only; repeat' split
  all_goals rfl
@[simp] theorem State.logEvent_cor (s : State) (code kind inst : Nat) : (s.logEvent code kind inst).cor = s.cor := by
  unfold State.logEvent; dsimp only; repeat' split
  all_goals rfl
@[simp] theorem State.logEvent_cal (s : State) (code kind inst : Nat) : (s.logEvent code kind inst).cal = s.cal := by
  unfold State.logEvent; dsimp only; repeat' split
  all_goals rfl
@[simp] theorem State.logEvent_swp (s : State) (code kind inst : Nat) : (s.logEvent code kind inst).swp = s.swp := by
  unfold State.logEvent; dsimp only; repeat' split
  all_goals rfl
@[simp] theorem State.logEvent_sol (s : State) (code kind inst : Nat) : (s.logEvent code kind inst).sol = s.sol := by
  unfold State.logEvent; dsimp only; repeat' split
  all_goals rfl
@[simp] theorem State.logEvent_fil (s : State) (code kind inst : Nat) : (s.logEvent code kind inst).fil = s.fil := by
  unfold State.logEvent; dsimp only; repeat' split
  all_goals rfl
@[simp] theorem State.logEvent_mon (s : State) (code kind inst : Nat) : (s.logEvent code kind inst).mon = s.mon := by
  unfold State.logEvent; dsimp only; repeat' split
  all_goals rfl
@[simp] theorem State.logEvent_prt (s : State) (code kind inst : Nat) : (s.logEvent code kind inst).prt = s.prt := by
  unfold State.logEvent; dsimp only; repeat' split
  all_goals rfl
@[simp] theorem State.logEvent_tmp (s : State) (code kind inst : Nat) : (s.logEvent code kind inst).tmp = s.tmp := by
  unfold State.logEvent; dsimp only; repeat' split
  all_goals rfl
@[simp] theorem State.logEvent_ops (s : State) (code kind inst : Nat) : (s.logEvent code kind inst).ops = s.ops := by
  unfold State.logEvent; dsimp only; repeat' split
  all_goals rfl
@[simp] theorem State.logEvent_alm (s : State) (code kind inst : Nat) : (s.logEvent code kind inst).alm = s.alm := by
  unfold State.logEvent; dsimp only; repeat' split
  all_goals rfl
@[simp] theorem State.logEvent_out (s : State) (code kind inst : Nat) : (s.logEvent code kind inst).out = s.out := by
  unfold State.logEvent; dsimp only; repeat' split
  all_goals rfl
@[simp] theorem State.logEvent_free (s : State) (code kind inst : Nat) : (s.logEvent code kind inst).free = s.free := by
  unfold State.logEvent; dsimp only; repeat' split
  all_goals rfl
@[simp] theorem State.logEvent_pending (s : State) (code kind inst : Nat) : (s.logEvent code kind inst).pending = s.pending := by
  unfold State.logEvent; dsimp only; repeat' split
  all_goals rfl

@[simp] theorem State.logEvent_cells (s : State) (code kind inst : Nat) : (s.logEvent code kind inst).nv.cells = s.nv.cells := by
  unfold State.logEvent; dsimp only; repeat' split
  all_goals rfl
@[simp] theorem State.logEvent_journal (s : State) (code kind inst : Nat) : (s.logEvent code kind inst).nv.journal = s.nv.journal := by
  unfold State.logEvent; dsimp only; repeat' split
  all_goals rfl
theorem State.logEvent_get (s : State) (code kind inst : Nat) {f : Fld} (h : f.key ≠ NVS_LOG_LOST.COUNT.key) :
    (s.logEvent code kind inst).get f = s.get f := by
  unfold State.logEvent; dsimp only; repeat' split
  · rfl
  · simp [h]
  · rfl
theorem State.logEvent_wf {s : State} (h : Sparse.wf 0 s.regs = true) (code kind inst : Nat) :
    Sparse.wf 0 (s.logEvent code kind inst).regs = true := by
  unfold State.logEvent; dsimp only; repeat' split
  · exact h
  · exact RegFile.set_wf _ _ h
  · exact h

@[simp] theorem State.journal_now (s : State) (ty : Nat) (p : List Nat) (k : Option Nat) : (s.journal ty p k).now = s.now := by
  rfl
@[simp] theorem State.journal_sys (s : State) (ty : Nat) (p : List Nat) (k : Option Nat) : (s.journal ty p k).sys = s.sys := by
  rfl
@[simp] theorem State.journal_gov (s : State) (ty : Nat) (p : List Nat) (k : Option Nat) : (s.journal ty p k).gov = s.gov := by
  rfl
@[simp] theorem State.journal_img (s : State) (ty : Nat) (p : List Nat) (k : Option Nat) : (s.journal ty p k).img = s.img := by
  rfl
@[simp] theorem State.journal_bring (s : State) (ty : Nat) (p : List Nat) (k : Option Nat) : (s.journal ty p k).bring = s.bring := by
  rfl
@[simp] theorem State.journal_pwr (s : State) (ty : Nat) (p : List Nat) (k : Option Nat) : (s.journal ty p k).pwr = s.pwr := by
  rfl
@[simp] theorem State.journal_fpl (s : State) (ty : Nat) (p : List Nat) (k : Option Nat) : (s.journal ty p k).fpl = s.fpl := by
  rfl
@[simp] theorem State.journal_vfe (s : State) (ty : Nat) (p : List Nat) (k : Option Nat) : (s.journal ty p k).vfe = s.vfe := by
  rfl
@[simp] theorem State.journal_cor (s : State) (ty : Nat) (p : List Nat) (k : Option Nat) : (s.journal ty p k).cor = s.cor := by
  rfl
@[simp] theorem State.journal_cal (s : State) (ty : Nat) (p : List Nat) (k : Option Nat) : (s.journal ty p k).cal = s.cal := by
  rfl
@[simp] theorem State.journal_swp (s : State) (ty : Nat) (p : List Nat) (k : Option Nat) : (s.journal ty p k).swp = s.swp := by
  rfl
@[simp] theorem State.journal_sol (s : State) (ty : Nat) (p : List Nat) (k : Option Nat) : (s.journal ty p k).sol = s.sol := by
  rfl
@[simp] theorem State.journal_fil (s : State) (ty : Nat) (p : List Nat) (k : Option Nat) : (s.journal ty p k).fil = s.fil := by
  rfl
@[simp] theorem State.journal_mon (s : State) (ty : Nat) (p : List Nat) (k : Option Nat) : (s.journal ty p k).mon = s.mon := by
  rfl
@[simp] theorem State.journal_prt (s : State) (ty : Nat) (p : List Nat) (k : Option Nat) : (s.journal ty p k).prt = s.prt := by
  rfl
@[simp] theorem State.journal_tmp (s : State) (ty : Nat) (p : List Nat) (k : Option Nat) : (s.journal ty p k).tmp = s.tmp := by
  rfl
@[simp] theorem State.journal_ops (s : State) (ty : Nat) (p : List Nat) (k : Option Nat) : (s.journal ty p k).ops = s.ops := by
  rfl
@[simp] theorem State.journal_alm (s : State) (ty : Nat) (p : List Nat) (k : Option Nat) : (s.journal ty p k).alm = s.alm := by
  rfl
@[simp] theorem State.journal_out (s : State) (ty : Nat) (p : List Nat) (k : Option Nat) : (s.journal ty p k).out = s.out := by
  rfl
@[simp] theorem State.journal_free (s : State) (ty : Nat) (p : List Nat) (k : Option Nat) : (s.journal ty p k).free = s.free := by
  rfl
@[simp] theorem State.journal_pending (s : State) (ty : Nat) (p : List Nat) (k : Option Nat) : (s.journal ty p k).pending = s.pending := by
  rfl

@[simp] theorem State.journal_regs (s : State) (ty : Nat) (p : List Nat) (k : Option Nat) : (s.journal ty p k).regs = s.regs := rfl
@[simp] theorem State.journal_get (s : State) (ty : Nat) (p : List Nat) (k : Option Nat) (f : Fld) : (s.journal ty p k).get f = s.get f := rfl
@[simp] theorem State.journal_cells (s : State) (ty : Nat) (p : List Nat) (k : Option Nat) : (s.journal ty p k).nv.cells = s.nv.cells := rfl
@[simp] theorem State.journal_jseq (s : State) (ty : Nat) (p : List Nat) (k : Option Nat) : (s.journal ty p k).nv.jseq = s.nv.jseq + 1 := rfl
theorem State.config_eq (s : State) (addr v : Nat) : s.config addr v = s.journal 0x50 (leBytes 4 addr ++ leBytes 4 v) none := rfl

/-! ### Faults (R521, R523) -/

/-- The register fields that a fault raised or cleared can change. -/
def almFields : List Fld :=
  [ALM_EVENTS.RAISED, ALM_EVENTS.CLEARED, ALM_EVENTS.OVERFLOW, ALM_RAISE_COUNT.COUNT, ALM_OVERFLOW_COUNT.COUNT, NVS_LOG_LOST.COUNT]

/-- What a fault raised or cleared leaves as it was. -/
structure AlmOnly (s t : State) : Prop where
  rest : { t with regs := s.regs, alm := s.alm, nv := s.nv, nvs := s.nvs } = s
  nv : { t.nv with events := s.nv.events } = s.nv
  nvs : { t.nvs with logWait := s.nvs.logWait } = s.nvs
  get : ∀ f : Fld, f.key ∉ almFields.map Fld.key → t.get f = s.get f

theorem AlmOnly.refl (s : State) : AlmOnly s s := ⟨rfl, rfl, rfl, fun _ _ => rfl⟩

theorem AlmOnly.trans {s t u : State} (a : AlmOnly s t) (b : AlmOnly t u) : AlmOnly s u := by
  obtain ⟨a1, a2, a3, a4⟩ := a
  obtain ⟨b1, b2, b3, b4⟩ := b
  refine ⟨?_, ?_, ?_, fun f h => (b4 f h).trans (a4 f h)⟩
  · rw [← b1] at a1; exact a1
  · rw [← b2] at a2; exact a2
  · rw [← b3] at a3; exact a3

theorem AlmOnly.of_set (s : State) {f : Fld} (v : Nat) (h : f.key ∈ almFields.map Fld.key) : AlmOnly s (s.set f v) :=
  ⟨rfl, rfl, rfl, fun _ hg => State.get_set_ne s v fun e => hg (e ▸ h)⟩

theorem AlmOnly.of_alm (s : State) (a : AlmS) : AlmOnly s { s with alm := a } := ⟨rfl, rfl, rfl, fun _ _ => rfl⟩

theorem AlmOnly.of_logEvent (s : State) (code kind inst : Nat) : AlmOnly s (s.logEvent code kind inst) := by
  refine ⟨?_, ?_, ?_, fun f h => State.logEvent_get s code kind inst fun e => h (by rw [e]; decide)⟩
  all_goals
    unfold State.logEvent; dsimp only; repeat' split
    all_goals rfl

theorem AlmOnly.of_hold (s : State) (code inst : Nat) : AlmOnly s (s.hold code inst) := AlmOnly.of_alm s _

theorem AlmOnly.of_raiseNew (s : State) (code inst : Nat) : AlmOnly s (s.raiseNew code inst) := by
  have h0 : AlmOnly s (((s.logEvent code 1 inst).inc ALM_RAISE_COUNT.COUNT).set ALM_EVENTS.RAISED 1) :=
    ((AlmOnly.of_logEvent s code 1 inst).trans (AlmOnly.of_set _ _ (by decide))).trans (AlmOnly.of_set _ _ (by decide))
  unfold State.raiseNew
  dsimp only
  generalize ((s.logEvent code 1 inst).inc ALM_RAISE_COUNT.COUNT).set ALM_EVENTS.RAISED 1 = u at *
  split
  · exact h0.trans (AlmOnly.of_hold ..)
  · have h1 : AlmOnly s ((u.inc ALM_OVERFLOW_COUNT.COUNT).set ALM_EVENTS.OVERFLOW 1) :=
      (h0.trans (AlmOnly.of_set _ _ (by decide))).trans (AlmOnly.of_set _ _ (by decide))
    generalize (u.inc ALM_OVERFLOW_COUNT.COUNT).set ALM_EVENTS.OVERFLOW 1 = w at *
    have h2 : AlmOnly s (if ackable code then w else { w with alm.unheld := (code, inst) :: w.alm.unheld.erase (code, inst) }) := by
      split
      · exact h1
      · exact h1.trans (AlmOnly.of_alm ..)
    generalize (if ackable code then w else _ : State) = x at *
    split
    · exact h2
    · exact ((h2.trans (AlmOnly.of_logEvent ..)).trans (AlmOnly.of_set _ _ (by decide))).trans (AlmOnly.of_hold ..)

/-- A fault raised changes only the active table, the event log and their counts. -/
theorem AlmOnly.of_fault (s : State) (code inst : Nat) : AlmOnly s (s.fault code inst) := by
  unfold State.fault
  split
  · exact (AlmOnly.of_set s (f := ALM_EVENTS.RAISED) 1 (by decide)).trans (AlmOnly.of_alm ..)
  · exact AlmOnly.of_raiseNew ..

theorem AlmOnly.of_drop1 (s : State) (code inst : Nat) : AlmOnly s (s.drop1 code inst) :=
  ((AlmOnly.of_alm s _).trans (AlmOnly.of_logEvent ..)).trans (AlmOnly.of_set _ _ (by decide))

theorem AlmOnly.of_restoreUnheld (l : List (Nat × Nat)) (s : State) : AlmOnly s (s.restoreUnheld l) := by
  induction l generalizing s with
  | nil => exact AlmOnly.refl s
  | cons p l ih =>
    unfold State.restoreUnheld
    split
    · refine AlmOnly.trans ?_ (ih _)
      have h1 := AlmOnly.of_logEvent s p.1 1 p.2
      have h2 := AlmOnly.of_set (s.logEvent p.1 1 p.2) (f := ALM_RAISE_COUNT.COUNT)
        ((s.logEvent p.1 1 p.2).get ALM_RAISE_COUNT.COUNT + 1) (by decide)
      have h3 := AlmOnly.of_set ((s.logEvent p.1 1 p.2).inc ALM_RAISE_COUNT.COUNT) (f := ALM_EVENTS.RAISED) 1 (by decide)
      have h4 := AlmOnly.of_hold (((s.logEvent p.1 1 p.2).inc ALM_RAISE_COUNT.COUNT).set ALM_EVENTS.RAISED 1) p.1 p.2
      exact (((h1.trans h2).trans h3).trans h4).trans (AlmOnly.of_alm _ _)
    · exact AlmOnly.refl s

theorem AlmOnly.of_refill (s : State) : AlmOnly s s.refill := by
  unfold State.refill
  dsimp only
  split
  · split
    · exact (AlmOnly.of_restoreUnheld _ _).trans (AlmOnly.of_drop1 ..)
    · exact AlmOnly.of_restoreUnheld _ _
  · exact AlmOnly.refl s

/-- A fault cleared changes only the active table, the event log and their counts. -/
theorem AlmOnly.of_unfault (s : State) (code inst : Nat) : AlmOnly s (s.unfault code inst) := by
  unfold State.unfault
  dsimp only
  split
  · exact ((AlmOnly.of_alm s _).trans (AlmOnly.of_drop1 ..)).trans (AlmOnly.of_refill _)
  · exact AlmOnly.of_alm s _

theorem AlmOnly.of_level (s : State) (b : Bool) (code inst : Nat) : AlmOnly s (s.level b code inst) := by
  unfold State.level
  split
  · split
    · exact AlmOnly.refl s
    · exact AlmOnly.of_fault ..
  · exact AlmOnly.of_unfault ..

@[simp] theorem State.fault_now (s : State) (code inst : Nat) : (s.fault code inst).now = s.now :=
  by
  have h := congrArg State.now (AlmOnly.of_fault s code inst).rest
  exact h
@[simp] theorem State.fault_sys (s : State) (code inst : Nat) : (s.fault code inst).sys = s.sys :=
  by
  have h := congrArg State.sys (AlmOnly.of_fault s code inst).rest
  exact h
@[simp] theorem State.fault_gov (s : State) (code inst : Nat) : (s.fault code inst).gov = s.gov :=
  by
  have h := congrArg State.gov (AlmOnly.of_fault s code inst).rest
  exact h
@[simp] theorem State.fault_img (s : State) (code inst : Nat) : (s.fault code inst).img = s.img :=
  by
  have h := congrArg State.img (AlmOnly.of_fault s code inst).rest
  exact h
@[simp] theorem State.fault_bring (s : State) (code inst : Nat) : (s.fault code inst).bring = s.bring :=
  by
  have h := congrArg State.bring (AlmOnly.of_fault s code inst).rest
  exact h
@[simp] theorem State.fault_pwr (s : State) (code inst : Nat) : (s.fault code inst).pwr = s.pwr :=
  by
  have h := congrArg State.pwr (AlmOnly.of_fault s code inst).rest
  exact h
@[simp] theorem State.fault_fpl (s : State) (code inst : Nat) : (s.fault code inst).fpl = s.fpl :=
  by
  have h := congrArg State.fpl (AlmOnly.of_fault s code inst).rest
  exact h
@[simp] theorem State.fault_vfe (s : State) (code inst : Nat) : (s.fault code inst).vfe = s.vfe :=
  by
  have h := congrArg State.vfe (AlmOnly.of_fault s code inst).rest
  exact h
@[simp] theorem State.fault_cor (s : State) (code inst : Nat) : (s.fault code inst).cor = s.cor :=
  by
  have h := congrArg State.cor (AlmOnly.of_fault s code inst).rest
  exact h
@[simp] theorem State.fault_cal (s : State) (code inst : Nat) : (s.fault code inst).cal = s.cal :=
  by
  have h := congrArg State.cal (AlmOnly.of_fault s code inst).rest
  exact h
@[simp] theorem State.fault_swp (s : State) (code inst : Nat) : (s.fault code inst).swp = s.swp :=
  by
  have h := congrArg State.swp (AlmOnly.of_fault s code inst).rest
  exact h
@[simp] theorem State.fault_sol (s : State) (code inst : Nat) : (s.fault code inst).sol = s.sol :=
  by
  have h := congrArg State.sol (AlmOnly.of_fault s code inst).rest
  exact h
@[simp] theorem State.fault_fil (s : State) (code inst : Nat) : (s.fault code inst).fil = s.fil :=
  by
  have h := congrArg State.fil (AlmOnly.of_fault s code inst).rest
  exact h
@[simp] theorem State.fault_mon (s : State) (code inst : Nat) : (s.fault code inst).mon = s.mon :=
  by
  have h := congrArg State.mon (AlmOnly.of_fault s code inst).rest
  exact h
@[simp] theorem State.fault_prt (s : State) (code inst : Nat) : (s.fault code inst).prt = s.prt :=
  by
  have h := congrArg State.prt (AlmOnly.of_fault s code inst).rest
  exact h
@[simp] theorem State.fault_tmp (s : State) (code inst : Nat) : (s.fault code inst).tmp = s.tmp :=
  by
  have h := congrArg State.tmp (AlmOnly.of_fault s code inst).rest
  exact h
@[simp] theorem State.fault_ops (s : State) (code inst : Nat) : (s.fault code inst).ops = s.ops :=
  by
  have h := congrArg State.ops (AlmOnly.of_fault s code inst).rest
  exact h
@[simp] theorem State.fault_out (s : State) (code inst : Nat) : (s.fault code inst).out = s.out :=
  by
  have h := congrArg State.out (AlmOnly.of_fault s code inst).rest
  exact h
@[simp] theorem State.fault_free (s : State) (code inst : Nat) : (s.fault code inst).free = s.free :=
  by
  have h := congrArg State.free (AlmOnly.of_fault s code inst).rest
  exact h
@[simp] theorem State.fault_pending (s : State) (code inst : Nat) : (s.fault code inst).pending = s.pending :=
  by
  have h := congrArg State.pending (AlmOnly.of_fault s code inst).rest
  exact h
@[simp] theorem State.fault_nv_cells (s : State) (code inst : Nat) : (s.fault code inst).nv.cells = s.nv.cells :=
  by
  have h := congrArg NvS.cells (AlmOnly.of_fault s code inst).nv
  exact h
@[simp] theorem State.fault_nv_journal (s : State) (code inst : Nat) : (s.fault code inst).nv.journal = s.nv.journal :=
  by
  have h := congrArg NvS.journal (AlmOnly.of_fault s code inst).nv
  exact h
@[simp] theorem State.fault_nv_jseq (s : State) (code inst : Nat) : (s.fault code inst).nv.jseq = s.nv.jseq :=
  by
  have h := congrArg NvS.jseq (AlmOnly.of_fault s code inst).nv
  exact h
@[simp] theorem State.fault_nv_slots (s : State) (code inst : Nat) : (s.fault code inst).nv.slots = s.nv.slots :=
  by
  have h := congrArg NvS.slots (AlmOnly.of_fault s code inst).nv
  exact h
@[simp] theorem State.fault_nv_fw (s : State) (code inst : Nat) : (s.fault code inst).nv.fw = s.nv.fw :=
  by
  have h := congrArg NvS.fw (AlmOnly.of_fault s code inst).nv
  exact h
@[simp] theorem State.fault_nv_banks (s : State) (code inst : Nat) : (s.fault code inst).nv.banks = s.nv.banks :=
  by
  have h := congrArg NvS.banks (AlmOnly.of_fault s code inst).nv
  exact h
@[simp] theorem State.fault_nv_tlog0 (s : State) (code inst : Nat) : (s.fault code inst).nv.tlog0 = s.nv.tlog0 :=
  by
  have h := congrArg NvS.tlog0 (AlmOnly.of_fault s code inst).nv
  exact h
@[simp] theorem State.fault_nv_dirty (s : State) (code inst : Nat) : (s.fault code inst).nv.dirty = s.nv.dirty :=
  by
  have h := congrArg NvS.dirty (AlmOnly.of_fault s code inst).nv
  exact h
@[simp] theorem State.fault_get (s : State) (code inst : Nat) {f : Fld} (h : f.key ∉ almFields.map Fld.key) :
    (s.fault code inst).get f = s.get f := (AlmOnly.of_fault s code inst).get f h
@[simp] theorem State.unfault_now (s : State) (code inst : Nat) : (s.unfault code inst).now = s.now :=
  by
  have h := congrArg State.now (AlmOnly.of_unfault s code inst).rest
  exact h
@[simp] theorem State.unfault_sys (s : State) (code inst : Nat) : (s.unfault code inst).sys = s.sys :=
  by
  have h := congrArg State.sys (AlmOnly.of_unfault s code inst).rest
  exact h
@[simp] theorem State.unfault_gov (s : State) (code inst : Nat) : (s.unfault code inst).gov = s.gov :=
  by
  have h := congrArg State.gov (AlmOnly.of_unfault s code inst).rest
  exact h
@[simp] theorem State.unfault_img (s : State) (code inst : Nat) : (s.unfault code inst).img = s.img :=
  by
  have h := congrArg State.img (AlmOnly.of_unfault s code inst).rest
  exact h
@[simp] theorem State.unfault_bring (s : State) (code inst : Nat) : (s.unfault code inst).bring = s.bring :=
  by
  have h := congrArg State.bring (AlmOnly.of_unfault s code inst).rest
  exact h
@[simp] theorem State.unfault_pwr (s : State) (code inst : Nat) : (s.unfault code inst).pwr = s.pwr :=
  by
  have h := congrArg State.pwr (AlmOnly.of_unfault s code inst).rest
  exact h
@[simp] theorem State.unfault_fpl (s : State) (code inst : Nat) : (s.unfault code inst).fpl = s.fpl :=
  by
  have h := congrArg State.fpl (AlmOnly.of_unfault s code inst).rest
  exact h
@[simp] theorem State.unfault_vfe (s : State) (code inst : Nat) : (s.unfault code inst).vfe = s.vfe :=
  by
  have h := congrArg State.vfe (AlmOnly.of_unfault s code inst).rest
  exact h
@[simp] theorem State.unfault_cor (s : State) (code inst : Nat) : (s.unfault code inst).cor = s.cor :=
  by
  have h := congrArg State.cor (AlmOnly.of_unfault s code inst).rest
  exact h
@[simp] theorem State.unfault_cal (s : State) (code inst : Nat) : (s.unfault code inst).cal = s.cal :=
  by
  have h := congrArg State.cal (AlmOnly.of_unfault s code inst).rest
  exact h
@[simp] theorem State.unfault_swp (s : State) (code inst : Nat) : (s.unfault code inst).swp = s.swp :=
  by
  have h := congrArg State.swp (AlmOnly.of_unfault s code inst).rest
  exact h
@[simp] theorem State.unfault_sol (s : State) (code inst : Nat) : (s.unfault code inst).sol = s.sol :=
  by
  have h := congrArg State.sol (AlmOnly.of_unfault s code inst).rest
  exact h
@[simp] theorem State.unfault_fil (s : State) (code inst : Nat) : (s.unfault code inst).fil = s.fil :=
  by
  have h := congrArg State.fil (AlmOnly.of_unfault s code inst).rest
  exact h
@[simp] theorem State.unfault_mon (s : State) (code inst : Nat) : (s.unfault code inst).mon = s.mon :=
  by
  have h := congrArg State.mon (AlmOnly.of_unfault s code inst).rest
  exact h
@[simp] theorem State.unfault_prt (s : State) (code inst : Nat) : (s.unfault code inst).prt = s.prt :=
  by
  have h := congrArg State.prt (AlmOnly.of_unfault s code inst).rest
  exact h
@[simp] theorem State.unfault_tmp (s : State) (code inst : Nat) : (s.unfault code inst).tmp = s.tmp :=
  by
  have h := congrArg State.tmp (AlmOnly.of_unfault s code inst).rest
  exact h
@[simp] theorem State.unfault_ops (s : State) (code inst : Nat) : (s.unfault code inst).ops = s.ops :=
  by
  have h := congrArg State.ops (AlmOnly.of_unfault s code inst).rest
  exact h
@[simp] theorem State.unfault_out (s : State) (code inst : Nat) : (s.unfault code inst).out = s.out :=
  by
  have h := congrArg State.out (AlmOnly.of_unfault s code inst).rest
  exact h
@[simp] theorem State.unfault_free (s : State) (code inst : Nat) : (s.unfault code inst).free = s.free :=
  by
  have h := congrArg State.free (AlmOnly.of_unfault s code inst).rest
  exact h
@[simp] theorem State.unfault_pending (s : State) (code inst : Nat) : (s.unfault code inst).pending = s.pending :=
  by
  have h := congrArg State.pending (AlmOnly.of_unfault s code inst).rest
  exact h
@[simp] theorem State.unfault_nv_cells (s : State) (code inst : Nat) : (s.unfault code inst).nv.cells = s.nv.cells :=
  by
  have h := congrArg NvS.cells (AlmOnly.of_unfault s code inst).nv
  exact h
@[simp] theorem State.unfault_nv_journal (s : State) (code inst : Nat) : (s.unfault code inst).nv.journal = s.nv.journal :=
  by
  have h := congrArg NvS.journal (AlmOnly.of_unfault s code inst).nv
  exact h
@[simp] theorem State.unfault_nv_jseq (s : State) (code inst : Nat) : (s.unfault code inst).nv.jseq = s.nv.jseq :=
  by
  have h := congrArg NvS.jseq (AlmOnly.of_unfault s code inst).nv
  exact h
@[simp] theorem State.unfault_nv_slots (s : State) (code inst : Nat) : (s.unfault code inst).nv.slots = s.nv.slots :=
  by
  have h := congrArg NvS.slots (AlmOnly.of_unfault s code inst).nv
  exact h
@[simp] theorem State.unfault_nv_fw (s : State) (code inst : Nat) : (s.unfault code inst).nv.fw = s.nv.fw :=
  by
  have h := congrArg NvS.fw (AlmOnly.of_unfault s code inst).nv
  exact h
@[simp] theorem State.unfault_nv_banks (s : State) (code inst : Nat) : (s.unfault code inst).nv.banks = s.nv.banks :=
  by
  have h := congrArg NvS.banks (AlmOnly.of_unfault s code inst).nv
  exact h
@[simp] theorem State.unfault_nv_tlog0 (s : State) (code inst : Nat) : (s.unfault code inst).nv.tlog0 = s.nv.tlog0 :=
  by
  have h := congrArg NvS.tlog0 (AlmOnly.of_unfault s code inst).nv
  exact h
@[simp] theorem State.unfault_nv_dirty (s : State) (code inst : Nat) : (s.unfault code inst).nv.dirty = s.nv.dirty :=
  by
  have h := congrArg NvS.dirty (AlmOnly.of_unfault s code inst).nv
  exact h
@[simp] theorem State.unfault_get (s : State) (code inst : Nat) {f : Fld} (h : f.key ∉ almFields.map Fld.key) :
    (s.unfault code inst).get f = s.get f := (AlmOnly.of_unfault s code inst).get f h
@[simp] theorem State.level_now (s : State) (b : Bool) (code inst : Nat) : (s.level b code inst).now = s.now :=
  by
  have h := congrArg State.now (AlmOnly.of_level s b code inst).rest
  exact h
@[simp] theorem State.level_sys (s : State) (b : Bool) (code inst : Nat) : (s.level b code inst).sys = s.sys :=
  by
  have h := congrArg State.sys (AlmOnly.of_level s b code inst).rest
  exact h
@[simp] theorem State.level_gov (s : State) (b : Bool) (code inst : Nat) : (s.level b code inst).gov = s.gov :=
  by
  have h := congrArg State.gov (AlmOnly.of_level s b code inst).rest
  exact h
@[simp] theorem State.level_img (s : State) (b : Bool) (code inst : Nat) : (s.level b code inst).img = s.img :=
  by
  have h := congrArg State.img (AlmOnly.of_level s b code inst).rest
  exact h
@[simp] theorem State.level_bring (s : State) (b : Bool) (code inst : Nat) : (s.level b code inst).bring = s.bring :=
  by
  have h := congrArg State.bring (AlmOnly.of_level s b code inst).rest
  exact h
@[simp] theorem State.level_pwr (s : State) (b : Bool) (code inst : Nat) : (s.level b code inst).pwr = s.pwr :=
  by
  have h := congrArg State.pwr (AlmOnly.of_level s b code inst).rest
  exact h
@[simp] theorem State.level_fpl (s : State) (b : Bool) (code inst : Nat) : (s.level b code inst).fpl = s.fpl :=
  by
  have h := congrArg State.fpl (AlmOnly.of_level s b code inst).rest
  exact h
@[simp] theorem State.level_vfe (s : State) (b : Bool) (code inst : Nat) : (s.level b code inst).vfe = s.vfe :=
  by
  have h := congrArg State.vfe (AlmOnly.of_level s b code inst).rest
  exact h
@[simp] theorem State.level_cor (s : State) (b : Bool) (code inst : Nat) : (s.level b code inst).cor = s.cor :=
  by
  have h := congrArg State.cor (AlmOnly.of_level s b code inst).rest
  exact h
@[simp] theorem State.level_cal (s : State) (b : Bool) (code inst : Nat) : (s.level b code inst).cal = s.cal :=
  by
  have h := congrArg State.cal (AlmOnly.of_level s b code inst).rest
  exact h
@[simp] theorem State.level_swp (s : State) (b : Bool) (code inst : Nat) : (s.level b code inst).swp = s.swp :=
  by
  have h := congrArg State.swp (AlmOnly.of_level s b code inst).rest
  exact h
@[simp] theorem State.level_sol (s : State) (b : Bool) (code inst : Nat) : (s.level b code inst).sol = s.sol :=
  by
  have h := congrArg State.sol (AlmOnly.of_level s b code inst).rest
  exact h
@[simp] theorem State.level_fil (s : State) (b : Bool) (code inst : Nat) : (s.level b code inst).fil = s.fil :=
  by
  have h := congrArg State.fil (AlmOnly.of_level s b code inst).rest
  exact h
@[simp] theorem State.level_mon (s : State) (b : Bool) (code inst : Nat) : (s.level b code inst).mon = s.mon :=
  by
  have h := congrArg State.mon (AlmOnly.of_level s b code inst).rest
  exact h
@[simp] theorem State.level_prt (s : State) (b : Bool) (code inst : Nat) : (s.level b code inst).prt = s.prt :=
  by
  have h := congrArg State.prt (AlmOnly.of_level s b code inst).rest
  exact h
@[simp] theorem State.level_tmp (s : State) (b : Bool) (code inst : Nat) : (s.level b code inst).tmp = s.tmp :=
  by
  have h := congrArg State.tmp (AlmOnly.of_level s b code inst).rest
  exact h
@[simp] theorem State.level_ops (s : State) (b : Bool) (code inst : Nat) : (s.level b code inst).ops = s.ops :=
  by
  have h := congrArg State.ops (AlmOnly.of_level s b code inst).rest
  exact h
@[simp] theorem State.level_out (s : State) (b : Bool) (code inst : Nat) : (s.level b code inst).out = s.out :=
  by
  have h := congrArg State.out (AlmOnly.of_level s b code inst).rest
  exact h
@[simp] theorem State.level_free (s : State) (b : Bool) (code inst : Nat) : (s.level b code inst).free = s.free :=
  by
  have h := congrArg State.free (AlmOnly.of_level s b code inst).rest
  exact h
@[simp] theorem State.level_pending (s : State) (b : Bool) (code inst : Nat) : (s.level b code inst).pending = s.pending :=
  by
  have h := congrArg State.pending (AlmOnly.of_level s b code inst).rest
  exact h
@[simp] theorem State.level_nv_cells (s : State) (b : Bool) (code inst : Nat) : (s.level b code inst).nv.cells = s.nv.cells :=
  by
  have h := congrArg NvS.cells (AlmOnly.of_level s b code inst).nv
  exact h
@[simp] theorem State.level_nv_journal (s : State) (b : Bool) (code inst : Nat) : (s.level b code inst).nv.journal = s.nv.journal :=
  by
  have h := congrArg NvS.journal (AlmOnly.of_level s b code inst).nv
  exact h
@[simp] theorem State.level_nv_jseq (s : State) (b : Bool) (code inst : Nat) : (s.level b code inst).nv.jseq = s.nv.jseq :=
  by
  have h := congrArg NvS.jseq (AlmOnly.of_level s b code inst).nv
  exact h
@[simp] theorem State.level_nv_slots (s : State) (b : Bool) (code inst : Nat) : (s.level b code inst).nv.slots = s.nv.slots :=
  by
  have h := congrArg NvS.slots (AlmOnly.of_level s b code inst).nv
  exact h
@[simp] theorem State.level_nv_fw (s : State) (b : Bool) (code inst : Nat) : (s.level b code inst).nv.fw = s.nv.fw :=
  by
  have h := congrArg NvS.fw (AlmOnly.of_level s b code inst).nv
  exact h
@[simp] theorem State.level_nv_banks (s : State) (b : Bool) (code inst : Nat) : (s.level b code inst).nv.banks = s.nv.banks :=
  by
  have h := congrArg NvS.banks (AlmOnly.of_level s b code inst).nv
  exact h
@[simp] theorem State.level_nv_tlog0 (s : State) (b : Bool) (code inst : Nat) : (s.level b code inst).nv.tlog0 = s.nv.tlog0 :=
  by
  have h := congrArg NvS.tlog0 (AlmOnly.of_level s b code inst).nv
  exact h
@[simp] theorem State.level_nv_dirty (s : State) (b : Bool) (code inst : Nat) : (s.level b code inst).nv.dirty = s.nv.dirty :=
  by
  have h := congrArg NvS.dirty (AlmOnly.of_level s b code inst).nv
  exact h
@[simp] theorem State.level_get (s : State) (b : Bool) (code inst : Nat) {f : Fld} (h : f.key ∉ almFields.map Fld.key) :
    (s.level b code inst).get f = s.get f := (AlmOnly.of_level s b code inst).get f h

/-- The identity of a fault that finds a place is in the table. -/
theorem State.isActive_fault (s : State) (code inst : Nat) (h : s.held < 62) : (s.fault code inst).isActive code inst = true := by
  unfold State.fault
  split
  · rename_i ha
    simp only [State.isActive, List.any_eq_true, Bool.and_eq_true, beq_iff_eq] at ha ⊢
    obtain ⟨e, he, h1, h2⟩ := ha
    exact ⟨{ e with count := min (e.count + 1) 0xFFFF, last := s.ms }, by
      simp only [List.mem_map]
      exact ⟨e, he, by simp [h1, h2]⟩, h1, h2⟩
  · have hh : State.held (((s.logEvent code 1 inst).inc ALM_RAISE_COUNT.COUNT).set ALM_EVENTS.RAISED 1) = s.held := by
      simp [State.held]
    simp only [State.raiseNew, hh, h, or_true, if_true]
    simp [State.hold, State.isActive]

theorem State.isActive_congr {s t : State} (h : t.alm.active = s.alm.active) (code inst : Nat) :
    t.isActive code inst = s.isActive code inst := by simp [State.isActive, h]

/-! ### Refused writes (R470) -/

@[simp] theorem State.wrote_ok (addr : Nat) (s : State) : State.wrote addr (s, .ok) = s := rfl
theorem State.wrote_refuse (addr st r : Nat) (s : State) : State.wrote addr (s, .refuse st r) = s.noteRefuse 5 addr st r := rfl

/-- Outside LOAD the guard lets a write through; in LOAD it refuses it with REASON 0x03 (R105). -/
theorem State.loadGuard_run (s : State) (f : State → State × WRes) (h : s.sys.mode ≠ .load) : s.loadGuard f = f s := by
  simp [State.loadGuard, h]
theorem State.loadGuard_load (s : State) (f : State → State × WRes) (h : s.sys.mode = .load) : s.loadGuard f = (s, .refuse 1 0x03) := by
  simp [State.loadGuard, h]

end Sys2Proof.Machine
end

