-- ==== Sys2Proof/Laws/PerInstr.lean ====
section
/-! SUPPORT. The per-command family Slots: a well-formed command names no operation slot but 0 to 7. -/
namespace Sys2Proof.Laws.Slots
set_option Elab.async false

/-- The slot of a well-formed command is one of the eight (R481). -/
def Statement (i : Sys2Proof.Instr) : Prop := i.wf = true → ∀ k, i.slot? = some k → k < 8

theorem registerWrite (t : Nat) (sess : Nat) (addr : Nat) (v : Nat) : Statement (.registerWrite t sess addr v) := fun _ _ hk => nomatch hk
theorem resetRelease (t : Nat) : Statement (.resetRelease t) := fun _ _ hk => nomatch hk
theorem powerUnitStart (t : Nat) : Statement (.powerUnitStart t) := fun _ _ hk => nomatch hk
theorem wardenFwCheckDone (t : Nat) (accepted : Bool) (fw : Sys2Proof.FwDesc) : Statement (.wardenFwCheckDone t accepted fw) := fun _ _ hk => nomatch hk
theorem storeStageDone (t : Nat) : Statement (.storeStageDone t) := fun _ _ hk => nomatch hk
theorem discoveryDone (t : Nat) (carrier : Sys2Proof.CarrierRead) (tiles : List Sys2Proof.TileRead) : Statement (.discoveryDone t carrier tiles) := fun _ _ hk => nomatch hk
theorem baseSetCopyDone (t : Nat) (failed : List Nat) : Statement (.baseSetCopyDone t failed) := fun _ _ hk => nomatch hk
theorem bringInDone (t : Nat) : Statement (.bringInDone t) := fun _ _ hk => nomatch hk
theorem modeRun (t : Nat) : Statement (.modeRun t) := fun _ _ hk => nomatch hk
theorem runStart (t : Nat) : Statement (.runStart t) := fun _ _ hk => nomatch hk
theorem modeStop (t : Nat) : Statement (.modeStop t) := fun _ _ hk => nomatch hk
theorem runEnd (t : Nat) : Statement (.runEnd t) := fun _ _ hk => nomatch hk
theorem frameBoundary (t : Nat) : Statement (.frameBoundary t) := fun _ _ hk => nomatch hk
theorem readTrackEnd (t : Nat) (video : List Sys2Proof.PixelVideo) : Statement (.readTrackEnd t video) := fun _ _ hk => nomatch hk
theorem frameComplete (t : Nat) : Statement (.frameComplete t) := fun _ _ hk => nomatch hk
theorem tierChange (t : Nat) : Statement (.tierChange t) := fun _ _ hk => nomatch hk
theorem govLockoutEnd (t : Nat) : Statement (.govLockoutEnd t) := fun _ _ hk => nomatch hk
theorem govPredictionEnd (t : Nat) : Statement (.govPredictionEnd t) := fun _ _ hk => nomatch hk
theorem voltageStepSettled (t : Nat) : Statement (.voltageStepSettled t) := fun _ _ hk => nomatch hk
theorem roWindowEnd (t : Nat) (counts : List Nat) : Statement (.roWindowEnd t counts) := fun _ _ hk => nomatch hk
theorem backlogOverflow (t : Nat) : Statement (.backlogOverflow t) := fun _ _ hk => nomatch hk
theorem refGateEnd (t : Nat) (edges : Bool) (off : Int) : Statement (.refGateEnd t edges off) := fun _ _ hk => nomatch hk
theorem refLoss (t : Nat) (shift : Int) : Statement (.refLoss t shift) := fun _ _ hk => nomatch hk
theorem refSwitch (t : Nat) (phaseStep : Int) : Statement (.refSwitch t phaseStep) := fun _ _ hk => nomatch hk
theorem govRefCtrlWrite (t : Nat) (v : Nat) : Statement (.govRefCtrlWrite t v) := fun _ _ hk => nomatch hk
theorem dllLock (t : Nat) : Statement (.dllLock t) := fun _ _ hk => nomatch hk
theorem dllLossOfLock (t : Nat) : Statement (.dllLossOfLock t) := fun _ _ hk => nomatch hk
theorem govCtrlWrite (t : Nat) (v : Nat) : Statement (.govCtrlWrite t v) := fun _ _ hk => nomatch hk
theorem govThresholdWrite (t : Nat) (high : Bool) (v : Nat) : Statement (.govThresholdWrite t high v) := fun _ _ hk => nomatch hk
theorem govClrCounts (t : Nat) : Statement (.govClrCounts t) := fun _ _ hk => nomatch hk
theorem govClrMin (t : Nat) : Statement (.govClrMin t) := fun _ _ hk => nomatch hk
theorem imgVerify (t : Nat) (sess : Nat) (slot : Nat) (arg0 : Nat) : Statement (.imgVerify t sess slot arg0) := fun h k hk => by
  cases hk
  simp [Sys2Proof.Instr.wf] at h
  omega
theorem imgActivate (t : Nat) (sess : Nat) (slot : Nat) (arg0 : Nat) : Statement (.imgActivate t sess slot arg0) := fun h k hk => by
  cases hk
  simp [Sys2Proof.Instr.wf] at h
  omega
theorem imgWriteSlot (t : Nat) (sess : Nat) (slot : Nat) (arg0 : Nat) (arg1 : Nat) : Statement (.imgWriteSlot t sess slot arg0 arg1) := fun h k hk => by
  cases hk
  simp [Sys2Proof.Instr.wf] at h
  omega
theorem imgEraseSlot (t : Nat) (sess : Nat) (slot : Nat) (arg0 : Nat) : Statement (.imgEraseSlot t sess slot arg0) := fun h k hk => by
  cases hk
  simp [Sys2Proof.Instr.wf] at h
  omega
theorem imageFrameArrival (t : Nat) (readOk : Bool) : Statement (.imageFrameArrival t readOk) := fun _ _ hk => nomatch hk
theorem activationQuiesced (t : Nat) : Statement (.activationQuiesced t) := fun _ _ hk => nomatch hk
theorem activationBuildDone (t : Nat) : Statement (.activationBuildDone t) := fun _ _ hk => nomatch hk
theorem slotWriteReadbackDone (t : Nat) (same : Bool) : Statement (.slotWriteReadbackDone t same) := fun _ _ hk => nomatch hk
theorem imgStageLenWrite (t : Nat) (v : Nat) : Statement (.imgStageLenWrite t v) := fun _ _ hk => nomatch hk
theorem imgStageClear (t : Nat) : Statement (.imgStageClear t) := fun _ _ hk => nomatch hk
theorem goldenUnlock (t : Nat) (sess : Nat) : Statement (.goldenUnlock t sess) := fun _ _ hk => nomatch hk
theorem imgPrimaryWrite (t : Nat) (v : Nat) : Statement (.imgPrimaryWrite t v) := fun _ _ hk => nomatch hk
theorem fallbackClear (t : Nat) : Statement (.fallbackClear t) := fun _ _ hk => nomatch hk
theorem imgload (t : Nat) : Statement (.imgload t) := fun _ _ hk => nomatch hk
theorem testportFrame (t : Nat) (frame : List Nat) : Statement (.testportFrame t frame) := fun _ _ hk => nomatch hk
theorem imgstat (t : Nat) : Statement (.imgstat t) := fun _ _ hk => nomatch hk
theorem idcode (t : Nat) : Statement (.idcode t) := fun _ _ hk => nomatch hk
theorem samplePreload (t : Nat) (pins : Nat) : Statement (.samplePreload t pins) := fun _ _ hk => nomatch hk
theorem extest (t : Nat) : Statement (.extest t) := fun _ _ hk => nomatch hk
theorem bypass (t : Nat) (opcode : Nat) : Statement (.bypass t opcode) := fun _ _ hk => nomatch hk
theorem testLogicReset (t : Nat) : Statement (.testLogicReset t) := fun _ _ hk => nomatch hk
theorem vrefTLoss (t : Nat) : Statement (.vrefTLoss t) := fun _ _ hk => nomatch hk
theorem tileBind (t : Nat) (sess : Nat) (slot : Nat) (pos : Nat) (serLo : Nat) (serHi : Nat) (arg3 : Nat) (tile : Sys2Proof.TileRead) : Statement (.tileBind t sess slot pos serLo serHi arg3 tile) := fun h k hk => by
  cases hk
  simp [Sys2Proof.Instr.wf] at h
  omega
theorem quarOverride (t : Nat) (sess : Nat) : Statement (.quarOverride t sess) := fun _ _ hk => nomatch hk
theorem settlingCheck (t : Nat) : Statement (.settlingCheck t) := fun _ _ hk => nomatch hk
theorem settlingTimeout (t : Nat) : Statement (.settlingTimeout t) := fun _ _ hk => nomatch hk
theorem acInputLost (t : Nat) : Statement (.acInputLost t) := fun _ _ hk => nomatch hk
theorem acReturn (t : Nat) : Statement (.acReturn t) := fun _ _ hk => nomatch hk
theorem acOvervoltage (t : Nat) (vrms : Nat) : Statement (.acOvervoltage t vrms) := fun _ _ hk => nomatch hk
theorem dcInputLost (t : Nat) : Statement (.dcInputLost t) := fun _ _ hk => nomatch hk
theorem inputInRange (t : Nat) (ac : Bool) : Statement (.inputInRange t ac) := fun _ _ hk => nomatch hk
theorem pfwRaise (t : Nat) : Statement (.pfwRaise t) := fun _ _ hk => nomatch hk
theorem pfwClear (t : Nat) : Statement (.pfwClear t) := fun _ _ hk => nomatch hk
theorem railsFall (t : Nat) : Statement (.railsFall t) := fun _ _ hk => nomatch hk
theorem pwrTargetWrite (t : Nat) (v : Nat) : Statement (.pwrTargetWrite t v) := fun _ _ hk => nomatch hk
theorem descentDrainEnd (t : Nat) : Statement (.descentDrainEnd t) := fun _ _ hk => nomatch hk
theorem ladderStepDone (t : Nat) : Statement (.ladderStepDone t) := fun _ _ hk => nomatch hk
theorem blackExit (t : Nat) (advance : Nat) (imageOk : Bool) : Statement (.blackExit t advance imageOk) := fun _ _ hk => nomatch hk
theorem triggerWake (t : Nat) (input : Nat) : Statement (.triggerWake t input) := fun _ _ hk => nomatch hk
theorem epochCommit (t : Nat) (v : Nat) : Statement (.epochCommit t v) := fun _ _ hk => nomatch hk
theorem epochApply (t : Nat) : Statement (.epochApply t) := fun _ _ hk => nomatch hk
theorem fplGeomWrite (t : Nat) (addr : Nat) (v : Nat) : Statement (.fplGeomWrite t addr v) := fun _ _ hk => nomatch hk
theorem ilvWindowClose (t : Nat) (fe : Nat) : Statement (.ilvWindowClose t fe) := fun _ _ hk => nomatch hk
theorem ilvSolveDone (t : Nat) (fe : Nat) : Statement (.ilvSolveDone t fe) := fun _ _ hk => nomatch hk
theorem ilvSetApply (t : Nat) (fe : Nat) : Statement (.ilvSetApply t fe) := fun _ _ hk => nomatch hk
theorem ilvSolveLate (t : Nat) (fe : Nat) : Statement (.ilvSolveLate t fe) := fun _ _ hk => nomatch hk
theorem spareSlotDue (t : Nat) : Statement (.spareSlotDue t) := fun _ _ hk => nomatch hk
theorem sparePostponedStart (t : Nat) : Statement (.sparePostponedStart t) := fun _ _ hk => nomatch hk
theorem spareShadowDone (t : Nat) (own other : List Sys2Proof.PixelVideo) : Statement (.spareShadowDone t own other) := fun _ _ hk => nomatch hk
theorem spareTrimDone (t : Nat) (reads : List Sys2Proof.TrimRead) : Statement (.spareTrimDone t reads) := fun _ _ hk => nomatch hk
theorem spareReturnShadowDone (t : Nat) (own other : List Sys2Proof.PixelVideo) : Statement (.spareReturnShadowDone t own other) := fun _ _ hk => nomatch hk
theorem vcsTrimDone (t : Nat) (reads : List Sys2Proof.TrimRead) : Statement (.vcsTrimDone t reads) := fun _ _ hk => nomatch hk
theorem spareRelease (t : Nat) : Statement (.spareRelease t) := fun _ _ hk => nomatch hk
theorem vfeClrClip (t : Nat) : Statement (.vfeClrClip t) := fun _ _ hk => nomatch hk
theorem vfeClrSpare (t : Nat) : Statement (.vfeClrSpare t) := fun _ _ hk => nomatch hk
theorem corOutputWrite (t : Nat) (addr : Nat) (v : Nat) : Statement (.corOutputWrite t addr v) := fun _ _ hk => nomatch hk
theorem corClrCounts (t : Nat) : Statement (.corClrCounts t) := fun _ _ hk => nomatch hk
theorem coefEccError (t : Nat) (tile : Nat) (row : Nat) (col : Nat) : Statement (.coefEccError t tile row col) := fun _ _ hk => nomatch hk
theorem shutterPeriodDue (t : Nat) : Statement (.shutterPeriodDue t) := fun _ _ hk => nomatch hk
theorem shutterCycleStart (t : Nat) : Statement (.shutterCycleStart t) := fun _ _ hk => nomatch hk
theorem paddleClosed (t : Nat) : Statement (.paddleClosed t) := fun _ _ hk => nomatch hk
theorem shutterSettleEnd (t : Nat) : Statement (.shutterSettleEnd t) := fun _ _ hk => nomatch hk
theorem shutterAverageEnd (t : Nat) : Statement (.shutterAverageEnd t) := fun _ _ hk => nomatch hk
theorem paddleOpened (t : Nat) : Statement (.paddleOpened t) := fun _ _ hk => nomatch hk
theorem shutterResumeEnd (t : Nat) : Statement (.shutterResumeEnd t) := fun _ _ hk => nomatch hk
theorem shutterUpdateCommit (t : Nat) : Statement (.shutterUpdateCommit t) := fun _ _ hk => nomatch hk
theorem paddleCloseTimeout (t : Nat) : Statement (.paddleCloseTimeout t) := fun _ _ hk => nomatch hk
theorem paddleOpenTimeout (t : Nat) : Statement (.paddleOpenTimeout t) := fun _ _ hk => nomatch hk
theorem paddleOpenRetry (t : Nat) : Statement (.paddleOpenRetry t) := fun _ _ hk => nomatch hk
theorem shutterRetryTimer (t : Nat) : Statement (.shutterRetryTimer t) := fun _ _ hk => nomatch hk
theorem calShutNow (t : Nat) : Statement (.calShutNow t) := fun _ _ hk => nomatch hk
theorem calShutNowTwoPt (t : Nat) : Statement (.calShutNowTwoPt t) := fun _ _ hk => nomatch hk
theorem calShutReset (t : Nat) : Statement (.calShutReset t) := fun _ _ hk => nomatch hk
theorem paddleHeatStable (t : Nat) : Statement (.paddleHeatStable t) := fun _ _ hk => nomatch hk
theorem paddleHeatTimeout (t : Nat) : Statement (.paddleHeatTimeout t) := fun _ _ hk => nomatch hk
theorem driftRefitDone (t : Nat) : Statement (.driftRefitDone t) := fun _ _ hk => nomatch hk
theorem calgenApply (t : Nat) : Statement (.calgenApply t) := fun _ _ hk => nomatch hk
theorem calCharacterise (t : Nat) (sess : Nat) (slot : Nat) (arg0 : Nat) (arg1 : Nat) (arg2 : Nat) (arg3 : Nat) : Statement (.calCharacterise t sess slot arg0 arg1 arg2 arg3) := fun h k hk => by
  cases hk
  simp [Sys2Proof.Instr.wf] at h
  omega
theorem calCharGo (t : Nat) : Statement (.calCharGo t) := fun _ _ hk => nomatch hk
theorem calCharFit (t : Nat) : Statement (.calCharFit t) := fun _ _ hk => nomatch hk
theorem charPointStable (t : Nat) : Statement (.charPointStable t) := fun _ _ hk => nomatch hk
theorem charPointDone (t : Nat) : Statement (.charPointDone t) := fun _ _ hk => nomatch hk
theorem charPointTimeout (t : Nat) : Statement (.charPointTimeout t) := fun _ _ hk => nomatch hk
theorem charFitDone (t : Nat) : Statement (.charFitDone t) := fun _ _ hk => nomatch hk
theorem calRevert (t : Nat) (sess : Nat) (slot : Nat) (arg0 : Nat) : Statement (.calRevert t sess slot arg0) := fun h k hk => by
  cases hk
  simp [Sys2Proof.Instr.wf] at h
  omega
theorem bankWriteDone (t : Nat) (same : Bool) : Statement (.bankWriteDone t same) := fun _ _ hk => nomatch hk
theorem encoderCount (t : Nat) (up : Bool) : Statement (.encoderCount t up) := fun _ _ hk => nomatch hk
theorem lineBoundary (t : Nat) : Statement (.lineBoundary t) := fun _ _ hk => nomatch hk
theorem encoderQerr (t : Nat) : Statement (.encoderQerr t) := fun _ _ hk => nomatch hk
theorem encoderSignalLoss (t : Nat) : Statement (.encoderSignalLoss t) := fun _ _ hk => nomatch hk
theorem encoderSignalRestored (t : Nat) : Statement (.encoderSignalRestored t) := fun _ _ hk => nomatch hk
theorem encoderIndex (t : Nat) : Statement (.encoderIndex t) := fun _ _ hk => nomatch hk
theorem encoderZero (t : Nat) : Statement (.encoderZero t) := fun _ _ hk => nomatch hk
theorem swpLineCplWrite (t : Nat) (v : Nat) : Statement (.swpLineCplWrite t v) := fun _ _ hk => nomatch hk
theorem scanArm (t : Nat) : Statement (.scanArm t) := fun _ _ hk => nomatch hk
theorem scanStart (t : Nat) : Statement (.scanStart t) := fun _ _ hk => nomatch hk
theorem scanEndCmd (t : Nat) : Statement (.scanEndCmd t) := fun _ _ hk => nomatch hk
theorem scanEnd (t : Nat) : Statement (.scanEnd t) := fun _ _ hk => nomatch hk
theorem outputLineEmit (t : Nat) : Statement (.outputLineEmit t) := fun _ _ hk => nomatch hk
theorem swpClrCounts (t : Nat) : Statement (.swpClrCounts t) := fun _ _ hk => nomatch hk
theorem stripComputeStart (t : Nat) : Statement (.stripComputeStart t) := fun _ _ hk => nomatch hk
theorem stripPassCommit (t : Nat) : Statement (.stripPassCommit t) := fun _ _ hk => nomatch hk
theorem refHeaterTimeout (t : Nat) : Statement (.refHeaterTimeout t) := fun _ _ hk => nomatch hk
theorem heaterOvercurrent (t : Nat) (bright : Bool) : Statement (.heaterOvercurrent t bright) := fun _ _ hk => nomatch hk
theorem heaterRestart (t : Nat) (bright : Bool) : Statement (.heaterRestart t bright) := fun _ _ hk => nomatch hk
theorem edgeFitDone (t : Nat) : Statement (.edgeFitDone t) := fun _ _ hk => nomatch hk
theorem scanRecord (t : Nat) : Statement (.scanRecord t) := fun _ _ hk => nomatch hk
theorem solRun (t : Nat) (sess : Nat) (slot : Nat) (arg0 : Nat) (arg1 : Nat) (arg2 : Nat) (arg3 : Nat) : Statement (.solRun t sess slot arg0 arg1 arg2 arg3) := fun h k hk => by
  cases hk
  simp [Sys2Proof.Instr.wf] at h
  omega
theorem solSystemEnd (t : Nat) (sys : Nat) (ecc : Bool) : Statement (.solSystemEnd t sys ecc) := fun _ _ hk => nomatch hk
theorem solDeadline (t : Nat) (cuts : List SolCut) : Statement (.solDeadline t cuts) := fun _ _ hk => nomatch hk
theorem solBatchCommit (t : Nat) : Statement (.solBatchCommit t) := fun _ _ hk => nomatch hk
theorem solClrCounts (t : Nat) : Statement (.solClrCounts t) := fun _ _ hk => nomatch hk
theorem triggerEdge (t : Nat) (input : Nat) : Statement (.triggerEdge t input) := fun _ _ hk => nomatch hk
theorem filSyncReset (t : Nat) : Statement (.filSyncReset t) := fun _ _ hk => nomatch hk
theorem filSyncCtrlWrite (t : Nat) (v : Nat) : Statement (.filSyncCtrlWrite t v) := fun _ _ hk => nomatch hk
theorem timeSet (t : Nat) : Statement (.timeSet t) := fun _ _ hk => nomatch hk
theorem todSrcWrite (t : Nat) (v : Nat) : Statement (.todSrcWrite t v) := fun _ _ hk => nomatch hk
theorem ppsEdge (t : Nat) : Statement (.ppsEdge t) := fun _ _ hk => nomatch hk
theorem ptpSync (t : Nat) (msg : Sys2Proof.PtpMsg) : Statement (.ptpSync t msg) := fun _ _ hk => nomatch hk
theorem ptpAnnounce (t : Nat) (msg : Sys2Proof.PtpMsg) : Statement (.ptpAnnounce t msg) := fun _ _ hk => nomatch hk
theorem ptpDelayResp (t : Nat) (msg : Sys2Proof.PtpMsg) : Statement (.ptpDelayResp t msg) := fun _ _ hk => nomatch hk
theorem ptpDelayReqSend (t : Nat) : Statement (.ptpDelayReqSend t) := fun _ _ hk => nomatch hk
theorem ptpSourceLoss (t : Nat) : Statement (.ptpSourceLoss t) := fun _ _ hk => nomatch hk
theorem ppsSourceLoss (t : Nat) : Statement (.ppsSourceLoss t) := fun _ _ hk => nomatch hk
theorem timeStep (t : Nat) : Statement (.timeStep t) := fun _ _ hk => nomatch hk
theorem holdoverLimit (t : Nat) : Statement (.holdoverLimit t) := fun _ _ hk => nomatch hk
theorem monCycleStart (t : Nat) : Statement (.monCycleStart t) := fun _ _ hk => nomatch hk
theorem monEntryComplete (t : Nat) (codes : List Nat) : Statement (.monEntryComplete t codes) := fun _ _ hk => nomatch hk
theorem monInjectTrigger (t : Nat) (src : Nat) : Statement (.monInjectTrigger t src) := fun _ _ hk => nomatch hk
theorem monInjGo (t : Nat) : Statement (.monInjGo t) := fun _ _ hk => nomatch hk
theorem monInjectedDone (t : Nat) : Statement (.monInjectedDone t) := fun _ _ hk => nomatch hk
theorem monCalibrate (t : Nat) : Statement (.monCalibrate t) := fun _ _ hk => nomatch hk
theorem monSelfCalDone (t : Nat) (points : List (Nat × Nat)) : Statement (.monSelfCalDone t points) := fun _ _ hk => nomatch hk
theorem monSeqApply (t : Nat) : Statement (.monSeqApply t) := fun _ _ hk => nomatch hk
theorem monSeqTakeEffect (t : Nat) : Statement (.monSeqTakeEffect t) := fun _ _ hk => nomatch hk
theorem monAlarmWrite (t : Nat) (addr : Nat) (v : Nat) : Statement (.monAlarmWrite t addr v) := fun _ _ hk => nomatch hk
theorem monClrCounts (t : Nat) : Statement (.monClrCounts t) := fun _ _ hk => nomatch hk
theorem monInputStarved (t : Nat) (input : Nat) : Statement (.monInputStarved t input) := fun _ _ hk => nomatch hk
theorem overtempTrip (t : Nat) : Statement (.overtempTrip t) := fun _ _ hk => nomatch hk
theorem overtempRelease (t : Nat) : Statement (.overtempRelease t) := fun _ _ hk => nomatch hk
theorem pluggableInsert (t : Nat) (port : Nat) (phy : Nat) (cls : Nat) (readOk : Bool) : Statement (.pluggableInsert t port phy cls readOk) := fun _ _ hk => nomatch hk
theorem pluggableRemove (t : Nat) (port : Nat) : Statement (.pluggableRemove t port) := fun _ _ hk => nomatch hk
theorem linkDown (t : Nat) (port : Nat) : Statement (.linkDown t port) := fun _ _ hk => nomatch hk
theorem linkUp (t : Nat) (port : Nat) : Statement (.linkUp t port) := fun _ _ hk => nomatch hk
theorem anFail (t : Nat) (port : Nat) : Statement (.anFail t port) := fun _ _ hk => nomatch hk
theorem fecSecond (t : Nat) (port : Nat) (corr : Nat) (uncorr : Nat) : Statement (.fecSecond t port corr uncorr) := fun _ _ hk => nomatch hk
theorem pauseFrame (t : Nat) (port : Nat) (quanta : List (Nat × Nat)) (pfc : Bool) : Statement (.pauseFrame t port quanta pfc) := fun _ _ hk => nomatch hk
theorem pauseLimitExceeded (t : Nat) (port : Nat) : Statement (.pauseLimitExceeded t port) := fun _ _ hk => nomatch hk
theorem arpRequestRx (t : Nat) (port : Nat) (ip : Nat) (mac : Nat) (target : Nat) : Statement (.arpRequestRx t port ip mac target) := fun _ _ hk => nomatch hk
theorem arpReplyRx (t : Nat) (port : Nat) (ip : Nat) (mac : Nat) : Statement (.arpReplyRx t port ip mac) := fun _ _ hk => nomatch hk
theorem arpTimer (t : Nat) (port : Nat) (ch : Nat) : Statement (.arpTimer t port ch) := fun _ _ hk => nomatch hk
theorem icmpEchoRx (t : Nat) (port : Nat) (ip : Nat) (mac : Nat) (payload : List Nat) : Statement (.icmpEchoRx t port ip mac payload) := fun _ _ hk => nomatch hk
theorem rxDiscard (t : Nat) (port : Nat) : Statement (.rxDiscard t port) := fun _ _ hk => nomatch hk
theorem tosonRecordSend (t : Nat) (ch : Nat) : Statement (.tosonRecordSend t ch) := fun _ _ hk => nomatch hk
theorem heartbeat (t : Nat) (ch : Nat) : Statement (.heartbeat t ch) := fun _ _ hk => nomatch hk
theorem roceWriteSend (t : Nat) (ch : Nat) : Statement (.roceWriteSend t ch) := fun _ _ hk => nomatch hk
theorem roceAck (t : Nat) (ch : Nat) (psn : Nat) : Statement (.roceAck t ch psn) := fun _ _ hk => nomatch hk
theorem roceNak (t : Nat) (ch : Nat) (psn : Nat) (syndrome : Nat) : Statement (.roceNak t ch psn syndrome) := fun _ _ hk => nomatch hk
theorem roceAckTimeout (t : Nat) (ch : Nat) : Statement (.roceAckTimeout t ch) := fun _ _ hk => nomatch hk
theorem roceCnp (t : Nat) (ch : Nat) : Statement (.roceCnp t ch) := fun _ _ hk => nomatch hk
theorem dcqcnAlphaTimer (t : Nat) (ch : Nat) : Statement (.dcqcnAlphaTimer t ch) := fun _ _ hk => nomatch hk
theorem dcqcnRateTimer (t : Nat) (ch : Nat) : Statement (.dcqcnRateTimer t ch) := fun _ _ hk => nomatch hk
theorem roceRequestDiscard (t : Nat) (ch : Nat) : Statement (.roceRequestDiscard t ch) := fun _ _ hk => nomatch hk
theorem prtBbCtrlWrite (t : Nat) (v : Nat) : Statement (.prtBbCtrlWrite t v) := fun _ _ hk => nomatch hk
theorem bbArm (t : Nat) : Statement (.bbArm t) := fun _ _ hk => nomatch hk
theorem bbStop (t : Nat) : Statement (.bbStop t) := fun _ _ hk => nomatch hk
theorem bbFlush (t : Nat) : Statement (.bbFlush t) := fun _ _ hk => nomatch hk
theorem captureStart (t : Nat) : Statement (.captureStart t) := fun _ _ hk => nomatch hk
theorem drainStart (t : Nat) : Statement (.drainStart t) := fun _ _ hk => nomatch hk
theorem channelCtrlWrite (t : Nat) (ch : Nat) (v : Nat) : Statement (.channelCtrlWrite t ch v) := fun _ _ hk => nomatch hk
theorem consWrite (t : Nat) (ch : Nat) (v : Nat) : Statement (.consWrite t ch v) := fun _ _ hk => nomatch hk
theorem portConfigWrite (t : Nat) (addr : Nat) (v : Nat) : Statement (.portConfigWrite t addr v) := fun _ _ hk => nomatch hk
theorem prtClrCounts (t : Nat) : Statement (.prtClrCounts t) := fun _ _ hk => nomatch hk
theorem tmpOpen (t : Nat) (q : Sys2Proof.TmpReq) : Statement (.tmpOpen t q) := fun _ _ hk => nomatch hk
theorem tmpAuth (t : Nat) (q : Sys2Proof.TmpReq) : Statement (.tmpAuth t q) := fun _ _ hk => nomatch hk
theorem tmpClose (t : Nat) (q : Sys2Proof.TmpReq) : Statement (.tmpClose t q) := fun _ _ hk => nomatch hk
theorem tmpRead (t : Nat) (q : Sys2Proof.TmpReq) : Statement (.tmpRead t q) := fun _ _ hk => nomatch hk
theorem tmpWrite (t : Nat) (q : Sys2Proof.TmpReq) : Statement (.tmpWrite t q) := fun _ _ hk => nomatch hk
theorem tmpMaskwrite (t : Nat) (q : Sys2Proof.TmpReq) : Statement (.tmpMaskwrite t q) := fun _ _ hk => nomatch hk
theorem tmpBlockRead (t : Nat) (q : Sys2Proof.TmpReq) : Statement (.tmpBlockRead t q) := fun _ _ hk => nomatch hk
theorem tmpBlockWrite (t : Nat) (q : Sys2Proof.TmpReq) : Statement (.tmpBlockWrite t q) := fun _ _ hk => nomatch hk
theorem tmpToken (t : Nat) (q : Sys2Proof.TmpReq) : Statement (.tmpToken t q) := fun _ _ hk => nomatch hk
theorem tmpKeepalive (t : Nat) (q : Sys2Proof.TmpReq) : Statement (.tmpKeepalive t q) := fun _ _ hk => nomatch hk
theorem tmpDiscard (t : Nat) (srcIp : Nat) (srcPort : Nat) (datagram : List Nat) : Statement (.tmpDiscard t srcIp srcPort datagram) := fun _ _ hk => nomatch hk
theorem sessionTimeout (t : Nat) (sess : Nat) : Statement (.sessionTimeout t sess) := fun _ _ hk => nomatch hk
theorem dhcpReply (t : Nat) (ip : Nat) (seconds : Nat) : Statement (.dhcpReply t ip seconds) := fun _ _ hk => nomatch hk
theorem dhcpTimer (t : Nat) : Statement (.dhcpTimer t) := fun _ _ hk => nomatch hk
theorem opAbort (t : Nat) (slot : Nat) (abortFirst : Bool) (cuts : List SolCut) : Statement (.opAbort t slot abortFirst cuts) := fun h k hk => by
  cases hk
  simp [Sys2Proof.Instr.wf] at h
  omega
theorem opFinalState (t : Nat) (slot : Nat) : Statement (.opFinalState t slot) := fun h k hk => by
  cases hk
  simp [Sys2Proof.Instr.wf] at h
  omega
theorem nvsShutdown (t : Nat) : Statement (.nvsShutdown t) := fun _ _ hk => nomatch hk
theorem nvsRestart (t : Nat) : Statement (.nvsRestart t) := fun _ _ hk => nomatch hk
theorem fwWrite (t : Nat) (sess : Nat) (slot : Nat) : Statement (.fwWrite t sess slot) := fun h k hk => by
  cases hk
  simp [Sys2Proof.Instr.wf] at h
  omega
theorem storeScrub (t : Nat) (sess : Nat) (slot : Nat) : Statement (.storeScrub t sess slot) := fun h k hk => by
  cases hk
  simp [Sys2Proof.Instr.wf] at h
  omega
theorem panelRefresh (t : Nat) (sess : Nat) (slot : Nat) (arg0 : Nat) : Statement (.panelRefresh t sess slot arg0) := fun h k hk => by
  cases hk
  simp [Sys2Proof.Instr.wf] at h
  omega
theorem arbEpochInc (t : Nat) (sess : Nat) (slot : Nat) (arg0 : Nat) : Statement (.arbEpochInc t sess slot arg0) := fun h k hk => by
  cases hk
  simp [Sys2Proof.Instr.wf] at h
  omega
theorem facilityWrite (t : Nat) (sess : Nat) (slot : Nat) (arg0 : Nat) (arg1 : Nat) (arg2 : Nat) (arg3 : Nat) : Statement (.facilityWrite t sess slot arg0 arg1 arg2 arg3) := fun h k hk => by
  cases hk
  simp [Sys2Proof.Instr.wf] at h
  omega
theorem tallyBurnDone (t : Nat) (burnt : Bool) : Statement (.tallyBurnDone t burnt) := fun _ _ hk => nomatch hk
theorem nandEraseDone (t : Nat) (erased : Bool) (blank : Bool) : Statement (.nandEraseDone t erased blank) := fun _ _ hk => nomatch hk
theorem nandProgramDone (t : Nat) (programmed : Bool) : Statement (.nandProgramDone t programmed) := fun _ _ hk => nomatch hk
theorem blockRelocation (t : Nat) : Statement (.blockRelocation t) := fun _ _ hk => nomatch hk
theorem journalCompaction (t : Nat) : Statement (.journalCompaction t) := fun _ _ hk => nomatch hk
theorem panelAutoRefresh (t : Nat) : Statement (.panelAutoRefresh t) := fun _ _ hk => nomatch hk
theorem panelDriveDone (t : Nat) : Statement (.panelDriveDone t) := fun _ _ hk => nomatch hk
theorem almAck (t : Nat) (v : Nat) : Statement (.almAck t v) := fun _ _ hk => nomatch hk
theorem escalationTimer (t : Nat) (code : Nat) : Statement (.escalationTimer t code) := fun _ _ hk => nomatch hk
theorem readTrackStart (t : Nat) : Statement (.readTrackStart t) := fun _ _ hk => nomatch hk
theorem exposeTrackEnd (t : Nat) : Statement (.exposeTrackEnd t) := fun _ _ hk => nomatch hk
theorem pauseExpiry (t : Nat) (port : Nat) : Statement (.pauseExpiry t port) := fun _ _ hk => nomatch hk
theorem acOvervoltageClear (t : Nat) : Statement (.acOvervoltageClear t) := fun _ _ hk => nomatch hk
theorem managementLinkUp (t : Nat) : Statement (.managementLinkUp t) := fun _ _ hk => nomatch hk
theorem managementLinkDown (t : Nat) : Statement (.managementLinkDown t) := fun _ _ hk => nomatch hk
theorem extestUpdateDr (t : Nat) (cells : Nat) : Statement (.extestUpdateDr t cells) := fun _ _ hk => nomatch hk
theorem vrefTReturn (t : Nat) : Statement (.vrefTReturn t) := fun _ _ hk => nomatch hk
theorem tWholeSecond (t : Nat) : Statement (.tWholeSecond t) := fun _ _ hk => nomatch hk

end Sys2Proof.Laws.Slots
end

