-- ==== Sys2Proof/Tests/Slice0.lean ====
section
/-!
SUPPORT. The model's own tests: for every statement of Obligations.lean a state and operands that meet the hypotheses of each of its
clauses, the values of spec/'s worked examples, and an ill-formed term for each check of WellFormed.
-/
namespace Sys2Proof.Tests
open Sys2Proof Sys2Proof.Machine

/-! ### Small states and files -/

set_option maxRecDepth 100000
set_option Elab.async false
/-- The state after reset with some fields set. -/
def st (l : List (Fld × Nat)) : State := l.foldl (fun s p => s.set p.1 p.2) State.reset

/-- A module up in a mode, with some fields set. -/
def up (m : Mode) (l : List (Fld × Nat)) : State := { st l with sys.mode := m, sys.up := true }

/-- A file whose body, from frame 0, holds these bytes at these body offsets. -/
def file (l : List (Nat × List Nat)) : Mem := l.foldl (fun m e => m.store (bodyOff e.1) e.2) []

/-- An active image of a line tile, with an edge stage where asked for. -/
def lineFile : Mem := file [(0x1D, [2])]

/-- A custodian's session with a token for a setting. -/
def cust (tk : Token) : Sess := { no := 7, ip := 1, port := 2, role := 2, nonce := [], last := 0, seq := 0, opened := 0, openSeq := 0, token := some tk }

/-- An operator's session. -/
def oper : Sess := { no := 7, ip := 1, port := 2, role := 0, nonce := [], last := 0, seq := 0, opened := 0, openSeq := 0 }

/-- Frame 1 of a file, its body zeros. -/
def frameOne : List Nat :=
  let b := leBytes 4 1 ++ List.replicate 1016 0
  b ++ leBytes 4 (crc32 b)

/-- A file that holds only the frame 1. -/
def frameOneFile : Mem := Mem.store [] 1024 frameOne

/-- The manifest entry of a required section (R72): type, instance, body offset, length. -/
def entry (type inst off len : Nat) : List Nat :=
  leBytes 2 type ++ leBytes 2 inst ++ leBytes 4 off ++ leBytes 4 len ++ leBytes 4 0 ++ leBytes 4 1

/-- An image whose governor ladder declares all four tiers (R79). -/
def ladderFile : Mem := file [(0x1D, [1]), (0x20, [1]), (320, entry 6 0 512 64), (512, [15])]

/-- A step of R162: duration, operation, and 1 with SMP, 2 with ROW. -/
def pstep (dur op flags : Nat) : List Nat := leBytes 8 (2 ^ 16 * dur + 2 ^ 36 * op + 2 ^ 40 * flags)

/-- A file that a build accepts: one area program, one monitor entry, Tier 0 alone, one default. -/
def goodFile : Mem :=
  file [(0x1D, [1]), (0x20, [4]), (320, entry 3 0 512 80), (352, entry 4 0 640 256), (384, entry 6 0 928 64), (416, entry 8 0 992 8),
    (512, leBytes 4 0x50475054 ++ [0, 1, 6, 0, 2, 0, 1, 0xFF]), (532, leBytes 4 100000),
    (544, pstep 1280 0 0 ++ pstep 0 3 0 ++ pstep 1024 1 0 ++ pstep 640 0 3 ++ pstep 0 2 0 ++ pstep 0 3 0),
    (640, leBytes 4 0x51534D54 ++ [1, 0, 1, 0]), (656, leBytes 4 (16 + 256 * 7) ++ leBytes 4 40),
    (928, [1]), (952, leBytes 4 1 ++ leBytes 4 2), (992, leBytes 4 0x40108 ++ leBytes 4 50000)]

/-- A factory table whose radiance rises from 0 to 1 over its first interval. -/
def radFile : Mem := Mem.store [] 0x24 (leBytes 4 0x3F800000)

/-- What a trim reads on a noiseless front-end whose trims are the factory ones. -/
def quietTrims (fe : Nat) : List TrimRead := (List.range 4).flatMap fun g =>
  [⟨g, false, (Config.trimFactory fe (2 * g)).1, (Config.trimFactory fe (2 * g)).2, 32768 * 4096, 0, 57344 * 4096, 0, 8192 * 4096, 0, 0⟩,
   ⟨g, true, (Config.trimFactory fe (2 * g + 1)).1, (Config.trimFactory fe (2 * g + 1)).2, 32768 * 4096, 0, 57344 * 4096, 0, 8192 * 4096, 0, 0⟩]

/-- An image whose routing gives lane 0 a source. -/
def routeFile : Mem := file [(0x1D, [1]), (0x20, [1]), (320, entry 2 0 512 32), (512, 0 :: List.replicate 31 0xFF)]

/-- A line image with an EDGE stage. -/
def edgeFile : Mem := file [(0x1D, [2]), (0x20, [1]), (320, entry 1 0 512 48), (512, [1]), (528, [7, 0, 0x25])]

/-- The identity of the curve, as a point's 32 bytes: y = 1. -/
def idPoint : List Nat := 1 :: List.replicate 31 0

/-- A pending custodian's session. -/
def cust0 : Sess := { oper with role := 1 }

/-- The curve's identity added to itself is itself. -/
theorem edAdd_id : edAdd (0, 1) (0, 1) = (0, 1) := by decide +kernel

theorem edMul_id (k n : Nat) : edMul (0, 1) k n = (0, 1) := by
  induction n generalizing k with
  | zero => rfl
  | succ n ih => simp [edMul, ih, edAdd_id]

theorem edMul_zero (p : Nat × Nat) (n : Nat) : edMul p 0 n = (0, 1) := by
  induction n with
  | zero => rfl
  | succ n ih => simp [edMul, ih, edAdd_id]

theorem edPoint_id : edPoint idPoint = some (0, 1) := by decide +kernel

/-- The identity as key and R, with S = 0, verifies for any message (the equation of RFC 8032 alone is asked). -/
theorem edVerify_id (msg : List Nat) : edVerify idPoint (idPoint ++ List.replicate 32 0) msg = true := by
  have h : (idPoint ++ List.replicate 32 0).take 32 = idPoint := by decide
  have b : leVal ((idPoint ++ List.replicate 32 0).drop 32) = 0 := by decide +kernel
  have l : (idPoint ++ List.replicate 32 0).length = 64 := by decide
  simp only [edVerify, h, b, l, edPoint_id, edMul_id, edMul_zero, edAdd_id]
  simp [edL]

theorem edVerify_bad (msg : List Nat) : edVerify idPoint (List.replicate 64 0xFF) msg = false := by
  have h : edPoint ((List.replicate 64 0xFF).take 32) = none := by decide +kernel
  simp only [edVerify, h, edPoint_id]

theorem trimOk_quiet (p : Int × Int) (g : Nat) (c : Bool) :
    trimOk p p ⟨g, c, p.1, p.2, 134217728, 0, 234881024, 0, 33554432, 0, 0⟩ = true := by
  simp only [trimOk, noiseOk, Int.sub_self, Int.natAbs_zero, Nat.zero_mul, Nat.mul_zero, Nat.zero_le, decide_true, Bool.and_self,
    Bool.true_and]
  have e : (((134217728 : Nat) : Int) - 32768 * 4096).natAbs ≤ 8 * 4096 ∧
      (2 * ((134217728 : Nat) : Int) - (234881024 : Nat) - (33554432 : Nat)).natAbs ≤ 12 * 4096 := by decide +kernel
  rw [decide_eq_true e.1, decide_eq_true e.2]
  have g : gainNominal ⟨g, c, p.1, p.2, 134217728, 0, 234881024, 0, 33554432, 0, 0⟩ = true := by
    have e : (((234881024 : Nat) : Int) - (33554432 : Nat) - 49152 * 4096).natAbs * 2000 ≤ 49152 * 4096 := by decide +kernel
    simp only [gainNominal, decide_eq_true e]
  simp only [g, Bool.and_self]

theorem pairOk_quiet (g : Nat) (a b a' b' : Int) :
    pairOk ⟨g, false, a, b, 134217728, 0, 234881024, 0, 33554432, 0, 0⟩
      ⟨g, true, a', b', 134217728, 0, 234881024, 0, 33554432, 0, 0⟩ = true := by
  simp only [pairOk, Int.sub_self, Int.natAbs_zero, Nat.zero_mul, Nat.zero_le, decide_true, Bool.and_self]

theorem quietTrims_ok (s : State) (fe : Nat) (h : s.vfe.trims = []) : s.phase3Ok fe (quietTrims fe) = true := by
  have r : List.range 4 = [0, 1, 2, 3] := rfl
  have t : List.range 8 = [0, 1, 2, 3, 4, 5, 6, 7] := rfl
  simp only [State.phase3Ok, quietTrims, readOf, r, List.flatMap_cons, List.flatMap_nil, List.append_nil, List.cons_append, List.nil_append,
    List.all_cons, List.all_nil, List.find?_cons]
  simp only [State.trims, h, List.find?_nil, Option.map_none, Option.getD_none, trimsFactory, t, List.map_cons, List.map_nil]
  simp [-Int.sub_self, nth, trimOk_quiet, pairOk_quiet]

/-- A custodian's session with a matching token is not refused a counted change that is left. -/
theorem counted_ok (s : State) (k : Token) (h : s.tmp.sessions = [cust k]) (t : s.tally k.setting < tallyTotal k.setting)
    (c : k.count = s.tally k.setting + 1) :
    s.countedRefusal 7 k.setting k.request = none := by
  simp [State.countedRefusal, State.tokenFor, h, cust, Nat.not_le.2 t, c]

/-- A running module whose last boundary was at 0, with a frame period of 50,000: a boundary is due at 800,000. -/
def running (m : Mode) (l : List (Fld × Nat)) : State :=
  { up m l with sys.run := true, fpl.lastB := some 0,
                fpl.lastSet := some { prog := 0, int := 0, period := 50000, gains := 0, bias := [], minper := 0, nomper := 0 } }

/-- A swap of front-end 3 in a phase whose shadow has its 256 lines, with these sums. -/
def shadowSt (ph : Nat) (w : FitSums) : State :=
  { up .stare [(VFE_SPARE_STATE.PHASE, ph), (VFE_SPARE_STATE.CHAN, 3)] with sys.run := true, vfe.lines := 256, vfe.fit := w }

/-- Frame 0 of a file of 5 frames whose manifest of 64 entries ends in a later frame. -/
def frameZero : List Nat :=
  let b := leBytes 4 0 ++ leBytes 4 0x4D494654 ++ leBytes 2 1 ++ leBytes 2 0x100 ++ leBytes 4 5 ++ leBytes 4 4064 ++
    List.replicate 16 0 ++ leBytes 2 64 ++ [0, 0] ++ leBytes 4 0x140 ++ List.replicate 976 0
  b ++ leBytes 4 (crc32 b)

/-- A signature frame: key 1, and the identity with S = 0. -/
def sigFrame : List Nat :=
  let b := leBytes 4 1 ++ leBytes 4 0x47495354 ++ leBytes 2 1 ++ leBytes 2 1 ++ leBytes 4 1024 ++ leBytes 4 0 ++ idPoint ++
    List.replicate 968 0
  b ++ leBytes 4 (crc32 b)

/-- A file of two frames, the second its signature. -/
def signedFile : Mem := (file [(8, [2])]).store 1024 sigFrame

/-- The firmware's image key 1, the identity. -/
def imageKey : KeyEnt := { id := 1, key := idPoint, revoked := false }

/-- A whole file whose signature is of the identity passes the checks of the last frame. -/
theorem lastChecks_id (s : State) (f : Mem) (l : sigLayoutOk f (hdrFrames f) = true)
    (k : s.bring.fw.imageKeys.find? (·.id == sigKey f (hdrFrames f)) = some imageKey)
    (g : sigBytes f (hdrFrames f) = idPoint ++ List.replicate 32 0) (a : ¬ hdrArb f < s.arbEpoch)
    (c : (!allZero (hdrFacility f) && hdrFacility f != s.facility) = false) (t : s.tilesOk f = true) : s.lastChecks f = 0 := by
  have e : keyCheck s.bring.fw.imageKeys (sigKey f (hdrFrames f)) (sigBytes f (hdrFrames f)) (signedBytes f (hdrFrames f)) 8 9 = 0 := by
    simp only [keyCheck, k, g, imageKey, edVerify_id, Bool.false_eq_true, if_false, if_true]
  simp [State.lastChecks, l, e, a, c, t]

/-- An area image whose program 0 is the idle one. -/
def idleFile : Mem := goodFile.store (bodyOff 516) [2]

/-- A line image whose routing gives lane 0 a source. -/
def routeLine : Mem := file [(0x1D, [2]), (0x20, [1]), (320, entry 2 0 512 32), (512, 0 :: List.replicate 31 0xFF)]

/-! ### A state for each clause of each statement -/

theorem witness_IdleStepCountsReftick :
    ∃ (s : State), s.pending = [] :=
  ⟨st [], by decide +kernel⟩

theorem witness_GovernorWrites :
    (∃ (v : Nat) (s : State), s.takes 0x10000 = true ∧ s.sys.mode ≠ .load ∧ s.gov.hot = false ∧ tierExists s.image (GOV_CTRL.TIER_MIN.ofWord v) = true
      ∧ tierExists s.image (GOV_CTRL.TIER_MAX.ofWord v) = true ∧ GOV_CTRL.TIER_MIN.ofWord v ≤ GOV_CTRL.TIER_MAX.ofWord v ∧ GOV_CTRL.TIER_MIN.ofWord v
      ≤ s.get GOV_STATE.TIER ∧ s.get GOV_STATE.TIER ≤ GOV_CTRL.TIER_MAX.ofWord v ∧ s.gov.tierNext.all (fun g => decide (GOV_CTRL.TIER_MIN.ofWord v ≤ g
      ∧ g ≤ GOV_CTRL.TIER_MAX.ofWord v)) = true) ∧
    (∃ (v : Nat) (s : State), s.takes 0x1000C = true ∧ s.sys.mode ≠ .load ∧ v < 2 ^ 24 ∧ 0 < v ∧ v < s.get GOV_SLACK_HIGH.HIGH ∧ s.get
      GOV_SLACK_HIGH.HIGH ≤ s.get GOV_DEADLINE.DL) ∧
    (∃ (v : Nat) (s : State), s.takes 0x10010 = true ∧ s.sys.mode ≠ .load ∧ v < 2 ^ 24 ∧ 0 < s.get GOV_SLACK_LOW.LOW ∧ s.get GOV_SLACK_LOW.LOW < v ∧ v
      ≤ s.get GOV_DEADLINE.DL) ∧
    (∃ (s : State), s.takes 0x10040 = true) ∧
    (∃ (s : State), s.takes 0x10040 = true) :=
  ⟨⟨32, { up .stare [(GOV_STATE.TIER,1)] with img.active := some { file := ladderFile } }, by decide +kernel⟩,
   ⟨5, up .stare [(GOV_SLACK_HIGH.HIGH,20),(GOV_DEADLINE.DL,100)], by decide +kernel⟩,
   ⟨50, up .stare [(GOV_SLACK_LOW.LOW,20),(GOV_DEADLINE.DL,100)], by decide +kernel⟩,
   ⟨st [], by decide +kernel⟩,
   ⟨st [], by decide +kernel⟩⟩

theorem witness_TierRangeMovesTier :
    (∃ (v : Nat) (s : State), s.takes 0x10000 = true ∧ s.sys.mode ≠ .load ∧ s.gov.hot = false ∧ s.sys.runAt = none ∧ tierExists s.image
      (GOV_CTRL.TIER_MIN.ofWord v) = true ∧ tierExists s.image (GOV_CTRL.TIER_MAX.ofWord v) = true ∧ GOV_CTRL.TIER_MIN.ofWord v ≤
      GOV_CTRL.TIER_MAX.ofWord v ∧ s.get GOV_STATE.TIER < GOV_CTRL.TIER_MIN.ofWord v) ∧
    (∃ (v : Nat) (s : State), s.takes 0x10000 = true ∧ s.sys.mode ≠ .load ∧ s.gov.hot = false ∧ s.sys.runAt = none ∧ tierExists s.image
      (GOV_CTRL.TIER_MIN.ofWord v) = true ∧ tierExists s.image (GOV_CTRL.TIER_MAX.ofWord v) = true ∧ GOV_CTRL.TIER_MIN.ofWord v ≤
      GOV_CTRL.TIER_MAX.ofWord v ∧ GOV_CTRL.TIER_MAX.ofWord v < s.get GOV_STATE.TIER) ∧
    (∃ (v g : Nat) (s : State), s.takes 0x10000 = true ∧ s.sys.mode ≠ .load ∧ s.gov.hot = false ∧ s.sys.runAt = none ∧ tierExists s.image
      (GOV_CTRL.TIER_MIN.ofWord v) = true ∧ tierExists s.image (GOV_CTRL.TIER_MAX.ofWord v) = true ∧ GOV_CTRL.TIER_MIN.ofWord v ≤
      GOV_CTRL.TIER_MAX.ofWord v ∧ GOV_CTRL.TIER_MIN.ofWord v ≤ s.get GOV_STATE.TIER ∧ s.get GOV_STATE.TIER ≤ GOV_CTRL.TIER_MAX.ofWord v ∧
      s.gov.tierNext = some g ∧ (g < GOV_CTRL.TIER_MIN.ofWord v ∨ GOV_CTRL.TIER_MAX.ofWord v < g)) ∧
    (∃ (v : Nat) (s : State), s.takes 0x10000 = true ∧ s.sys.mode ≠ .load ∧ s.gov.hot = true ∧ tierExists s.image (GOV_CTRL.TIER_MIN.ofWord v) = true
      ∧ tierExists s.image (GOV_CTRL.TIER_MAX.ofWord v) = true ∧ GOV_CTRL.TIER_MIN.ofWord v ≤ GOV_CTRL.TIER_MAX.ofWord v) :=
  ⟨⟨33, { up .stare [] with img.active := some { file := ladderFile } }, by decide +kernel⟩,
   ⟨16, { up .stare [(GOV_STATE.TIER,2)] with img.active := some { file := ladderFile } }, by decide +kernel⟩,
   ⟨16, 2, { up .stare [] with img.active := some { file := ladderFile }, gov.tierNext := some 2 }, by decide +kernel⟩,
   ⟨33, { up .stare [] with img.active := some { file := ladderFile }, gov.hot := true }, by decide +kernel⟩⟩

theorem witness_GovernorEvents :
    (∃ (s : State), s.gov.lockDue = true) ∧
    (∃ (s : State), s.gov.predDue = true) ∧
    (∃ (s : State), s.gov.vMoving = true ∧ (s.gov.vTo = none ∨ s.gov.vTo = some (s.get GOV_STATE.VCODE))) ∧
    (∃ (g : Nat) (s : State), s.gov.vMoving = true ∧ s.gov.vTo = some g ∧ s.get GOV_STATE.VCODE < g ∧ g ≤ 16 ∧ s.pfw = false) ∧
    (∃ (g : Nat) (s : State), s.gov.vMoving = true ∧ s.gov.vTo = some g ∧ g < s.get GOV_STATE.VCODE ∧ s.get GOV_STATE.VCODE ≤ 16) ∧
    (∃ (g : Nat) (s : State), s.gov.vMoving = true ∧ s.gov.vTo = some g ∧ s.get GOV_STATE.VCODE < g ∧ s.pfw = true) ∧
    (∃ (counts : List Nat), counts ≠ [] ∧ (∀ x ∈ counts, 0 < x ∧ x < 2 ^ 16)) :=
  ⟨⟨{ st [] with gov.lockDue := true }, by decide +kernel⟩,
   ⟨{ st [] with gov.predDue := true }, by decide +kernel⟩,
   ⟨{ st [] with gov.vMoving := true, gov.vTo := some 8 }, by decide +kernel⟩,
   ⟨9, { st [] with gov.vMoving := true, gov.vTo := some 9 }, by decide +kernel⟩,
   ⟨7, { st [] with gov.vMoving := true, gov.vTo := some 7 }, by decide +kernel⟩,
   ⟨9, { st [(PWR_STATUS.PFW,1)] with gov.vMoving := true, gov.vTo := some 9 }, by decide +kernel⟩,
   ⟨[100], by decide +kernel⟩⟩

theorem witness_ReferenceAndDelayLine :
    (∃ (off : Int) (s : State), off.natAbs ≤ 2000 ∧ s.gov.gates < 9) ∧
    (∃ (off : Int) (s : State), off.natAbs ≤ 2000 ∧ s.gov.gates = 9 ∧ s.get GOV_REF_STATUS.QUALIFIED = 0 ∧ s.get GOV_REF_STATUS.SRC = 0 ∧ s.get
      GOV_REF_CTRL.SRC_SEL ≠ 2 ∧ s.alm.unheld = []) ∧
    (∃ (n src b : Nat) (s : State), s.gov.refTo = some src ∧ src < 2 ∧ (s.at n).dueBoundary = some b ∧ s.gov.refAt + 16 ≤ b) ∧
    (∃ (s : State), s.get GOV_REF_STATUS.QUALIFIED = 1 ∧ s.get GOV_REF_STATUS.SRC = 1 ∧ s.get GOV_REF_CTRL.SRC_SEL ≠ 1 ∧ s.held < 62) ∧
    (∃ (v : Nat) (s : State), s.takes 0x10100 = true ∧ GOV_REF_CTRL.SRC_SEL.ofWord v = 2 ∧ s.get GOV_REF_STATUS.SRC = 1) ∧
    (∃ (v : Nat) (s : State), s.takes 0x10100 = true ∧ GOV_REF_CTRL.SRC_SEL.ofWord v < 2 ∧ s.get GOV_REF_STATUS.SRC = 1) ∧
    (∃ (s : State), s.sys.stages.contains 2 = true ∧ s.get GOV_REF_STATUS.DLL_LOCK = 0 ∧ s.get PWR_STATUS.STATE < 2 ∧ s.alm.unheld = []) ∧
    (∃ (s : State), s.get GOV_REF_STATUS.DLL_LOCK = 1 ∧ s.sys.run = false ∧ s.sys.runAt = none ∧ s.fpl.frames = [] ∧ s.alm.dllTimes = [] ∧ s.held <
      62) ∧
    (∃ (s : State), s.get GOV_REF_STATUS.DLL_LOCK = 0 ∧ s.sys.stages = [1] ∧ s.isActive 0x0101 noInst = false ∧ s.alm.unheld = [] ∧ s.held < 62) :=
  ⟨⟨5, st [], by decide +kernel⟩,
   ⟨5, { st [] with gov.gates := 9 }, by decide +kernel⟩,
   ⟨1000000, 1, 800000, { running .stare [] with gov.refTo := some 1 }, by decide +kernel⟩,
   ⟨st [(GOV_REF_STATUS.QUALIFIED,1),(GOV_REF_STATUS.SRC,1)], by decide +kernel⟩,
   ⟨2, st [(GOV_REF_STATUS.SRC,1)], by decide +kernel⟩,
   ⟨1, st [(GOV_REF_STATUS.SRC,1)], by decide +kernel⟩,
   ⟨{ st [] with sys.stages := [1,2] }, by decide +kernel⟩,
   ⟨st [(GOV_REF_STATUS.DLL_LOCK,1)], by decide +kernel⟩,
   ⟨{ st [] with sys.stages := [1] }, by decide +kernel⟩⟩

theorem witness_ImageOperationsAccepted :
    (∃ (n slot a : Nat) (s : State), slot < 8 ∧ ((s.at n).opArgs slot (some a) none none none).opRefusal slot 0x0201 = none ∧ imgCheck 0x0201 slot
      ((s.at n).opArgs slot (some a) none none none) = none) ∧
    (∃ (n slot a : Nat) (s : State), slot < 8 ∧ ((s.at n).opArgs slot (some a) none none none).opRefusal slot 0x0202 = none ∧ imgCheck 0x0202 slot
      ((s.at n).opArgs slot (some a) none none none) = none) ∧
    (∃ (n slot a : Nat) (s : State), slot < 8 ∧ ((s.at n).opArgs slot (some a) none none none).opRefusal slot 0x0202 = none ∧ imgCheck 0x0202 slot
      ((s.at n).opArgs slot (some a) none none none) = none ∧ a < 2 ^ 32 ∧ 2048 ≤ (s.source a).2 ∧ (s.source a).2 % 1024 = 0 ∧ (∀ l ∈ s.img.loads,
      l.slot ≠ slot)) ∧
    (∃ (n slot a b : Nat) (s : State), slot < 8 ∧ a < 4 ∧ ((s.at n).opArgs slot (some a) (some b) none none).opRefusal slot 0x0203 = none ∧ imgCheck
      0x0203 slot ((s.at n).opArgs slot (some a) (some b) none none) = none) ∧
    (∃ (n slot a : Nat) (s : State), slot < 8 ∧ a < 4 ∧ ((s.at n).opArgs slot (some a) none none none).opRefusal slot 0x0204 = none ∧ imgCheck 0x0204
      slot ((s.at n).opArgs slot (some a) none none none) = none) :=
  ⟨⟨0, 0, 4, up .stare [], by decide +kernel⟩,
   ⟨0, 0, 4, { up .stare [(IMG_STAGE_LEN.LEN,2048)] with sys.run := true }, by decide +kernel⟩,
   ⟨0, 0, 4, { up .stare [(IMG_STAGE_LEN.LEN,2048)] with sys.run := true }, by decide +kernel⟩,
   ⟨0, 0, 1, 0, up .stare [], by decide +kernel⟩,
   ⟨0, 0, 1, up .stare [], by decide +kernel⟩⟩

theorem witness_CalibrationOperationsAccepted :
    (∃ (n slot a0 a1 a2 a3 : Nat) (s : State), slot < 8 ∧ ((s.at n).opArgs slot (some a0) (some a1) (some a2) (some a3)).opRefusal slot 0x0701 = none
      ∧ charCheck slot ((s.at n).opArgs slot (some a0) (some a1) (some a2) (some a3)) = none) ∧
    (∃ (n slot a0 a1 a2 a3 : Nat) (s : State), slot < 8 ∧ a0 < 2 ^ 32 ∧ a0 ≠ 0 ∧ clearBits a0 s.boundMask = 0 ∧ ((s.at n).opArgs slot (some a0) (some
      a1) (some a2) (some a3)).opRefusal slot 0x0701 = none ∧ charCheck slot ((s.at n).opArgs slot (some a0) (some a1) (some a2) (some a3)) = none) ∧
    (∃ (n slot a0 a1 a2 a3 : Nat) (s : State), slot < 8 ∧ a0 < 2 ^ 32 ∧ (a0 = 0 ∨ clearBits a0 s.boundMask ≠ 0) ∧ s.ops.slots.length = 8 ∧ ((s.at
      n).opArgs slot (some a0) (some a1) (some a2) (some a3)).opRefusal slot 0x0701 = none ∧ charCheck slot ((s.at n).opArgs slot (some a0) (some a1)
      (some a2) (some a3)) = none) ∧
    (∃ (n slot a0 : Nat) (s : State), slot < 8 ∧ ((s.at n).opArgs slot (some a0) none none none).opRefusal slot 0x0702 = none) ∧
    (∃ (n slot a0 a1 a2 a3 : Nat) (s : State), slot < 8 ∧ (∀ b ∈ s.sol.batches.head?, b.tier.isSome = true) ∧ ((s.at n).opArgs slot (some a0) (some
      a1) (some a2) (some a3)).opRefusal slot 0x0901 = none ∧ solCheck slot ((s.at n).opArgs slot (some a0) (some a1) (some a2) (some a3)) = none) :=
  ⟨⟨0, 0, 1, 0, 0, 0, { up .stare [] with img.active := some { file := file [(0x1E, [1])] }, bring.tiles := [{ state := 1 }] }, by decide +kernel⟩,
   ⟨0, 0, 1, 0, 0, 0, { up .stare [] with img.active := some { file := file [(0x1E, [1])] }, bring.tiles := [{ state := 1 }] }, by decide +kernel⟩,
   ⟨0, 0, 0, 0, 0, 0, { up .stare [] with img.active := some { file := file [(0x1E, [1])] }, bring.tiles := [{ state := 1 }] }, by decide +kernel⟩,
   ⟨0, 0, 1, up .stare [], by decide +kernel⟩,
   ⟨0, 0, 0, 0, 0, 0, up .stare [], by decide +kernel⟩⟩

theorem witness_StoreOperationsAccepted :
    (∃ (n slot : Nat) (s : State), slot < 8 ∧ (s.at n).opRefusal slot 0x0E01 = none) ∧
    (∃ (n slot : Nat) (s : State), slot < 8 ∧ (s.at n).opRefusal slot 0x0E02 = none ∧ s.ops.slots.length = 8) ∧
    (∃ (n slot a : Nat) (s : State), slot < 8 ∧ a ≤ 1 ∧ ((s.at n).opArgs slot (some a) none none none).opRefusal slot 0x0E03 = none) ∧
    (∃ (n sess slot a : Nat) (s : State), slot < 8 ∧ ((s.at n).opArgs slot (some a) none none none).opRefusal slot 0x0E04 = none ∧ arbCheck sess slot
      ((s.at n).opArgs slot (some a) none none none) = none) ∧
    (∃ (n sess slot a0 a1 a2 a3 : Nat) (s : State), slot < 8 ∧ ((s.at n).opArgs slot (some a0) (some a1) (some a2) (some a3)).opRefusal slot 0x0E05 =
      none ∧ facCheck sess slot ((s.at n).opArgs slot (some a0) (some a1) (some a2) (some a3)) = none) ∧
    (∃ (n sess slot pos lo hi a3 : Nat) (s : State), slot < 8 ∧ ((s.at n).opArgs slot (some pos) (some lo) (some hi) (some a3)).opRefusal slot 0x0401
      = none ∧ bindCheck sess slot ((s.at n).opArgs slot (some pos) (some lo) (some hi) (some a3)) = none) :=
  ⟨⟨0, 0, up .stare [], by decide +kernel⟩,
   ⟨0, 0, up .stare [], by decide +kernel⟩,
   ⟨0, 0, 1, up .stare [], by decide +kernel⟩,
   ⟨0, 7, 0, 1,
    { up .stare [(IMG_SLOTn_STATUS.STATE 0, 1)] with tmp.sessions := [cust ⟨4, 1, 1, [1]⟩], bring.fw := { arb := 1 }, nv.slots := [{ copy := some 0, a := { file := file [(0x1C, [1])] } }] },
    by decide +kernel⟩,
   ⟨0, 7, 0, 1, 0, 0, 0, { up .stare [] with tmp.sessions := [cust ⟨5, 1, 1, 1 :: List.replicate 15 0⟩] }, by decide +kernel⟩,
   ⟨0, 7, 0, 0, 0, 0, 0, { up .stare [] with tmp.sessions := [cust ⟨5, 1, 1, []⟩] }, by decide +kernel⟩⟩

theorem witness_OperationsRefuseAndEnd :
    (∃ (slot : Nat) (s : State), slot < 8 ∧ s.slotLive slot = true ∧ s.takes (opAddr slot) = true) ∧
    (∃ (slot : Nat) (s : State), slot < 8 ∧ s.takes (0xD0118 + 0x100 * slot) = true ∧ s.slotLive slot = true ∧ s.get (OP_STATUS.ABORT_REQ slot) = 0) ∧
    (∃ (slot : Nat) (s : State), slot < 8 ∧ s.takes (0xD0118 + 0x100 * slot) = true ∧ s.slotLive slot = true ∧ s.get (OP_STATUS.ABORT_REQ slot) = 1) ∧
    (∃ (slot : Nat) (s : State), slot < 8 ∧ s.takes (0xD0118 + 0x100 * slot) = true ∧ s.slotLive slot = false) ∧
    (∃ (slot : Nat) (s : State), slot < 8 ∧ s.ops.slots.length = 8 ∧ s.takes (0xD0118 + 0x100 * slot) = true ∧ s.get (OP_CMD.CMD slot) = 0x0201 ∧
      s.get (OP_STATUS.STATE slot) = 2 ∧ s.get (OP_STATUS.ABORT_REQ slot) = 0 ∧ (s.opx slot).outcome = none) ∧
    (∃ (slot o : Nat) (s : State), slot < 8 ∧ s.slotLive slot = true ∧ (s.opx slot).outcome = some o ∧ (o = 3 ∨ o = 4 ∨ o = 5) ∧ (∀ j ∈ s.nvs.erasing,
      j.slot ≠ some slot)) ∧
    (∃ (slot o : Nat) (s : State), slot < 8 ∧ s.ops.slots.length = 8 ∧ s.get (OP_STATUS.STATE slot) = 2 ∧ s.get (OP_CMD.CMD slot) = 0x0201 ∧ (s.opx
      slot).outcome = some o ∧ (o = 3 ∨ o = 4 ∨ o = 5) ∧ (∀ j ∈ s.nvs.erasing, j.slot ≠ some slot) ∧ s.img.unlockOp = none) :=
  ⟨⟨0, st [(OP_STATUS.STATE 0,2)], by decide +kernel⟩,
   ⟨0, st [(OP_STATUS.STATE 0,2)], by decide +kernel⟩,
   ⟨0, st [(OP_STATUS.STATE 0,2),(OP_CMD.CMD 0,0x201),(OP_STATUS.ABORT_REQ 0,1)], by decide +kernel⟩,
   ⟨0, st [], by decide +kernel⟩,
   ⟨0, st [(OP_STATUS.STATE 0,2),(OP_CMD.CMD 0,0x201)], by decide +kernel⟩,
   ⟨0, 3, { st [(OP_STATUS.STATE 0,2),(OP_CMD.CMD 0,0x201)] with ops.slots := { outcome := some 3 } :: List.replicate 7 {} }, by decide +kernel⟩,
   ⟨0, 3, { st [(OP_STATUS.STATE 0,2),(OP_CMD.CMD 0,0x201)] with ops.slots := { outcome := some 3 } :: List.replicate 7 {} }, by decide +kernel⟩⟩

theorem witness_ImagesAndLoads :
    (∃ (v : Nat) (s : State), s.takes 0x20030 = true ∧ s.stagingBusy = false ∧ v % 4 = 0 ∧ v ≤ 67108864) ∧
    (∃ (s : State), s.takes 0x20034 = true) ∧
    (∃ (s : State), s.takes 0x20020 = true) ∧
    (∃ (s : State), s.takes 0x20000 = true) ∧
    (∃ (sess : Nat) (s : State), s.takes 0x20028 = true ∧ s.img.unlocked = false ∧ s.countedRefusal sess 3 [0] = none ∧ s.pfw = false ∧
      (s.nvs.burn.toList ++ s.nvs.burnWait).any (·.setting == 3) = false) ∧
    (∃ (readOk : Bool) (s : State) (l : LoadS), s.receiving = some l ∧ (readOk = true ∨ 4 ≤ l.src) ∧ l.lenBad = false ∧ (frameChecks l.file l.len
      l.n).1 = 0 ∧ l.n + 1 ≠ hdrFrames l.file) ∧
    (∃ (readOk : Bool) (s : State) (l : LoadS), s.receiving = some l ∧ (readOk = true ∨ 4 ≤ l.src) ∧ l.purpose ≤ 2 ∧ l.slot < 8 ∧ s.ops.slots.length =
      8 ∧ l.lenBad = false ∧ (frameChecks l.file l.len l.n).1 ≠ 0) ∧
    (∃ (s : State) (l : LoadS), s.receiving = some l ∧ l.src < 4 ∧ l.purpose ≤ 2 ∧ l.slot < 8 ∧ s.ops.slots.length = 8) ∧
    (∃ (n : Nat) (s : State) (l : LoadS), s.receiving = some l ∧ l.purpose = 1 ∧ l.slot < 8 ∧ s.ops.slots.length = 8 ∧ l.lenBad = false ∧ (frameChecks
      l.file l.len l.n).1 = 0 ∧ l.n + 1 = hdrFrames l.file ∧ (s.at n).lastChecks l.file = 0) ∧
    (∃ (s : State) (l : LoadS), s.loadIn 2 = some l ∧ s.quiet = true) ∧
    (∃ (n : Nat) (s : State) (l : LoadS), s.loadIn 3 = some l ∧ ((s.at n).buildCheck { file := l.file, frames := hdrFrames l.file }).1 = 0) ∧
    (∃ (n : Nat) (s : State) (l : LoadS), s.loadIn 3 = some l ∧ l.purpose = 0 ∧ l.slot < 8 ∧ s.ops.slots.length = 8 ∧ s.held < 62 ∧ ((s.at
      n).buildCheck { file := l.file, frames := hdrFrames l.file }).1 ≠ 0) ∧
    (∃ (s : State) (l : LoadS), s.slotWriter = some l) ∧
    (∃ (s : State) (l : LoadS), s.slotWriter = some l ∧ l.slot < 8 ∧ s.ops.slots.length = 8 ∧ s.held < 62) :=
  ⟨⟨8, st [], by decide +kernel⟩,
   ⟨st [], by decide +kernel⟩,
   ⟨st [], by decide +kernel⟩,
   ⟨st [], by decide +kernel⟩,
   ⟨7, { st [] with tmp.sessions := [cust ⟨3, 1, 1, [0]⟩] }, by decide +kernel⟩,
   ⟨true, { up .stare [] with img.loads := [{ phase := 1, purpose := 1, n := 1, file := frameOneFile }] },
    { phase := 1, purpose := 1, n := 1, file := frameOneFile }, by decide +kernel⟩,
   ⟨true, { up .stare [] with img.loads := [{ phase := 1, purpose := 1 }] }, { phase := 1, purpose := 1 }, by decide +kernel⟩,
   ⟨{ up .stare [] with img.loads := [{ phase := 1, purpose := 1 }] }, { phase := 1, purpose := 1 }, by decide +kernel⟩,
   ⟨0, { up .stare [] with img.loads := [{ phase := 1, purpose := 1, n := 1, file := signedFile }], bring.fw := { imageKeys := [imageKey] } },
    { phase := 1, purpose := 1, n := 1, file := signedFile }, by decide +kernel, by decide +kernel, by decide +kernel, by decide +kernel,
    by decide +kernel, by decide +kernel, by decide +kernel,
    lastChecks_id _ _ (by decide +kernel) (by decide +kernel) (by decide +kernel) (by decide +kernel) (by decide +kernel) (by decide +kernel)⟩,
   ⟨{ up .stare [] with img.loads := [({ phase := 2, src := 1 })] }, { phase := 2, src := 1 }, by decide +kernel⟩,
   ⟨0, { up .load [] with img.loads := [({ phase := 3, file := goodFile })] }, { phase := 3, file := goodFile }, by decide +kernel⟩,
   ⟨0, { up .load [] with img.loads := [{ phase := 3 }] }, { phase := 3 }, by decide +kernel⟩,
   ⟨{ st [] with img.loads := [({ phase := 4, purpose := 2, src := 4, slot := 1 })] }, { phase := 4, purpose := 2, src := 4, slot := 1 },
    by decide +kernel⟩,
   ⟨{ st [] with img.loads := [({ phase := 4, purpose := 2 })] }, { phase := 4, purpose := 2 }, by decide +kernel⟩⟩

theorem witness_StartUp :
    (∃ (n : Nat) (s : State), s.pwr.unit = false ∧ ((s.pwr.ac = true ∧ s.pwr.acAt + 50 * msec ≤ (s.at n).wall) ∨ (s.pwr.dc = true ∧ s.pwr.dcAt + 50 *
      msec ≤ (s.at n).wall))) ∧
    (∃ (s : State), s.pwr.unit = true ∧ s.sys.stages = []) ∧
    (∃ (fw : FwDesc) (s : State), s.sys.stages.contains 2 = true ∧ s.sys.stages.contains 3 = false ∧ s.sys.recovery = false ∧ s.arbEpoch ≤ fw.arb) ∧
    (∃ (acc : Bool) (fw : FwDesc) (s : State), s.sys.stages.contains 2 = true ∧ s.sys.stages.contains 3 = false ∧ s.sys.recovery = false ∧ s.get
      NVS_STATUS.FW_FALLBACK = 0 ∧ (acc = false ∨ fw.arb < s.arbEpoch) ∧ s.held < 62) ∧
    (∃ (acc : Bool) (fw : FwDesc) (s : State), s.sys.stages.contains 2 = true ∧ s.sys.stages.contains 3 = false ∧ s.sys.recovery = false ∧ s.get
      NVS_STATUS.FW_FALLBACK = 1 ∧ (acc = false ∨ fw.arb < s.arbEpoch)) ∧
    (∃ (s : State), s.sys.stages.contains 3 = true ∧ s.sys.stages.contains 5 = false ∧ (s.pfw = false ∨ openIntents s.nv.journal s.nv.retired = [])) ∧
    (∃ (s : State), s.sys.stages.contains 5 = true ∧ s.sys.stages.contains 6 = false) ∧
    (∃ (s : State), s.sys.stages.contains 6 = true ∧ s.sys.stages.contains 8 = false) ∧
    (∃ (s : State), s.sys.stages.contains 7 = true ∧ s.sys.stages.contains 8 = true ∧ s.sys.up = false) ∧
    (∃ (n : Nat) (s : State), s.bring.settleFrom.isSome = true ∧ s.bring.checkAt ≤ (s.at n).now ∧ (s.at n).settled = true) ∧
    (∃ (n : Nat) (s : State), s.bring.settleFrom.isSome = true ∧ s.bring.checkAt ≤ (s.at n).now ∧ (s.at n).settled = false) ∧
    (∃ (n t0 : Nat) (s : State), s.bring.settleFrom = some t0 ∧ t0 + 300 * sec ≤ (s.at n).now ∧ s.isActive 0x0405 noInst = false ∧ s.held < 62) :=
  ⟨⟨8000000, { st [] with pwr.unit := false, pwr.ac := true }, by decide +kernel⟩,
   ⟨st [], by decide +kernel⟩,
   ⟨{}, { st [] with sys.stages := [1,2] }, by decide +kernel⟩,
   ⟨false, {}, { st [] with sys.stages := [1,2] }, by decide +kernel⟩,
   ⟨false, {}, { st [(NVS_STATUS.FW_FALLBACK,1)] with sys.stages := [1, 2] }, by decide +kernel⟩,
   ⟨{ st [] with sys.stages := [1,2,3] }, by decide +kernel⟩,
   ⟨{ st [] with sys.stages := [1, 2, 3, 5] }, by decide +kernel⟩,
   ⟨{ st [] with sys.stages := [1, 2, 3, 5, 6, 7] }, by decide +kernel⟩,
   ⟨{ st [] with sys.stages := [1,2,3,5,6,7,8] }, by decide +kernel⟩,
   ⟨20*sec, { st [] with bring.settleFrom := some 0 }, by decide +kernel⟩,
   ⟨20*sec, { st [] with bring.settleFrom := some 0, bring.biasMask := 1, bring.checkAt := 20 * sec }, by decide +kernel⟩,
   ⟨300*sec, 0, { st [] with bring.settleFrom := some 0 }, by decide +kernel⟩⟩

theorem witness_InputEvents :
    (∃ (s : State), s.get PWR_STATUS.SOURCE = 1 ∧ s.pwr.dc = true) ∧
    (∃ (s : State), s.get PWR_STATUS.SOURCE = 1 ∧ s.pwr.dc = false) ∧
    (∃ (s : State), s.get PWR_STATUS.SOURCE ≠ 1) ∧
    (∃ (s : State), s.get PWR_STATUS.SOURCE = 2 ∧ s.pwr.ac = true) ∧
    (∃ (s : State), s.get PWR_STATUS.SOURCE = 2 ∧ s.pwr.ac = false) ∧
    (∃ (s : State), s.get PWR_STATUS.SOURCE ≠ 2) ∧
    (∃ (s : State), s.get PWR_STATUS.SOURCE = 0) ∧
    (∃ (s : State), s.get PWR_STATUS.SOURCE ≠ 0) ∧
    (∃ (n : Nat) (s : State), s.pwr.ac = true ∧ s.get PWR_STATUS.SOURCE = 2 ∧ s.pwr.acAt + sec ≤ (s.at n).wall) ∧
    (∃ (v : Nat) (s : State), s.pwr.ac = true ∧ 2770 < v ∧ v ≤ 3050) :=
  ⟨⟨{ st [(PWR_STATUS.SOURCE,1)] with pwr.dc := true, pwr.acUsed := true }, by decide +kernel⟩,
   ⟨st [(PWR_STATUS.SOURCE,1)], by decide +kernel⟩,
   ⟨st [(PWR_STATUS.SOURCE,0)], by decide +kernel⟩,
   ⟨{ st [(PWR_STATUS.SOURCE,2)] with pwr.ac := true }, by decide +kernel⟩,
   ⟨st [(PWR_STATUS.SOURCE,2)], by decide +kernel⟩,
   ⟨st [(PWR_STATUS.SOURCE,0)], by decide +kernel⟩,
   ⟨st [(PWR_STATUS.SOURCE,0)], by decide +kernel⟩,
   ⟨st [(PWR_STATUS.SOURCE,1)], by decide +kernel⟩,
   ⟨sec, { st [(PWR_STATUS.SOURCE,2)] with pwr.ac := true }, by decide +kernel⟩,
   ⟨2900, { st [] with pwr.ac := true }, by decide +kernel⟩⟩

theorem witness_PowerFail :
    (∃ (n r : Nat) (s : State), s.get PWR_STATUS.PFW = 0 ∧ s.pwr.lostAt = some r ∧ r + 2 * msec ≤ (s.at n).wall ∧ (s.nvs.burn.toList ++
      s.nvs.burnWait).all (·.slot.isSome) = true) ∧
    (∃ (n r : Nat) (b : BurnS) (s : State), s.get PWR_STATUS.PFW = 0 ∧ s.pwr.lostAt = some r ∧ r + 2 * msec ≤ (s.at n).wall ∧ s.nvs.burn = some b ∧
      b.slot = none ∧ s.nvs.burnWait = [] ∧ s.tmp.waits = []) ∧
    (∃ (n : Nat) (s : State), s.get PWR_STATUS.PFW = 1 ∧ s.get PWR_STATUS.SOURCE ≠ 0 ∧ s.pwr.pfwAt + msec ≤ (s.at n).wall) ∧
    (∃ (n : Nat) (s : State), s.get PWR_STATUS.PFW = 1 ∧ s.get PWR_STATUS.SOURCE ≠ 0 ∧ s.pwr.pfwAt + msec ≤ (s.at n).wall ∧ s.nvs.eraseWait = [] ∧
      s.nvs.burnWait = [] ∧ s.nvs.driveWait = [] ∧ s.pwr.deferred = false ∧ s.gov.vTo = none ∧ s.alm.unheld = []) ∧
    (∃ (n r : Nat) (s : State), s.get PWR_STATUS.PFW = 1 ∧ s.pwr.lostAt = some r ∧ r + 20 * msec ≤ (s.at n).wall ∧ s.pwr.pfwAt + 12 * msec ≤ (s.at
      n).wall) :=
  ⟨⟨2*msec, 0,
    { st [] with pwr.lostAt := some 0, nvs.burn := some { setting := 4, cell := 76, count := 1, session := 1, keyId := 1, request := [1], slot := some 0, intent := true } },
    by decide +kernel⟩,
   ⟨2*msec, 0, { setting := 3, cell := 200, count := 1, session := 7, keyId := 1, request := [0], slot := none, intent := true },
    { st [] with pwr.lostAt := some 0, nvs.burn := some { setting := 3, cell := 200, count := 1, session := 7, keyId := 1, request := [0], slot := none, intent := true } },
    by decide +kernel⟩,
   ⟨2*msec, st [(PWR_STATUS.PFW,1),(PWR_STATUS.SOURCE,1)], by decide +kernel⟩,
   ⟨2*msec, st [(PWR_STATUS.PFW,1),(PWR_STATUS.SOURCE,1)], by decide +kernel⟩,
   ⟨20*msec, 0, { st [(PWR_STATUS.PFW,1)] with pwr.lostAt := some 0 }, by decide +kernel⟩⟩

theorem witness_LadderEvents :
    (∃ (v : Nat) (s : State), s.sys.recovery = false ∧ s.sys.up = true ∧ (s.imaging = true ∨ s.sys.mode = .quarantine) ∧ s.opBusy = false ∧ s.get
      PWR_STATUS.STATE = 0 ∧ s.get PWR_STATUS.MOVING = 0 ∧ s.pwr.stepTo = none ∧ s.pwr.rebuild = none ∧ 0 < PWR_TARGET.STATE.ofWord v ∧
      PWR_TARGET.STATE.ofWord v ≤ 5 ∧ (PWR_TARGET.STATE.ofWord v < 4 ∨ s.get PWR_CTRL.DRAM_HOLD = 1 ∨ (s.get IMG_STATUS.SRC ≠ 4 ∧ s.get IMG_STATUS.SRC
      ≠ 5))) ∧
    (∃ (v k : Nat) (s : State), s.sys.recovery = false ∧ s.get PWR_STATUS.STATE = k ∧ s.pwr.stepTo = none ∧ s.pwr.rebuild = none ∧
      PWR_TARGET.STATE.ofWord v < k ∧ k ≤ 5 ∧ (k < 3 ∨ (s.pfw = false ∧ s.get MON_STATUS.OT_COMP = 0))) ∧
    (∃ (v k : Nat) (s : State), s.sys.recovery = false ∧ s.get PWR_STATUS.STATE = k ∧ s.pwr.stepTo = none ∧ s.pwr.rebuild = none ∧
      PWR_TARGET.STATE.ofWord v < k ∧ 3 ≤ k ∧ k ≤ 5 ∧ s.pfw = true ∧ s.get MON_STATUS.OT_COMP = 0) ∧
    (∃ (n : Nat) (s : State), s.get PWR_STATUS.MOVING = 1 ∧ s.pwr.stepTo = none ∧ s.get PWR_STATUS.STATE = 0 ∧ s.get PWR_TARGET.STATE ≠ 0 ∧ s.sys.run
      = false ∧ s.sys.runAt = none ∧ s.get CAL_STATUS.CYCLE = 0 ∧ s.cal.update = false ∧ ((s.at n).drainedNow = true ∨ s.pwr.runEnd.any (fun r =>
      decide (r + msec * s.get PWR_DRAIN_LIMIT.MS ≤ (s.at n).now)) = true)) ∧
    (∃ (k : Nat) (s : State), s.pwr.stepTo = some k ∧ k ≤ 5 ∧ s.get PWR_STATUS.STATE ≠ 5 ∧ (s.get PWR_STATUS.STATE = k ∨ (s.get PWR_STATUS.STATE < k ∧
      (k ≠ 4 ∨ s.nvs.drive = none)) ∨ (k < s.get PWR_STATUS.STATE ∧ s.pwr.dramLost = false ∧ (2 ≤ k ∨ s.get MON_STATUS.CALIBRATING = 0)))) ∧
    (∃ (n a : Nat) (s : State), s.get PWR_STATUS.STATE = 5 ∧ s.pwr.stepTo = some 4 ∧ (s.at n).advanceOk a = true ∧ a < 2 ^ 64 ∧ s.pwr.dramLost =
      false) ∧
    (∃ (n a : Nat) (s : State), s.get PWR_STATUS.STATE = 5 ∧ s.pwr.stepTo = some 4 ∧ (s.at n).advanceOk a = true ∧ a < 2 ^ 64 ∧ s.pwr.dramLost =
      false) ∧
    (∃ (i : Nat) (s : State), (i = 0 ∧ s.get PWR_CTRL.WAKE_TRIG0 = 1 ∨ i = 1 ∧ s.get PWR_CTRL.WAKE_TRIG1 = 1) ∧ s.get PWR_STATUS.STATE ≠ 0) :=
  ⟨⟨1, up .stare [], by decide +kernel⟩,
   ⟨0, 1, up .stare [(PWR_STATUS.STATE,1)], by decide +kernel⟩,
   ⟨0, 4, up .stare [(PWR_STATUS.STATE,4),(PWR_STATUS.PFW,1)], by decide +kernel⟩,
   ⟨100000*msec, { up .stare [(PWR_STATUS.MOVING,1),(PWR_TARGET.STATE,1)] with pwr.runEnd := some 0 }, by decide +kernel⟩,
   ⟨1, { up .stare [(PWR_TARGET.STATE,1)] with pwr.stepTo := some 1 }, by decide +kernel⟩,
   ⟨80, 5, { up .stare [(PWR_STATUS.STATE,5)] with pwr.stepTo := some 4 }, by decide +kernel⟩,
   ⟨80, 5, { up .stare [(PWR_STATUS.STATE,5)] with pwr.stepTo := some 4 }, by decide +kernel⟩,
   ⟨0, { up .stare [(PWR_STATUS.STATE,1),(PWR_TARGET.STATE,1),(PWR_CTRL.WAKE_TRIG0,1)] with pwr.stepTo := some 1 }, by decide +kernel⟩⟩

theorem witness_IdcodeReads :
    ∃ (s : State), s.img.vrefT = true :=
  ⟨st [], by decide +kernel⟩

theorem witness_TestPort :
    (∃ (s : State), s.img.vrefT = true) ∧
    (∃ (s : State), s.img.vrefT = true) ∧
    (∃ (s : State), s.img.vrefT = true) ∧
    (∃ (s : State), s.img.vrefT = true) ∧
    (∃ (op : Nat) (s : State), s.img.vrefT = true ∧ op % 256 ∉ [0, 1, 2, 0x20, 0x21]) ∧
    (∃ (s : State), s.img.vrefT = true ∧ s.img.extest = true) ∧
    (∃ (frame : List Nat) (s : State), s.img.vrefT = true ∧ s.sys.stages.contains 3 = true ∧ s.get PWR_STATUS.STATE < 4 ∧ s.img.instr = 0x20 ∧
      frame.length = 1024 ∧ leVal (frame.take 4) = 0 ∧ (frameChecks (s.img.tpFile.store 0 frame) none 0).1 = 0 ∧ hdrFrames (s.img.tpFile.store 0
      frame) ≠ 1) ∧
    (∃ (frame : List Nat) (s : State) (l : LoadS), s.img.vrefT = true ∧ s.sys.stages.contains 3 = true ∧ s.get PWR_STATUS.STATE < 4 ∧ s.img.instr =
      0x20 ∧ frame.length = 1024 ∧ leVal (frame.take 4) ≠ 0 ∧ s.loadOf 9 = some l ∧ l.purpose = 4 ∧ l.phase = 1 ∧ l.len = none ∧ l.n + 1 < 2 ^ 17 ∧
      (frameChecks (s.img.tpFile.store (1024 * l.n) frame) none l.n).1 = 0 ∧ l.n + 1 ≠ hdrFrames (s.img.tpFile.store (1024 * l.n) frame)) :=
  ⟨⟨st [], by decide +kernel⟩,
   ⟨st [], by decide +kernel⟩,
   ⟨st [], by decide +kernel⟩,
   ⟨st [], by decide +kernel⟩,
   ⟨5, st [], by decide +kernel⟩,
   ⟨{ st [] with img.extest := true }, by decide +kernel⟩,
   ⟨frameZero, { st [] with sys.stages := [1, 2, 3], img.instr := 0x20 }, by decide +kernel⟩,
   ⟨frameOne, { st [] with sys.stages := [1,2,3], img.instr := 0x20, img.loads := [({ slot := 9, purpose := 4, phase := 1, src := 5, n := 1 })] },
    { slot := 9, purpose := 4, phase := 1, src := 5, n := 1 }, by decide +kernel⟩⟩

theorem witness_ManagementPort :
    (∃ (ip : Nat) (s : State), s.dhcpOn = true ∧ ip < 2 ^ 32) ∧
    (∃ (n r : Nat) (s : State), s.dhcpOn = true ∧ s.tmp.lease.all (fun l => decide (l.2.2 + l.2.1 * sec ≤ (s.at n).now)) = true ∧ s.tmp.linkAt = some
      r ∧ r + 30 * sec ≤ (s.at n).now) ∧
    (∃ (n ip k a : Nat) (s : State), s.dhcpOn = true ∧ s.tmp.lease = some (ip, k, a) ∧ (s.at n).now < a + k * sec ∧ 2 * a + k * sec ≤ 2 * (s.at n).now
      ∧ s.tmp.asked.all (fun q => decide (q + 60 * sec ≤ (s.at n).now)) = true) ∧
    (∃ (n no : Nat) (e : Sess) (s : State), s.tmp.sessions.find? (·.no == no) = some e ∧ e.last + sec * s.get ENG_SESSION_TIMEOUT.S ≤ (s.at n).now) :=
  ⟨⟨5, { st [] with tmp.bootCfg := [(0x40,1)] }, by decide +kernel⟩,
   ⟨30*sec, 0, { st [] with tmp.bootCfg := [(0x40,1),(0x44,9)], tmp.linkAt := some 0 }, by decide +kernel⟩,
   ⟨100*sec, 5, 150, 0, { st [] with tmp.bootCfg := [(0x40,1),(0x44,9)], tmp.linkAt := some 0, tmp.lease := some (5, 150, 0) }, by decide +kernel⟩,
   ⟨100000*sec, 7, oper, { st [] with tmp.sessions := [oper] }, by decide +kernel⟩⟩

theorem witness_RunCommandAccepted :
    (∃ (n : Nat) (s : State), s.sys.recovery = false ∧ (s.at n).runRefuse = none ∧ s.sys.run = false) ∧
    (∃ (s : State), s.takes 0x00014 = true ∧ s.sys.run = true ∧ s.sys.changing = false) ∧
    (∃ (n r : Nat) (s : State), s.takes 0x00014 = true ∧ (s.sys.run = false ∨ s.sys.changing = true) ∧ (s.at n).runRefuse = some r) :=
  ⟨⟨0, up .stare [(GOV_REF_STATUS.DLL_LOCK,1)], by decide +kernel⟩,
   ⟨{ up .stare [] with sys.run := true }, by decide +kernel⟩,
   ⟨0, 0x03, up .service [], by decide +kernel⟩⟩

theorem witness_RunBeginsAndEnds :
    (∃ (n r : Nat) (s : State), s.lineImage = true ∧ s.sys.runAt = some r ∧ r + 50 * us ≤ (s.at n).now ∧ s.gov.vMoving = false) ∧
    (∃ (n r : Nat) (b : NextB) (s : State), s.lineImage = false ∧ s.sys.mode ≠ .characterise ∧ s.sys.run = false ∧ s.sys.runAt = some r ∧
      s.gov.vMoving = false ∧ s.sys.stopAt = none ∧ (s.at n).nextB = some b ∧ b.at_ ≤ (s.at n).now) ∧
    (∃ (s : State), s.takes 0x00014 = true ∧ s.sys.up = true ∧ s.sys.changing = false ∧ s.imaging = true ∧ s.sys.run = true) ∧
    (∃ (s : State), s.takes 0x00014 = true ∧ s.sys.up = true ∧ s.sys.changing = false ∧ s.imaging = true ∧ s.sys.run = false) ∧
    (∃ (n c : Nat) (s : State), s.lineImage = true ∧ s.sys.run = true ∧ s.sys.stopAt = some c ∧ (s.scanning = false ∨ s.swp.reqs.any (fun q => decide
      (tickAfter q.2.1 ≤ (s.at n).now)) = true ∨ c + 16 * s.get SWP_ACT_NOMPER.NOMPER ≤ (s.at n).now)) ∧
    (∃ (n : Nat) (s : State), s.lineImage = false ∧ (s.at n).stopDue = true) :=
  ⟨⟨50*us, 0, { up .sweep [] with img.active := some { file := lineFile }, sys.runAt := some 0 }, by decide +kernel⟩,
   ⟨50*us, 0, { at_ := 8000 }, { up .stare [] with sys.runAt := some 0 }, by decide +kernel⟩,
   ⟨{ up .stare [] with sys.run := true }, by decide +kernel⟩,
   ⟨up .stare [], by decide +kernel⟩,
   ⟨0, 0, { up .sweep [] with sys.run := true, img.active := some { file := lineFile }, sys.stopAt := some 0 }, by decide +kernel⟩,
   ⟨1000000, { running .stare [] with sys.stopAt := some 0 }, by decide +kernel⟩⟩

theorem witness_FrameLifecycle :
    (∃ (n : Nat) (b : NextB) (s : State), s.lineImage = false ∧ s.sys.mode ≠ .characterise ∧ s.sys.run = true ∧ s.sys.runAt = none ∧ s.sys.stopAt =
      none ∧ (s.at n).nextB = some b ∧ b.at_ ≤ (s.at n).now) ∧
    (∃ (n : Nat) (r : FrameRec) (s : State), s.fpl.frames.find? (·.lastSample.isNone) = some r ∧ r.readStart = none ∧ r.boundary + r.int + (progOf
      s.image r.prog).readOff ≤ (s.at n).now) ∧
    (∃ (n a : Nat) (r : FrameRec) (s : State), s.fpl.frames.find? (·.lastSample.isNone) = some r ∧ r.readStart = some a ∧ a + rLen s.image r.prog ≤
      (s.at n).now) ∧
    (∃ (n b : Nat) (v : Settings) (s : State), s.fpl.lastB = some b ∧ s.fpl.lastSet = some v ∧ s.fpl.idle = false ∧ s.get FPL_PG_STATUS.EXP_RUN = 1 ∧
      b + eLen s.image v.prog ≤ (s.at n).now) ∧
    (∃ (n p : Nat) (s : State), s.fpl.idle = true ∧ idleProg s.image = some p ∧ s.fpl.idleAt + eLen s.image p ≤ (s.at n).now) ∧
    (∃ (a : Nat) (r : FrameRec) (l : List FrameRec) (s : State), s.swp.outq = [] ∧ s.fpl.frames = r :: l ∧ r.lastSample = some a ∧ r.line = false ∧
      r.drop = .kept) :=
  ⟨⟨1000000, { at_ := 800000 },
    { up .stare [] with sys.run := true, img.active := some { file := goodFile }, fpl.lastB := some 0, fpl.lastSet := some { prog := 0, int := 0, period := 50000, gains := 0, bias := [], minper := 0, nomper := 0 } },
    by decide +kernel⟩,
   ⟨5000, { no := 1, boundary := 100 }, { up .stare [] with sys.run := true, fpl.frames := [({ no := 1, boundary := 100 })] }, by decide +kernel⟩,
   ⟨5000000, 100, { no := 1, boundary := 100, readStart := some 100 },
    { up .stare [] with sys.run := true, img.active := some { file := goodFile }, fpl.frames := [({ no := 1, boundary := 100, readStart := some 100 })] },
    by decide +kernel⟩,
   ⟨5000, 100, { prog := 0, int := 0, period := 50000, gains := 0, bias := [], minper := 0, nomper := 0 },
    { up .stare [(FPL_PG_STATUS.EXP_RUN,1)] with sys.run := true, img.active := some { file := goodFile }, fpl.lastB := some 100, fpl.lastSet := some ({ prog := 0, int := 0, period := 50000, gains := 0, bias := [], minper := 0, nomper := 0 }) },
    by decide +kernel⟩,
   ⟨5000000, 0, { up .stare [] with fpl.idle := true, fpl.idleAt := 5, img.active := some { file := idleFile } }, by decide +kernel⟩,
   ⟨100, { no := 1, boundary := 100, readStart := some 100, lastSample := some 100 }, [],
    { up .stare [] with sys.run := true, img.active := some { file := goodFile }, fpl.frames := [({ no := 1, boundary := 100, readStart := some 100, lastSample := some 100 })] },
    by decide +kernel⟩⟩

theorem witness_TierChanges :
    (∃ (n g b : Nat) (s : State), (s.at n).dueBoundary = some b ∧ s.gov.boundaries ≠ 0 ∧ s.gov.tierNext = some g ∧ g < 4 ∧ g ≠ s.get GOV_STATE.TIER) ∧
    (∃ (r : FrameRec) (s : State), s.fpl.frames.find? (fun r => r.readStart.isSome && r.lastSample.isNone && r.drop == .kept) = some r) :=
  ⟨⟨1000000, 1, 800000, { running .stare [] with gov.boundaries := 3, gov.tierNext := some 1 }, by decide +kernel⟩,
   ⟨{ no := 1, readStart := some 5 }, { up .stare [] with sys.run := true, fpl.frames := [({ no := 1, readStart := some 5 })] }, by decide +kernel⟩⟩

theorem witness_EpochsCommitAndApply :
    (∃ (n v : Nat) (s : State), v % 2 ^ 16 ≠ s.get FPL_EPOCH_STATE.COMMITTED ∧ (s.at n).epochRefuse (v % 2 ^ 16) = 0 ∧ s.fpl.pending = none ∧ s.takes
      0x40000 = true) ∧
    (∃ (v : Nat) (s : State), s.takes 0x40000 = true ∧ v % 2 ^ 16 = s.get FPL_EPOCH_STATE.COMMITTED) ∧
    (∃ (n v : Nat) (s : State), s.takes 0x40000 = true ∧ v % 2 ^ 16 ≠ s.get FPL_EPOCH_STATE.COMMITTED ∧ (s.at n).epochRefuse (v % 2 ^ 16) ≠ 0) ∧
    (∃ (s : State), (s.sys.run = true ∨ s.fpl.pending = none)) ∧
    (∃ (v : Settings) (s : State), s.sys.run = false ∧ s.fpl.pending = some v) :=
  ⟨⟨0, 1, { up .stare [(FPL_SH_PERIOD.PERIOD,50000)] with img.active := some { file := goodFile } }, by decide +kernel⟩,
   ⟨0, { up .stare [(FPL_SH_PERIOD.PERIOD,50000)] with img.active := some { file := goodFile } }, by decide +kernel⟩,
   ⟨0, 5, { up .stare [(FPL_SH_PERIOD.PERIOD,50000)] with img.active := some { file := goodFile } }, by decide +kernel⟩,
   ⟨up .stare [], by decide +kernel⟩,
   ⟨{ prog := 0, int := 0, period := 50000, gains := 0, bias := [], minper := 0, nomper := 0 },
    { up .stare [] with fpl.pending := some ({ prog := 0, int := 0, period := 50000, gains := 0, bias := [], minper := 0, nomper := 0 }) },
    by decide +kernel⟩⟩

theorem witness_PendingSetSuperseded :
    ∃ (n v : Nat) (o : Settings) (s : State), v % 2 ^ 16 ≠ s.get FPL_EPOCH_STATE.COMMITTED ∧ (s.at n).epochRefuse (v % 2 ^ 16) = 0 ∧ s.fpl.pending =
      some o ∧ s.takes 0x40000 = true :=
  ⟨0, 1, { prog := 0, int := 0, period := 50000, gains := 0, bias := [], minper := 0, nomper := 0 },
   { up .stare [(FPL_SH_PERIOD.PERIOD,50000)] with img.active := some { file := goodFile }, fpl.pending := some ({ prog := 0, int := 0, period := 50000, gains := 0, bias := [], minper := 0, nomper := 0 }) },
   by decide +kernel⟩

theorem witness_ShutterCycle :
    (∃ (n o : Nat) (s : State), s.cal.openAt = some o ∧ s.get CAL_SHUT_CTRL.AUTO_EN = 1 ∧ s.sys.mode = .stare ∧ s.sys.run = true ∧ s.get
      CAL_STATUS.CYCLE = 0 ∧ s.cal.due = none ∧ s.cal.blocked = false ∧ o + s.get CAL_SHUT_PERIOD.S * sec ≤ (s.at n).now) ∧
    (∃ (n b k : Nat) (s : State), (s.at n).dueBoundary = some b ∧ s.sys.stopAt = none ∧ s.cycleMay = true ∧ s.cal.due = some k ∧ s.get
      CAL_STATUS.CYCLE = 0) ∧
    (∃ (n b : Nat) (s : State), (s.at n).dueBoundary = some b ∧ s.sys.stopAt = none ∧ s.cycleMay = true ∧ s.get CAL_STATUS.CYCLE = 6 ∧ s.forcedDue =
      false) ∧
    (∃ (n b : Nat) (s : State), (s.at n).dueBoundary = some b ∧ s.sys.stopAt = none ∧ s.cycleMay = true ∧ s.get CAL_STATUS.CYCLE = 6 ∧ s.forcedDue =
      true) ∧
    (∃ (n : Nat) (s : State), (s.cycleMay = false ∨ (s.at n).dueBoundary = none)) ∧
    (∃ (s : State), s.get CAL_STATUS.CYCLE = 1) ∧
    (∃ (n : Nat) (s : State), s.get CAL_STATUS.CYCLE = 2 ∧ s.cal.stepAt + 20 * msec ≤ (s.at n).now) ∧
    (∃ (n : Nat) (s : State), s.get CAL_STATUS.CYCLE = 3 ∧ s.cal.avg.taken = s.cal.avg.want ∧ s.cal.stepAt ≤ (s.at n).now) ∧
    (∃ (s : State), (s.get CAL_STATUS.SHUT_STATE = 3 ∨ s.get CAL_STATUS.SHUT_STATE = 4)) ∧
    (∃ (n : Nat) (s : State), s.get CAL_STATUS.CYCLE = 5 ∧ s.cal.stepAt + 20 * msec ≤ (s.at n).now ∧ (s.cal.part ≠ 1 ∨ s.cal.ambientSet = [])) ∧
    (∃ (n : Nat) (s : State), s.get CAL_STATUS.CYCLE = 5 ∧ s.cal.stepAt + 20 * msec ≤ (s.at n).now ∧ s.cal.part = 1 ∧ s.cal.ambientSet ≠ [] ∧ 16 ∉
      s.mon.fail ∧ 17 ∉ s.mon.fail) ∧
    (∃ (n : Nat) (s : State), s.get CAL_STATUS.CYCLE = 5 ∧ s.cal.stepAt + 20 * msec ≤ (s.at n).now ∧ s.cal.part = 1 ∧ s.cal.ambientSet ≠ [] ∧ (16 ∈
      s.mon.fail ∨ 17 ∈ s.mon.fail)) :=
  ⟨⟨600*sec, 0, { up .stare [(CAL_SHUT_CTRL.AUTO_EN,1),(CAL_SHUT_PERIOD.S,300)] with sys.run := true, cal.openAt := some 0 }, by decide +kernel⟩,
   ⟨1000000, 800000, 1, { running .stare [] with cal.due := some 1 }, by decide +kernel⟩,
   ⟨1000000, 800000, { running .stare [(CAL_STATUS.CYCLE,6)] with cal.due := some 1, cal.hot := true }, by decide +kernel⟩,
   ⟨1000000, 800000, { running .stare [(CAL_STATUS.CYCLE,6)] with cal.due := some 0, cal.hot := true }, by decide +kernel⟩,
   ⟨0, st [], by decide +kernel⟩,
   ⟨{ up .stare [(CAL_STATUS.CYCLE,1)] with sys.run := true }, by decide +kernel⟩,
   ⟨20*msec, { up .stare [(CAL_STATUS.CYCLE,2)] with sys.run := true }, by decide +kernel⟩,
   ⟨0, { up .stare [(CAL_STATUS.CYCLE,3)] with sys.run := true, cal.avg.want := 2, cal.avg.taken := 2 }, by decide +kernel⟩,
   ⟨{ up .stare [(CAL_STATUS.CYCLE,4),(CAL_STATUS.SHUT_STATE,3)] with sys.run := true }, by decide +kernel⟩,
   ⟨20*msec, up .stare [(CAL_STATUS.CYCLE,5)], by decide +kernel⟩,
   ⟨20*msec, { up .stare [(CAL_STATUS.CYCLE,5)] with sys.run := true, cal.part := 1, cal.ambientSet := [(0, {})] }, by decide +kernel⟩,
   ⟨20*msec, { up .stare [(CAL_STATUS.CYCLE,5)] with sys.run := true, cal.part := 1, cal.ambientSet := [(0, {})], mon.fail := [16] },
    by decide +kernel⟩⟩

theorem witness_PaddleAndHostCycles :
    (∃ (n : Nat) (s : State), s.get CAL_STATUS.CYCLE = 1 ∧ s.cal.stepAt + 300 * msec ≤ (s.at n).now) ∧
    (∃ (n : Nat) (s : State), s.get CAL_STATUS.SHUT_STATE = 3 ∧ s.cal.stepAt + 300 * msec ≤ (s.at n).now) ∧
    (∃ (n : Nat) (s : State), s.get CAL_STATUS.SHUT_STATE = 4 ∧ s.cal.stepAt + sec ≤ (s.at n).now) ∧
    (∃ (n r : Nat) (s : State), s.cal.retryAt = some r ∧ r ≤ (s.at n).now ∧ s.cal.blocked = false ∧ s.sys.run = true ∧ s.sys.mode = .stare) ∧
    (∃ (n r : Nat) (s : State), s.cal.retryAt = some r ∧ r ≤ (s.at n).now ∧ (s.cal.blocked = true ∨ s.sys.run = false ∨ s.sys.mode ≠ .stare)) ∧
    (∃ (s : State), s.takes 0x7001C = true ∧ s.sys.mode ≠ .sweep) ∧
    (∃ (s : State), s.takes 0x7001C = true ∧ s.sys.mode = .stare ∧ s.sys.run = true ∧ s.get CAL_STATUS.CYCLE = 0 ∧ s.forcedDue = false) ∧
    (∃ (s : State), s.takes 0x7001C = true ∧ s.sys.mode ≠ .sweep ∧ (s.sys.mode ≠ .stare ∨ s.sys.run = false ∨ s.get CAL_STATUS.CYCLE ≠ 0 ∨ s.forcedDue
      = true)) ∧
    (∃ (s : State), s.takes 0x7001C = true ∧ s.sys.mode = .sweep) ∧
    (∃ (n : Nat) (s : State), s.get CAL_STATUS.CYCLE = 6 ∧ s.cal.part = 2 ∧ (s.at n).now ≤ s.cal.stepAt + 120 * sec ∧ (s.at n).paddleSteady = true) ∧
    (∃ (n : Nat) (s : State), s.get CAL_STATUS.CYCLE = 6 ∧ s.cal.part = 2 ∧ s.cal.hot = false ∧ s.cal.stepAt + 120 * sec ≤ (s.at n).now) :=
  ⟨⟨300*msec, { up .stare [(CAL_STATUS.CYCLE,1)] with sys.run := true }, by decide +kernel⟩,
   ⟨300*msec, { up .stare [(CAL_STATUS.SHUT_STATE,3)] with sys.run := true }, by decide +kernel⟩,
   ⟨sec, { up .stare [(CAL_STATUS.SHUT_STATE,4)] with sys.run := true }, by decide +kernel⟩,
   ⟨0, 0, { up .stare [] with sys.run := true, cal.retryAt := some 0 }, by decide +kernel⟩,
   ⟨0, 0, { up .stare [] with cal.retryAt := some 0 }, by decide +kernel⟩,
   ⟨{ up .stare [] with sys.run := true }, by decide +kernel⟩,
   ⟨{ up .stare [] with sys.run := true, cal.retryAt := some 0 }, by decide +kernel⟩,
   ⟨up .stare [], by decide +kernel⟩,
   ⟨{ up .sweep [] with sys.run := true }, by decide +kernel⟩,
   ⟨100,
    { up .stare [(CAL_STATUS.CYCLE,6),(CAL_PADDLE_T.SHA,19200),(CAL_PADDLE_T.SHB,19200)] with sys.run := true, cal.part := 2, cal.heatTarget := 19200, bring.temps := [(0, 16, 19200), (0, 17, 19200)] },
    by decide +kernel⟩,
   ⟨120*sec, { up .stare [(CAL_STATUS.CYCLE,6)] with sys.run := true, cal.part := 2 }, by decide +kernel⟩⟩

theorem witness_GenerationUpdates :
    (∃ (s : State), s.cal.update = true ∧ s.cal.avg.done = s.cal.avg.want ∧ 0 < s.cal.avg.want ∧ s.cal.part ≠ 3 ∧ cycleOk s s.cal.avg = false) ∧
    (∃ (s : State), s.cal.update = true ∧ s.cal.avg.done = s.cal.avg.want ∧ 0 < s.cal.avg.want ∧ s.cal.part ≠ 3 ∧ cycleOk s s.cal.avg = true) ∧
    (∃ (s : State), s.cal.update = true ∧ s.cal.avg.done = s.cal.avg.want ∧ 0 < s.cal.avg.want ∧ s.cal.part = 3) ∧
    (∃ (k order start : Nat) (s : State), s.cal.refit = some (k, order, start) ∧ k < 8) ∧
    (∃ (n : Nat) (s : State), (s.at n).mayActNow = true ∧ s.cal.force.no ≠ s.cal.newest.no ∧ (∀ e ∈ s.cal.newest.tiles, e.1 < 8)) ∧
    (∃ (n : Nat) (s : State), ((s.at n).mayActNow = false ∨ s.cal.force.no = s.cal.newest.no)) :=
  ⟨⟨{ up .stare [] with sys.run := true, cal.update := true, cal.avg.want := 2, cal.avg.done := 2, mon.fail := [16, 17] }, by decide +kernel⟩,
   ⟨{ up .stare [] with sys.run := true, cal.update := true, cal.avg.want := 2, cal.avg.done := 2 }, by decide +kernel⟩,
   ⟨{ up .stare [] with cal.update := true, cal.avg.want := 2, cal.avg.done := 2, cal.part := 3 }, by decide +kernel⟩,
   ⟨1, 2, 0, { up .stare [] with sys.run := true, cal.refit := some (1, 2, 0) }, by decide +kernel⟩,
   ⟨0, { up .stare [] with cal.newest := { no := 1, source := 1, tiles := [(0, {})] } }, by decide +kernel⟩,
   ⟨0, { up .stare [] with sys.run := true, cal.newest := { no := 1, source := 1, tiles := [(0, {})] } }, by decide +kernel⟩⟩

theorem witness_Characterisation :
    (∃ (c : CharS) (s : State), s.takes 0x70304 = true ∧ s.cal.char = some c ∧ c.slot < 8 ∧ s.get CAL_CHAR_STATE.STATE = 1) ∧
    (∃ (s : State), s.takes 0x70304 = true ∧ (s.cal.char = none ∨ s.get CAL_CHAR_STATE.STATE ≠ 1)) ∧
    (∃ (n : Nat) (c : CharS) (s : State), s.cal.char = some c ∧ c.slot < 8 ∧ s.get CAL_CHAR_STATE.STATE = 2 ∧ (s.at n).tilesSteady (s.at n).now c.mask
      = true) ∧
    (∃ (c : CharS) (s : State), s.cal.char = some c ∧ c.slot < 8 ∧ s.get CAL_CHAR_STATE.STATE = 3 ∧ s.cal.avg.done = s.cal.avg.want ∧ 0 <
      s.cal.avg.want ∧ ((tilesOf c.mask).any fun k => decide (128 < spread (perTile k s.cal.avg.temps) * 10)) = false ∧ c.points.length < 15) ∧
    (∃ (c : CharS) (s : State), s.cal.char = some c ∧ c.slot < 8 ∧ s.get CAL_CHAR_STATE.STATE = 3 ∧ s.cal.avg.done = s.cal.avg.want ∧ 0 <
      s.cal.avg.want ∧ ((tilesOf c.mask).any fun k => decide (128 < spread (perTile k s.cal.avg.temps) * 10)) = true) ∧
    (∃ (n : Nat) (c : CharS) (s : State), s.cal.char = some c ∧ c.slot < 8 ∧ (s.get CAL_CHAR_STATE.STATE = 2 ∨ s.get CAL_CHAR_STATE.STATE = 3) ∧
      c.goAt + c.timeout ≤ (s.at n).now) ∧
    (∃ (c : CharS) (s : State), s.takes 0x70304 = true ∧ s.cal.char = some c ∧ c.slot < 8 ∧ 1 ≤ s.get CAL_CHAR_STATE.STATE ∧ s.get
      CAL_CHAR_STATE.STATE ≤ 3 ∧ spread (c.points.map (·.tbb)) < 640) ∧
    (∃ (c : CharS) (s : State), s.takes 0x70304 = true ∧ s.cal.char = some c ∧ c.slot < 8 ∧ 1 ≤ s.get CAL_CHAR_STATE.STATE ∧ s.get
      CAL_CHAR_STATE.STATE ≤ 3 ∧ 640 ≤ spread (c.points.map (·.tbb)) ∧ (c.drift = false ∨ (6 ≤ c.points.length ∧ ((tilesOf c.mask).all fun k => decide
      (128 ≤ spread (c.points.filterMap fun p => (p.tiles.find? (·.1 == k)).map (·.2.1)))) = true)) ∧ ((c.points.flatMap fun p => p.tiles.map fun e =>
      (e.1, e.2.2)).all fun g => (c.points.flatMap fun p => p.tiles.map fun e => (e.1, e.2.2)).all fun h => g.1 != h.1 || g.2 == h.2) = true) ∧
    (∃ (n : Nat) (c : CharS) (s : State), s.cal.char = some c ∧ c.slot < 8 ∧ s.get CAL_CHAR_STATE.STATE = 4 ∧ (((tilesOf c.mask).map ((s.at
      n).charTile c)).any (·.ok)) = false) ∧
    (∃ (n : Nat) (c : CharS) (s : State), s.cal.char = some c ∧ c.slot < 8 ∧ s.get CAL_CHAR_STATE.STATE = 4 ∧ (((tilesOf c.mask).map ((s.at
      n).charTile c)).any (·.ok)) = true) ∧
    (∃ (k seq slot : Nat) (s : State), s.cal.bankJob = some (k, seq) ∧ s.bankSlot = some slot ∧ s.writeIdle slot = true ∧ (s.opx slot).commit = false
      ∧ slot < s.ops.slots.length) ∧
    (∃ (k seq slot : Nat) (s : State), s.cal.bankJob = some (k, seq) ∧ s.bankSlot = some slot ∧ s.writeIdle slot = true ∧ (s.opx slot).commit = false) :=
  ⟨⟨{ mask := 1 }, { up .characterise [(CAL_CHAR_STATE.STATE,1)] with cal.char := some ({ mask := 1 }) }, by decide +kernel⟩,
   ⟨up .characterise [], by decide +kernel⟩,
   ⟨0, { mask := 1 },
    { up .characterise [(CAL_CHAR_STATE.STATE,2)] with cal.char := some { mask := 1 }, bring.temps := [(0, 0, 19200), (0, 1, 19201)] },
    by decide +kernel⟩,
   ⟨{ mask := 1 }, { up .characterise [(CAL_CHAR_STATE.STATE,3)] with cal.char := some ({ mask := 1 }), cal.avg.want := 2, cal.avg.done := 2 },
    by decide +kernel⟩,
   ⟨{ mask := 1 },
    { up .characterise [(CAL_CHAR_STATE.STATE,3)] with cal.char := some { mask := 1 }, cal.avg.want := 2, cal.avg.done := 2, cal.avg.temps := [[(0, 19200)], [(0, 19250)]] },
    by decide +kernel⟩,
   ⟨100, { mask := 1, timeout := 50 }, { up .characterise [(CAL_CHAR_STATE.STATE,2)] with cal.char := some ({ mask := 1, timeout := 50 }) },
    by decide +kernel⟩,
   ⟨{ mask := 1 }, { up .characterise [(CAL_CHAR_STATE.STATE,1)] with cal.char := some { mask := 1 } }, by decide +kernel⟩,
   ⟨{ mask := 1, points := [{ tbb := 0 }, { tbb := 640 }] },
    { up .characterise [(CAL_CHAR_STATE.STATE,1)] with cal.char := some ({ mask := 1, points := [{ tbb := 0 }, { tbb := 640 }] }) },
    by decide +kernel⟩,
   ⟨0, { mask := 1 }, { up .characterise [(CAL_CHAR_STATE.STATE,4)] with cal.char := some ({ mask := 1 }) }, by decide +kernel⟩,
   ⟨0,
    { mask := 1, points := [{ tbb := 12800, tiles := [(0, 19200, 0)], px := [(0, 0, 100, 1)] }, { tbb := 12880, tiles := [(0, 19200, 0)], px := [(0, 0, 200, 1)] }] },
    { up .characterise [(CAL_CHAR_STATE.STATE,4)] with cal.char := some ({ mask := 1, points := [{ tbb := 12800, tiles := [(0, 19200, 0)], px := [(0, 0, 100, 1)] }, { tbb := 12880, tiles := [(0, 19200, 0)], px := [(0, 0, 200, 1)] }] }), cal.base := [(0, { file := radFile })] },
    by decide +kernel⟩,
   ⟨0, 1, 0, { up .stare [(OP_STATUS.STATE 0,2),(OP_CMD.CMD 0,0x701)] with cal.bankJob := some (0, 1) }, by decide +kernel⟩,
   ⟨0, 1, 0, { up .stare [(OP_STATUS.STATE 0,2),(OP_CMD.CMD 0,0x701)] with cal.bankJob := some (0, 1) }, by decide +kernel⟩⟩

theorem witness_InterleaveEstimation :
    (∃ (n fe b : Nat) (s : State), (s.at n).dueBoundary = some b ∧ 2 ^ s.get VFE_ILV_WIN.WIN ≤ (s.window fe).n) ∧
    (∃ (n fe : Nat) (s : State), ((s.at n).dueBoundary = none ∨ (s.window fe).n < 2 ^ s.get VFE_ILV_WIN.WIN)) ∧
    (∃ (fe : Nat) (v : IlvSolve) (s : State), s.vfe.solving.find? (·.fe == fe) = some v ∧ fe < 33) ∧
    (∃ (fe : Nat) (v : IlvSolve) (c : List (Int × Nat)) (e : Int × Option Int × Option Int) (s : State), s.vfe.solving.find? (·.fe == fe) = some v ∧
      fe < 33 ∧ (v.sums.solve v.tier).1 = some c ∧ (v.sums.solve v.tier).2.status = 0 ∧ (ilvEstimates v.sums.fits c).filter ilvPlausible = some e ∧
      s.get VFE_ILV_CTRL.EST_EN = 1 ∧ s.get VFE_ILV_CTRL.FREEZE = 0) ∧
    (∃ (fe : Nat) (v : IlvSolve) (c : List (Int × Nat)) (s : State), s.vfe.solving.find? (·.fe == fe) = some v ∧ fe < 33 ∧ (v.sums.solve v.tier).1 =
      some c ∧ (v.sums.solve v.tier).2.status = 0 ∧ (ilvEstimates v.sums.fits c).filter ilvPlausible = none) ∧
    (∃ (n fe b : Nat) (v : IlvSet) (s : State), (s.at n).dueBoundary = some b ∧ fe < 33 ∧ s.vfe.next.find? (·.1 == fe) = some (fe, v) ∧ s.get
      VFE_ILV_CTRL.EST_EN = 1 ∧ s.get VFE_ILV_CTRL.FREEZE = 0) ∧
    (∃ (n b : Nat) (s : State), (s.at n).dueBoundary = some b ∧ (s.get VFE_ILV_CTRL.EST_EN = 0 ∨ s.get VFE_ILV_CTRL.FREEZE = 1)) ∧
    (∃ (n : Nat) (s : State), (s.at n).dueBoundary = none) ∧
    (∃ (n fe : Nat) (v : IlvSolve) (s : State), s.vfe.solving.find? (fun v => v.fe == fe && !v.late) = some v ∧ v.since + (if v.tier = 0 then 5 else
      10) * msec ≤ (s.at n).now) ∧
    (∃ (n fe : Nat) (s : State), (∀ v ∈ s.vfe.solving, v.fe = fe → v.late = true ∨ (s.at n).now < v.since + 5 * msec)) :=
  ⟨⟨1000000, 0, 800000, { running .stare [(VFE_ILV_WIN.WIN,2)] with vfe.window := [(0, { n := 4 })] }, by decide +kernel⟩,
   ⟨0, 3, { st [(VFE_ILV_WIN.WIN,1)] with vfe.window := [(3, { n := 2 })] }, by decide +kernel⟩,
   ⟨2, { fe := 2, sums := { n := 4, e := 8, ee := 16 }, since := 0, tier := 0 },
    { st [(VFE_ILV_CTRL.EST_EN,1)] with vfe.solving := [{ fe := 2, sums := { n := 4, e := 8, ee := 16 }, since := 0, tier := 0 }] },
    by decide +kernel⟩,
   ⟨2, { fe := 2, sums := { n := 4, e := 8, ee := 16 }, since := 0, tier := 0 }, [(8388608, 4194304)], (2, none, none),
    { st [(VFE_ILV_CTRL.EST_EN,1)] with vfe.solving := [({ fe := 2, sums := { n := 4, e := 8, ee := 16 }, since := 0, tier := 0 })] },
    by decide +kernel⟩,
   ⟨2, { fe := 2, sums := { n := 4, e := 4000000, ee := 4000000000000 }, since := 0, tier := 0 },
    (({ fe := 2, sums := { n := 4, e := 4000000, ee := 4000000000000 }, since := 0, tier := 0 } : IlvSolve).sums.solve 0).1.get!,
    { st [(VFE_ILV_CTRL.EST_EN,1)] with vfe.solving := [{ fe := 2, sums := { n := 4, e := 4000000, ee := 4000000000000 }, since := 0, tier := 0 }] },
    by decide +kernel⟩,
   ⟨1000000, 0, 800000, { ofs := 5, g := 6, k := 7 },
    { running .stare [(VFE_ILV_CTRL.EST_EN,1)] with vfe.next := [(0, { ofs := 5, g := 6, k := 7 })] }, by decide +kernel⟩,
   ⟨1000000, 800000, { running .stare [(VFE_ILV_CTRL.FREEZE,1)] with vfe.next := [(0, { ofs := 5, g := 6, k := 7 })] }, by decide +kernel⟩,
   ⟨0, st [], by decide +kernel⟩,
   ⟨100*msec, 2, { fe := 2, sums := {}, since := 0, tier := 0 }, { st [] with vfe.solving := [({ fe := 2, sums := {}, since := 0, tier := 0 })] },
    by decide +kernel⟩,
   ⟨100*msec, 2, st [], by decide +kernel⟩⟩

theorem witness_SpareAndFrontEnds :
    (∃ (n c : Nat) (s : State), s.rotates = true ∧ s.vfe.slotAt ≤ (s.at n).now ∧ s.get VFE_SPARE_STATE.PHASE = 0 ∧ s.vfe.postponed = false ∧
      s.swapBarred = false ∧ s.nextChan (s.get VFE_SPARE_STATE.CHAN) = some c) ∧
    (∃ (n : Nat) (s : State), s.rotates = true ∧ s.vfe.slotAt ≤ (s.at n).now ∧ (s.get VFE_SPARE_STATE.PHASE ≠ 0 ∨ s.vfe.postponed = true)) ∧
    (∃ (n : Nat) (s : State), s.rotates = true ∧ s.vfe.slotAt ≤ (s.at n).now ∧ s.get VFE_SPARE_STATE.PHASE = 0 ∧ s.vfe.postponed = false ∧
      s.swapBarred = true) ∧
    (∃ (n : Nat) (s : State), ((s.at n).now < s.vfe.slotAt ∨ s.sys.run = false ∨ s.vfe.started = false)) ∧
    (∃ (n b c : Nat) (s : State), (s.at n).postponedFrom = some b ∧ s.vfe.postponed = true ∧ s.rotates = true ∧ s.get VFE_SPARE_STATE.PHASE = 0 ∧
      s.swapBarred = false ∧ s.nextChan (s.get VFE_SPARE_STATE.CHAN) = some c) ∧
    (∃ (n : Nat) (s : State), ((s.at n).postponedFrom = none ∨ s.vfe.postponed = false ∨ s.rotates = false ∨ s.swapBarred = true)) ∧
    (∃ (n row : Nat) (own other : List PixelVideo) (u s : State), (s.at n).shadowEnd (joinVideo own other) = some (u, row) ∧ s.get
      VFE_SPARE_STATE.PHASE = 1 ∧ u.vfe.fit.matchOk = true) ∧
    (∃ (n row : Nat) (own other : List PixelVideo) (u s : State), (s.at n).shadowEnd (joinVideo own other) = some (u, row) ∧ s.get
      VFE_SPARE_STATE.PHASE = 1 ∧ u.vfe.fit.matchOk = false) ∧
    (∃ (n row : Nat) (own other : List PixelVideo) (u s : State), (s.at n).shadowEnd (joinVideo own other) = some (u, row) ∧ s.get
      VFE_SPARE_STATE.PHASE = 6 ∧ u.vfe.fit.matchOk = true) ∧
    (∃ (n : Nat) (own other : List PixelVideo) (s : State), (s.at n).shadowEnd (joinVideo own other) = none) ∧
    (∃ (reads : List TrimRead) (s : State), s.get VFE_SPARE_STATE.PHASE = 3 ∧ s.get VFE_SPARE_STATE.CHAN < 32 ∧ s.phase3Ok (s.get
      VFE_SPARE_STATE.CHAN) reads = true) ∧
    (∃ (reads : List TrimRead) (s : State), s.get VFE_SPARE_STATE.PHASE = 3 ∧ s.get VFE_SPARE_STATE.CHAN < 32 ∧ s.phase3Ok (s.get
      VFE_SPARE_STATE.CHAN) reads = false ∧ s.vfe.fails.contains (s.get VFE_SPARE_STATE.CHAN) = false) ∧
    (∃ (reads : List TrimRead) (s : State), s.get VFE_SPARE_STATE.PHASE = 3 ∧ s.get VFE_SPARE_STATE.CHAN < 32 ∧ s.phase3Ok (s.get
      VFE_SPARE_STATE.CHAN) reads = false ∧ s.vfe.fails.contains (s.get VFE_SPARE_STATE.CHAN) = true) ∧
    (∃ (n row : Nat) (own other : List PixelVideo) (u s : State), (s.at n).shadowEnd (joinVideo own other) = some (u, row) ∧ s.get
      VFE_SPARE_STATE.PHASE = 4 ∧ s.get VFE_SPARE_STATE.CHAN < 32 ∧ (if u.vfe.fit.n = 0 then Config.freeBool 1 s.free else u.vfe.fit.returnOk) = true) ∧
    (∃ (n row : Nat) (own other : List PixelVideo) (u s : State), (s.at n).shadowEnd (joinVideo own other) = some (u, row) ∧ s.get
      VFE_SPARE_STATE.PHASE = 4 ∧ s.get VFE_SPARE_STATE.CHAN < 32 ∧ (if u.vfe.fit.n = 0 then Config.freeBool 1 s.free else u.vfe.fit.returnOk) = false
      ∧ s.vfe.failed = false ∧ s.vfe.fails.contains (s.get VFE_SPARE_STATE.CHAN) = false) ∧
    (∃ (n row : Nat) (own other : List PixelVideo) (u s : State), (s.at n).shadowEnd (joinVideo own other) = some (u, row) ∧ s.get
      VFE_SPARE_STATE.PHASE = 4 ∧ s.get VFE_SPARE_STATE.CHAN < 32 ∧ (if u.vfe.fit.n = 0 then Config.freeBool 1 s.free else u.vfe.fit.returnOk) = false
      ∧ (s.vfe.failed = true ∨ s.vfe.fails.contains (s.get VFE_SPARE_STATE.CHAN) = true)) ∧
    (∃ (reads : List TrimRead) (s : State), s.get VFE_SPARE_STATE.PHASE = 3 ∧ s.get VFE_SPARE_STATE.CHAN = 32 ∧ s.phase3Ok 32 reads = true ∧
      s.vfe.waiting = false) ∧
    (∃ (reads : List TrimRead) (s : State), s.get VFE_SPARE_STATE.PHASE = 3 ∧ s.get VFE_SPARE_STATE.CHAN = 32 ∧ s.phase3Ok 32 reads = false) ∧
    (∃ (s : State), s.takes 0x50600 = true ∧ s.ready = true ∧ s.get VFE_SPARE_STATE.PHASE = 6) ∧
    (∃ (s : State), s.takes 0x50600 = true ∧ s.ready = true ∧ s.get VFE_SPARE_STATE.PHASE = 7) ∧
    (∃ (s : State), s.takes 0x50600 = true ∧ s.ready = false) ∧
    (∃ (s : State), s.takes 0x50804 = true) ∧
    (∃ (s : State), s.takes 0x50804 = true) :=
  ⟨⟨0, 0, { up .stare [(VFE_SPARE_CTRL.ROT_EN,1)] with sys.run := true, img.active := some { file := routeFile }, vfe.started := true },
    by decide +kernel⟩,
   ⟨0,
    { up .stare [(VFE_SPARE_CTRL.ROT_EN,1)] with sys.run := true, img.active := some { file := routeFile }, vfe.started := true, vfe.postponed := true },
    by decide +kernel⟩,
   ⟨0,
    { up .stare [(VFE_SPARE_CTRL.ROT_EN,1)] with sys.run := true, img.active := some { file := routeFile }, vfe.started := true, vfe.busy := true },
    by decide +kernel⟩,
   ⟨0, st [], by decide +kernel⟩,
   ⟨5, 5, 0,
    { up .sweep [(VFE_SPARE_CTRL.ROT_EN,1),(SWP_SCAN_STATE.STATE,4)] with sys.run := true, img.active := some { file := routeLine }, vfe.started := true, vfe.postponed := true },
    by decide +kernel⟩,
   ⟨0,
    { up .stare [(VFE_SPARE_CTRL.ROT_EN,1)] with sys.run := true, img.active := some { file := routeFile }, vfe.started := true, vfe.postponed := true },
    by decide +kernel⟩,
   ⟨0, 0, [], [], shadowSt 1 { n := 16384 }, shadowSt 1 { n := 16384 }, by decide +kernel⟩,
   ⟨0, 0, [], [], shadowSt 1 {}, shadowSt 1 {}, by decide +kernel⟩,
   ⟨0, 0, [], [], { shadowSt 6 { n := 16384 } with vfe.rematch := true }, { shadowSt 6 { n := 16384 } with vfe.rematch := true }, by decide +kernel⟩,
   ⟨0, [], [], st [], by decide +kernel⟩,
   ⟨quietTrims 3, { up .stare [(VFE_SPARE_STATE.PHASE,3),(VFE_SPARE_STATE.CHAN,3)] with sys.run := true }, by decide +kernel, by decide +kernel,
    quietTrims_ok _ _ rfl⟩,
   ⟨[], { up .stare [(VFE_SPARE_STATE.PHASE,3),(VFE_SPARE_STATE.CHAN,3)] with sys.run := true }, by decide +kernel⟩,
   ⟨[], { up .stare [(VFE_SPARE_STATE.PHASE,3),(VFE_SPARE_STATE.CHAN,3)] with sys.run := true, vfe.fails := [3] }, by decide +kernel⟩,
   ⟨0, 0, [], [], shadowSt 4 { n := 16384 }, shadowSt 4 { n := 16384 }, by decide +kernel⟩,
   ⟨0, 0, [], [], shadowSt 4 { n := 1, v := 9 }, shadowSt 4 { n := 1, v := 9 }, by decide +kernel⟩,
   ⟨0, 0, [], [], { shadowSt 4 { n := 1, v := 9 } with vfe.failed := true }, { shadowSt 4 { n := 1, v := 9 } with vfe.failed := true },
    by decide +kernel⟩,
   ⟨quietTrims 32, { up .stare [(VFE_SPARE_STATE.PHASE,3),(VFE_SPARE_STATE.CHAN,32)] with sys.run := true }, by decide +kernel, by decide +kernel,
    quietTrims_ok _ _ rfl, by decide +kernel⟩,
   ⟨[], { up .stare [(VFE_SPARE_STATE.PHASE,3),(VFE_SPARE_STATE.CHAN,32)] with sys.run := true }, by decide +kernel⟩,
   ⟨up .stare [(VFE_SPARE_STATE.PHASE,6)], by decide +kernel⟩,
   ⟨up .stare [(VFE_SPARE_STATE.PHASE,7)], by decide +kernel⟩,
   ⟨st [], by decide +kernel⟩,
   ⟨st [], by decide +kernel⟩,
   ⟨st [], by decide +kernel⟩⟩

theorem witness_CorrectionRegisters :
    (∃ (s : State), s.sys.run = false ∧ s.sys.mode ≠ .load) ∧
    (∃ (addr : Nat) (s : State), s.takes addr = true ∧ s.imaging = true ∧ s.sys.run = true) ∧
    (∃ (s : State), s.takes 0x60014 = true) ∧
    (∃ (tile row col : Nat) (s : State), tile < 8 ∧ (s.readGen, tile, row, col) ∉ s.cor.ecc) ∧
    (∃ (tile row col : Nat) (s : State), (s.readGen, tile, row, col) ∈ s.cor.ecc) :=
  ⟨⟨up .stare [], by decide +kernel⟩,
   ⟨0, { up .stare [] with sys.run := true }, by decide +kernel⟩,
   ⟨{ up .stare [] with sys.run := true }, by decide +kernel⟩,
   ⟨1, 2, 3, up .stare [], by decide +kernel⟩,
   ⟨1, 2, 3, { up .stare [] with cor.ecc := [(State.reset.readGen, 1, 2, 3)] }, by decide +kernel⟩⟩

theorem witness_EncoderEvents :
    (∃ (n : Nat) (up : Bool) (s : State), s.encLive = true ∧ (s.at n).filtOk (if countOnA (s.get SWP_ENC_STATUS.LEVELS) up then s.swp.aAt else
      s.swp.bAt) = true) ∧
    (∃ (n : Nat) (up : Bool) (s : State), (s.encLive = false ∨ (s.at n).filtOk (if countOnA (s.get SWP_ENC_STATUS.LEVELS) up then s.swp.aAt else
      s.swp.bAt) = false)) ∧
    (∃ (n : Nat) (s : State), s.encLive = true ∧ (s.at n).filtOk s.swp.aAt = true ∧ (s.at n).filtOk s.swp.bAt = true) ∧
    (∃ (n : Nat) (s : State), (s.encLive = false ∨ (s.at n).filtOk s.swp.aAt = false ∨ (s.at n).filtOk s.swp.bAt = false)) ∧
    (∃ (s : State), s.get SWP_ENC_STATUS.SIG_OK = 1) ∧
    (∃ (n : Nat) (s : State), (∀ a, s.swp.lossAt = some a → a + msec ≤ (s.at n).now)) ∧
    (∃ (n a : Nat) (s : State), s.swp.lossAt = some a ∧ (s.at n).now < a + msec) ∧
    (∃ (n : Nat) (s : State), s.get PWR_STATUS.STATE ≤ 1 ∧ bit (s.get SWP_ENC_STATUS.LEVELS) 2 = 0 ∧ (s.at n).filtOk s.swp.iAt = true ∧ s.get
      SWP_ENC_STATUS.DIR = 0 ∧ s.get SWP_ENC_CTRL.INDEX_MODE = 2) ∧
    (∃ (n : Nat) (s : State), s.get PWR_STATUS.STATE ≤ 1 ∧ bit (s.get SWP_ENC_STATUS.LEVELS) 2 = 1 ∧ (s.at n).filtOk s.swp.iAt = true) ∧
    (∃ (n : Nat) (s : State), (1 < s.get PWR_STATUS.STATE ∨ (s.at n).filtOk s.swp.iAt = false)) ∧
    (∃ (s : State), s.takes 0x80020 = true ∧ s.get SWP_SCAN_STATE.STATE ≤ 1) ∧
    (∃ (s : State), s.takes 0x80020 = true ∧ 1 < s.get SWP_SCAN_STATE.STATE) ∧
    (∃ (v : Nat) (s : State), s.takes 0x80040 = true ∧ s.sys.mode ≠ .load ∧ s.sys.run = false ∧ v % 2 ^ 16 ≠ 0) ∧
    (∃ (v : Nat) (s : State), s.takes 0x80040 = true ∧ s.sys.mode ≠ .load ∧ (s.sys.run = true ∨ v % 2 ^ 16 = 0)) :=
  ⟨⟨0, false, st [(SWP_ENC_STATUS.SIG_OK,1)], by decide +kernel⟩,
   ⟨0, false, st [], by decide +kernel⟩,
   ⟨0, st [(SWP_ENC_STATUS.SIG_OK,1)], by decide +kernel⟩,
   ⟨0, st [], by decide +kernel⟩,
   ⟨st [(SWP_ENC_STATUS.SIG_OK,1)], by decide +kernel⟩,
   ⟨0, st [], by decide +kernel⟩,
   ⟨0, 5, { st [] with swp.lossAt := some 5 }, by decide +kernel⟩,
   ⟨0, st [(SWP_ENC_CTRL.INDEX_MODE,2)], by decide +kernel⟩,
   ⟨0, st [(SWP_ENC_STATUS.LEVELS,4)], by decide +kernel⟩,
   ⟨0, st [(PWR_STATUS.STATE,2)], by decide +kernel⟩,
   ⟨st [], by decide +kernel⟩,
   ⟨st [(SWP_SCAN_STATE.STATE,2)], by decide +kernel⟩,
   ⟨10, up .sweep [], by decide +kernel⟩,
   ⟨0, up .sweep [], by decide +kernel⟩⟩

theorem witness_ScanLifecycle :
    (∃ (s : State), s.takes 0x8011C = true ∧ s.sys.mode = .sweep ∧ s.get SWP_SCAN_STATE.STATE = 0 ∧ s.layoutOk = true) ∧
    (∃ (s : State), s.takes 0x8011C = true ∧ (s.sys.mode ≠ .sweep ∨ s.get SWP_SCAN_STATE.STATE ≠ 0 ∨ s.layoutOk = false)) ∧
    (∃ (a : Nat) (o : Int) (s : State), s.swp.startAt = some (o, a) ∧ s.get SWP_SCAN_STATE.STATE = 1 ∧ s.sys.run = true) ∧
    (∃ (s : State), (s.swp.startAt = none ∨ s.get SWP_SCAN_STATE.STATE ≠ 1 ∨ s.sys.run = false)) ∧
    (∃ (s : State), s.takes 0x8011C = true ∧ s.get SWP_SCAN_STATE.STATE = 1) ∧
    (∃ (s : State), s.takes 0x8011C = true ∧ s.scanning = true ∧ s.swp.hostEnd = none ∧ s.swp.endDue = none) ∧
    (∃ (c : Nat) (s : State), s.scanning = true ∧ s.swp.endDue = some c ∧ c < 8) ∧
    (∃ (n a : Nat) (s : State), s.scanning = true ∧ s.swp.endDue = none ∧ s.swp.hostEnd = some a ∧ a + 16 * s.get SWP_ACT_NOMPER.NOMPER ≤ (s.at
      n).now) ∧
    (∃ (s : State), (s.scanning = false ∨ s.swp.endDue = none ∧ s.swp.hostEnd = none)) ∧
    (∃ (s : State), s.takes 0x80138 = true) :=
  ⟨⟨{ up .sweep [(SWP_SCAN_DARK.START,0),(SWP_SCAN_DARK.COUNT,16),(SWP_SCAN_BRIGHT.START,16),(SWP_SCAN_BRIGHT.COUNT,16),(SWP_SCAN_OBJ_START.START,100),(SWP_LINE_CPL.CPL,8),(SWP_SCAN_CTRL.START_SRC,1)] with sys.run := true },
    by decide +kernel⟩,
   ⟨up .stare [], by decide +kernel⟩,
   ⟨5, 7, { up .sweep [(SWP_SCAN_STATE.STATE,1)] with sys.run := true, swp.startAt := some (7, 5) }, by decide +kernel⟩,
   ⟨st [], by decide +kernel⟩,
   ⟨{ up .sweep [(SWP_SCAN_STATE.STATE,1)] with sys.run := true }, by decide +kernel⟩,
   ⟨{ up .sweep [(SWP_SCAN_STATE.STATE,2)] with sys.run := true }, by decide +kernel⟩,
   ⟨1, { up .sweep [(SWP_SCAN_STATE.STATE,2)] with sys.run := true, swp.endDue := some 1 }, by decide +kernel⟩,
   ⟨16*1000, 0, { up .sweep [(SWP_SCAN_STATE.STATE,2),(SWP_ACT_NOMPER.NOMPER,1000)] with sys.run := true, swp.hostEnd := some 0 }, by decide +kernel⟩,
   ⟨{ up .sweep [(SWP_SCAN_STATE.STATE,2)] with sys.run := true }, by decide +kernel⟩,
   ⟨{ up .sweep [(SWP_SCAN_STATE.STATE,2)] with sys.run := true }, by decide +kernel⟩⟩

theorem witness_ScanLinesAndRecord :
    (∃ (n i c : Nat) (fwd : Bool) (rest : List (Nat × Nat × Bool)) (s : State), s.sys.mode ≠ .characterise ∧ s.sys.run = true ∧ s.sys.stopAt = none ∧
      s.swp.reqs = (i, c, fwd) :: rest ∧ tickAfter c ≤ (s.at n).now ∧ s.lineOverrun (tickAfter c) = true) ∧
    (∃ (n i c : Nat) (fwd : Bool) (rest : List (Nat × Nat × Bool)) (s : State), s.sys.mode ≠ .characterise ∧ s.sys.run = true ∧ s.sys.stopAt = none ∧
      s.swp.reqs = (i, c, fwd) :: rest ∧ tickAfter c ≤ (s.at n).now ∧ s.lineOverrun (tickAfter c) = false) ∧
    (∃ (s : State), s.sys.mode ≠ .characterise ∧ (s.swp.reqs = [] ∨ s.sys.run = false)) ∧
    (∃ (r : FrameRec) (l : List FrameRec) (s : State), s.sys.mode ≠ .characterise ∧ s.fpl.frames = r :: l ∧ r.line = true ∧ r.lastSample.isSome = true
      ∧ r.drop = .reverse) ∧
    (∃ (r : FrameRec) (l : List FrameRec) (s : State), s.sys.mode ≠ .characterise ∧ s.fpl.frames = r :: l ∧ r.line = true ∧ r.lastSample.isSome = true
      ∧ r.drop ≠ .reverse ∧ s.scanning = true ∧ s.swp.run = true ∧ r.run = s.swp.runNo ∧ r.index.toNat < 24) ∧
    (∃ (j : Nat) (r : FrameRec) (l rows : List FrameRec) (s : State), s.sys.mode ≠ .characterise ∧ s.fpl.frames = r :: l ∧ r.line = true ∧
      r.lastSample.isSome = true ∧ r.drop ≠ .reverse ∧ s.scanning = true ∧ s.swp.run = true ∧ r.run = s.swp.runNo ∧ r.index.toNat = j + 24 ∧ { s with
      swp.rows := s.swp.rows ++ [r] }.fourLines j = some rows ∧ j ∉ s.swp.dropped ∧ s.inObject j = true ∧ s.inRegion false j = false ∧ s.inRegion true
      j = false ∧ s.swp.high.all (· < j) = true) ∧
    (∃ (code : Nat) (d : Option ScanS) (s : State), s.swp.fitDue = some (code, d) ∧ (stageOf s.image 0x25).isSome = true) ∧
    (∃ (s : State), (s.swp.fitDue = none ∨ (stageOf s.image 0x25).isNone = true)) ∧
    (∃ (b : List Nat) (s : State), s.recordDue = some b) ∧
    (∃ (s : State), s.recordDue = none) :=
  ⟨⟨1000, 3, 100, true, [],
    { up .sweep [(SWP_ACT_MINPER.MINPER,1000)] with sys.run := true, swp.reqs := [(3, 100, true)], fpl.lastB := some 0, fpl.lastSet := some { prog := 0, int := 0, period := 50000, gains := 0, bias := [], minper := 0, nomper := 0 }, img.active := some { file := lineFile } },
    by decide +kernel⟩,
   ⟨1000, 3, 100, true, [], { up .sweep [] with sys.run := true, swp.reqs := [(3, 100, true)], img.active := some { file := lineFile } },
    by decide +kernel⟩,
   ⟨{ up .sweep [] with sys.run := true, img.active := some { file := lineFile }, fpl.frames := [({ line := true, lastSample := some 5, drop := .reverse })] },
    by decide +kernel⟩,
   ⟨{ line := true, lastSample := some 5, drop := .reverse }, [],
    { up .sweep [] with sys.run := true, img.active := some { file := lineFile }, fpl.frames := [({ line := true, lastSample := some 5, drop := .reverse })] },
    by decide +kernel⟩,
   ⟨{ line := true, lastSample := some 5, index := 3, run := 1 }, [],
    { up .sweep [(SWP_SCAN_STATE.STATE,2)] with sys.run := true, img.active := some { file := lineFile }, fpl.frames := [({ line := true, lastSample := some 5, index := 3, run := 1 })], swp.run := true, swp.runNo := 1 },
    by decide +kernel⟩,
   ⟨40, { line := true, lastSample := some 5, index := 64, run := 1 }, [],
    [{ line := true, lastSample := some 5, index := 40, run := 1 }, { line := true, lastSample := some 5, index := 48, run := 1 }, { line := true, lastSample := some 5, index := 56, run := 1 }, { line := true, lastSample := some 5, index := 64, run := 1 }],
    { up .sweep [(SWP_SCAN_STATE.STATE,2),(SWP_SCAN_OBJ_START.START,0),(SWP_SCAN_OBJ_COUNT.COUNT,1000)] with sys.run := true, img.active := some { file := lineFile }, swp.run := true, swp.runNo := 1, fpl.frames := [{ line := true, lastSample := some 5, index := 64, run := 1 }], swp.rows := [{ line := true, lastSample := some 5, index := 40, run := 1 }, { line := true, lastSample := some 5, index := 48, run := 1 }, { line := true, lastSample := some 5, index := 56, run := 1 }] },
    by decide +kernel⟩,
   ⟨2, none, { up .sweep [] with sys.run := true, img.active := some { file := edgeFile }, swp.fitDue := some (2, none) }, by decide +kernel⟩,
   ⟨st [], by decide +kernel⟩,
   ⟨[1], { up .sweep [] with sys.run := true, img.active := some { file := lineFile }, swp.recDue := some [1] }, by decide +kernel⟩,
   ⟨st [], by decide +kernel⟩⟩

theorem witness_StripsAndHeaters :
    (∃ (s : State), s.swp.computeDue = true ∧ s.swp.computed = false ∧ s.get SWP_REF_STATUS.PASS ≠ 3) ∧
    (∃ (s : State), (s.swp.computeDue = false ∨ s.swp.computed = true ∨ s.get SWP_REF_STATUS.PASS = 3)) ∧
    (∃ (s : State), s.get SWP_REF_STATUS.PASS ≠ 3) ∧
    (∃ (s : State), s.get SWP_REF_STATUS.PASS = 3 ∧ s.fewLines false = true ∧ s.fewLines true = true) ∧
    (∃ (s : State), s.get SWP_REF_STATUS.PASS = 3 ∧ (s.fewLines false && s.fewLines true) = false ∧ s.passOk s.swp.dark.tb s.swp.bright.tb = false) ∧
    (∃ (s : State), s.get SWP_REF_STATUS.PASS = 3 ∧ (s.fewLines false && s.fewLines true) = false ∧ s.passOk s.swp.dark.tb s.swp.bright.tb = true ∧
      ((if s.fewLines false then s.swp.bright else s.swp.dark).tiles.any fun k => (s.stripTile s.swp.dark.tb k).darkOk || (s.stripTile s.swp.dark.tb
      k).brightOk) = true) ∧
    (∃ (n a : Nat) (s : State), s.swp.drivenAt = some a ∧ a + 300 * sec ≤ (s.at n).now ∧ s.swp.heatJudged = false) ∧
    (∃ (n : Nat) (s : State), ((∀ a, s.swp.drivenAt = some a → (s.at n).now < a + 300 * sec) ∨ s.swp.heatJudged = true)) ∧
    (∃ (s : State), s.get SWP_REF_STATUS.HEAT_BR = 1) ∧
    (∃ (s : State), s.get SWP_REF_STATUS.HEAT_DK = 1) ∧
    (∃ (n : Nat) (s : State), s.swp.offBr = true ∧ s.swp.brOffAt + sec ≤ (s.at n).now) ∧
    (∃ (n : Nat) (s : State), s.swp.offDk = true ∧ s.swp.dkOffAt + sec ≤ (s.at n).now) :=
  ⟨⟨{ up .sweep [] with sys.run := true, img.active := some { file := lineFile }, swp.computeDue := true }, by decide +kernel⟩,
   ⟨st [], by decide +kernel⟩,
   ⟨{ up .sweep [] with sys.run := true, img.active := some { file := lineFile }, swp.computeDue := true }, by decide +kernel⟩,
   ⟨up .sweep [(SWP_REF_STATUS.PASS,3),(SWP_REF_CTRL.MINLINES,4)], by decide +kernel⟩,
   ⟨{ up .sweep [(SWP_REF_STATUS.PASS,3),(SWP_REF_CTRL.MINLINES,4),(SWP_REF_DT.DT,0)] with sys.run := true, img.active := some { file := lineFile }, swp.dark := { done := 4, px := [(0, 0, 4, 400, 40000)], paddle := [(12800, 13800)] }, swp.bright := { done := 4, paddle := [(12800, 12800)] }, cal.newest := { tiles := [(0, { file := radFile, respL := 0x43480000, kr := 0x3BA3D70A })] }, swp.startGen := { tiles := [(0, { file := radFile, respL := 0x43480000, kr := 0x3BA3D70A })] } },
    by decide +kernel⟩,
   ⟨{ up .sweep [(SWP_REF_STATUS.PASS,3),(SWP_REF_CTRL.MINLINES,4),(SWP_REF_DT.DT,0)] with sys.run := true, img.active := some { file := lineFile }, swp.dark := { done := 4, px := [(0, 0, 4, 400, 40000)], paddle := [(12800, 12800)] }, swp.bright := { done := 4, paddle := [(12800, 12800)] }, cal.newest := { tiles := [(0, { file := radFile, respL := 0x43480000, kr := 0x3BA3D70A })] }, swp.startGen := { tiles := [(0, { file := radFile, respL := 0x43480000, kr := 0x3BA3D70A })] } },
    by decide +kernel⟩,
   ⟨300*sec, 0, { up .sweep [] with swp.drivenAt := some 0 }, by decide +kernel⟩,
   ⟨0, st [], by decide +kernel⟩,
   ⟨{ up .sweep [(SWP_REF_STATUS.HEAT_BR,1)] with sys.run := true }, by decide +kernel⟩,
   ⟨{ up .sweep [(SWP_REF_STATUS.HEAT_DK,1)] with sys.run := true }, by decide +kernel⟩,
   ⟨sec, { up .sweep [] with sys.run := true, swp.offBr := true }, by decide +kernel⟩,
   ⟨sec, { up .sweep [] with sys.run := true, swp.offDk := true }, by decide +kernel⟩⟩

theorem witness_SolverBatches :
    (∃ (i tier : Nat) (b : SolBatch) (rest : List SolBatch) (s : State), s.sol.batches = b :: rest ∧ b.slot < 8 ∧ b.tier = some tier ∧ i < (descAt
      s.sol.win b.off).count ∧ i ∉ b.ended ∧ i < b.ended.length + (if (descAt s.sol.win b.off).kind = 5 then 1 else 64)) ∧
    (∃ (i tier : Nat) (b : SolBatch) (rest : List SolBatch) (s : State), s.sol.batches = b :: rest ∧ b.slot < 8 ∧ b.tier = some tier ∧ i < (descAt
      s.sol.win b.off).count ∧ i ∉ b.ended ∧ i < b.ended.length + (if (descAt s.sol.win b.off).kind = 5 then 1 else 64)) ∧
    (∃ (i : Nat) (s : State), (∀ b rest, s.sol.batches = b :: rest → b.tier = none ∨ (descAt s.sol.win b.off).count ≤ i ∨ i ∈ b.ended ∨ b.ended.length
      + (if (descAt s.sol.win b.off).kind = 5 then 1 else 64) ≤ i)) ∧
    (∃ (n d : Nat) (b : SolBatch) (s : State), s.sol.batches = [b] ∧ b.dl = some d ∧ d ≤ (s.at n).now ∧ b.hit = false ∧ b.ended.length < (descAt
      s.sol.win b.off).count) ∧
    (∃ (n : Nat) (s : State), (∀ b ∈ s.sol.batches, b.hit = true ∨ ∀ d, b.dl = some d → (s.at n).now < d)) ∧
    (∃ (b : SolBatch) (s : State), s.sol.batches = [b] ∧ b.slot < 8 ∧ s.ops.slots.length = 8 ∧ b.ended.length = (descAt s.sol.win b.off).count) ∧
    (∃ (s : State), (∀ b ∈ s.sol.batches, b.ended.length ≠ (descAt s.sol.win b.off).count)) ∧
    (∃ (s : State), s.takes 0x90024 = true) :=
  ⟨⟨0, 1, { slot := 2, off := 0, tier := some 1 }, [],
    { up .stare [(OP_STATUS.STATE 2,2),(OP_CMD.CMD 2,0x901)] with sol.batches := [({ slot := 2, off := 0, tier := some 1 })], sol.win := Mem.store [] 0 [0, 0, 0, 0, 1, 3, 3, 0, 2] },
    by decide +kernel⟩,
   ⟨0, 1, { slot := 2, off := 0, tier := some 1 }, [],
    { up .stare [(OP_STATUS.STATE 2,2),(OP_CMD.CMD 2,0x901)] with sol.batches := [({ slot := 2, off := 0, tier := some 1 })], sol.win := Mem.store [] 0 [0, 0, 0, 0, 1, 3, 3, 0, 2] },
    by decide +kernel⟩,
   ⟨0, st [], by simp [st, State.reset]⟩,
   ⟨100, 50, { slot := 2, off := 0, tier := some 1, dl := some 50 },
    { up .stare [(OP_STATUS.STATE 2,2),(OP_CMD.CMD 2,0x901)] with sol.batches := [({ slot := 2, off := 0, tier := some 1, dl := some 50 })], sol.win := Mem.store [] 0 [0, 0, 0, 0, 1, 3, 3, 0, 2] },
    by decide +kernel⟩,
   ⟨100, st [], by decide +kernel⟩,
   ⟨{ slot := 2, off := 0, tier := some 1, ended := [0, 1], ok := 2 },
    { up .stare [(OP_STATUS.STATE 2,2),(OP_CMD.CMD 2,0x901)] with sol.batches := [({ slot := 2, off := 0, tier := some 1, ended := [0, 1], ok := 2 })], sol.win := Mem.store [] 0 [0, 0, 0, 0, 1, 3, 3, 0, 2] },
    by decide +kernel⟩,
   ⟨st [], by decide +kernel⟩,
   ⟨st [], by decide +kernel⟩⟩

theorem witness_TriggersAndResets :
    (∃ (i : Nat) (s : State), i < 2 ∧ s.get PWR_STATUS.STATE < 2 ∧ s.get FIL_SYNC_CTRL.SRC ≠ i + 1) ∧
    (∃ (i : Nat) (s : State), i < 2 ∧ s.get PWR_STATUS.STATE < 2 ∧ s.get FIL_SYNC_CTRL.SRC = i + 1 ∧ s.sys.mode = .stare ∧ s.sys.run = true ∧ s.get
      FIL_SYNC_CTRL.MODE = 2 ∧ s.fil.fsync = none) ∧
    (∃ (i : Nat) (s : State), (2 ≤ s.get PWR_STATUS.STATE ∨ 2 ≤ i)) ∧
    (∃ (s : State), s.takes 0xA0008 = true) ∧
    (∃ (v : Nat) (s : State), s.takes 0xA0004 = true ∧ s.sys.mode ≠ .load ∧ s.sys.run = false ∧ FIL_SYNC_CTRL.SRC.ofWord v ≤ 2) ∧
    (∃ (v : Nat) (s : State), s.takes 0xA0004 = true ∧ s.sys.mode ≠ .load ∧ (s.sys.run = true ∨ 2 < FIL_SYNC_CTRL.SRC.ofWord v)) ∧
    (∃ (n : Nat) (s : State), s.get PWR_STATUS.STATE < 2 ∧ s.img.extest = false ∧ s.nsAt ((s.at n).now) % 1000000000 < 100 ∧ (nth {} s.fil.tout 0).src
      = 7 ∧ (nth {} s.fil.tout 1).src ≠ 7) ∧
    (∃ (n : Nat) (s : State), (100 ≤ s.nsAt ((s.at n).now) % 1000000000 ∨ 2 ≤ s.get PWR_STATUS.STATE ∨ (nth {} s.fil.tout 0).src ≠ 7 ∧ (nth {}
      s.fil.tout 1).src ≠ 7)) :=
  ⟨⟨0, st [], by decide +kernel⟩,
   ⟨0, { up .stare [(FIL_SYNC_CTRL.SRC,1),(FIL_SYNC_CTRL.MODE,2)] with sys.run := true }, by decide +kernel⟩,
   ⟨0, st [(PWR_STATUS.STATE,2)], by decide +kernel⟩,
   ⟨st [], by decide +kernel⟩,
   ⟨1, up .stare [], by decide +kernel⟩,
   ⟨3, up .stare [], by decide +kernel⟩,
   ⟨0, { st [] with fil.tout := [{ src := 7 }, {}] }, by decide +kernel⟩,
   ⟨0, st [(PWR_STATUS.STATE,2)], by decide +kernel⟩⟩

theorem witness_TimeOfDay :
    (∃ (s : State), s.takes 0xA0420 = true ∧ s.get FIL_TIME_CTRL.TOD_SRC = 0) ∧
    (∃ (s : State), s.takes 0xA0420 = true ∧ s.get FIL_TIME_CTRL.TOD_SRC = 2) ∧
    (∃ (s : State), s.takes 0xA0420 = true ∧ (s.get FIL_TIME_CTRL.TOD_SRC = 1 ∨ s.get FIL_TIME_CTRL.TOD_SRC = 3)) ∧
    (∃ (v : Nat) (s : State), s.takes 0xA0400 = true ∧ s.sys.mode ≠ .load ∧ FIL_TIME_CTRL.TOD_SRC.ofWord v ≠ s.get FIL_TIME_CTRL.TOD_SRC) ∧
    (∃ (n : Nat) (s : State), s.get FIL_TIME_CTRL.TOD_SRC = 2 ∧ s.get PWR_STATUS.STATE < 2 ∧ s.fil.setDue = false ∧ (s.get FIL_TIME_STATE.STATE < 2 ∨
      s.fil.ppsAny = true ∨ (secondOfs (s.nsAt ((s.at n).now - 3) - s.geti FIL_PPS_DELAY.NS)).natAbs ≤ 10000)) ∧
    (∃ (n : Nat) (s : State), s.get FIL_TIME_CTRL.TOD_SRC = 2 ∧ s.get PWR_STATUS.STATE < 2 ∧ s.fil.setDue = false ∧ 2 ≤ s.get FIL_TIME_STATE.STATE ∧
      s.fil.ppsAny = false ∧ 10000 < (secondOfs (s.nsAt ((s.at n).now - 3) - s.geti FIL_PPS_DELAY.NS)).natAbs) ∧
    (∃ (s : State), (2 ≤ s.get PWR_STATUS.STATE ∨ s.get FIL_TIME_CTRL.TOD_SRC < 2)) ∧
    (∃ (n u : Nat) (s : State), 2 ≤ s.get FIL_TIME_CTRL.TOD_SRC ∧ s.fil.ppsUsed = some u ∧ u + 400000000 < (s.at n).now ∧ s.get FIL_TIME_STATE.STATE =
      2) ∧
    (∃ (n : Nat) (s : State), (s.get FIL_TIME_CTRL.TOD_SRC < 2 ∨ ∀ u, s.fil.ppsUsed = some u → (s.at n).now ≤ u + 400000000)) ∧
    (∃ (n h : Nat) (s : State), s.fil.holdSince = some h ∧ s.get FIL_TIME_STATE.STATE = 3 ∧ s.get FIL_HOLD_LIMIT.S * sec < (s.at n).now - h) ∧
    (∃ (n b : Nat) (ofs : Int) (s : State), s.fil.stepDue = some ofs ∧ (s.at n).dueBoundary = some b) ∧
    (∃ (n : Nat) (s : State), (s.fil.stepDue = none ∨ (s.at n).dueBoundary = none)) :=
  ⟨⟨st [(FIL_TIME_CTRL.TOD_SRC,0)], by decide +kernel⟩,
   ⟨st [(FIL_TIME_CTRL.TOD_SRC,2)], by decide +kernel⟩,
   ⟨st [(FIL_TIME_CTRL.TOD_SRC,1)], by decide +kernel⟩,
   ⟨1, up .stare [], by decide +kernel⟩,
   ⟨0, st [(FIL_TIME_CTRL.TOD_SRC,2),(FIL_TIME_STATE.STATE,1)], by decide +kernel⟩,
   ⟨100000, st [(FIL_TIME_CTRL.TOD_SRC,2),(FIL_TIME_STATE.STATE,2)], by decide +kernel⟩,
   ⟨st [], by decide +kernel⟩,
   ⟨500000000, 0, { st [(FIL_TIME_CTRL.TOD_SRC,2),(FIL_TIME_STATE.STATE,2)] with fil.ppsUsed := some 0 }, by decide +kernel⟩,
   ⟨500000000, st [], by decide +kernel⟩,
   ⟨100000*sec, 0, { st [(FIL_TIME_STATE.STATE,3)] with fil.holdSince := some 0 }, by decide +kernel⟩,
   ⟨1000000, 800000, 5, { running .stare [] with fil.stepDue := some 5 }, by decide +kernel⟩,
   ⟨0, st [], by decide +kernel⟩⟩

theorem witness_PtpClock :
    (∃ (m : PtpMsg) (s : State), s.get PWR_STATUS.STATE < 4 ∧ m.domain = s.get FIL_TIME_CTRL.DOMAIN ∧ s.fil.masters = [] ∧ s.fil.master = none ∧
      m.source < 2 ^ 64 ∧ m.utcOffset < 2 ^ FIL_PTP_STATUS.UTC_OFFSET.width) ∧
    (∃ (m : PtpMsg) (s : State), s.get PWR_STATUS.STATE < 4 ∧ m.domain = s.get FIL_TIME_CTRL.DOMAIN ∧ s.fil.master = some m.source ∧ m.followUp =
      false ∧ m.twoStep = false ∧ s.get FIL_TIME_CTRL.TOD_SRC ≠ 1) ∧
    (∃ (m : PtpMsg) (s : State), s.get PWR_STATUS.STATE < 4 ∧ m.domain = s.get FIL_TIME_CTRL.DOMAIN ∧ s.fil.master = some m.source ∧ m.followUp =
      false ∧ m.twoStep = true) ∧
    (∃ (m : PtpMsg) (t2 c : Int) (s : State), s.get PWR_STATUS.STATE < 4 ∧ m.domain = s.get FIL_TIME_CTRL.DOMAIN ∧ s.fil.master = some m.source ∧
      m.followUp = true ∧ s.fil.sync = some (m.seq, t2, c) ∧ s.get FIL_TIME_CTRL.TOD_SRC ≠ 1) ∧
    (∃ (m : PtpMsg) (s : State), (4 ≤ s.get PWR_STATUS.STATE ∨ m.domain ≠ s.get FIL_TIME_CTRL.DOMAIN)) ∧
    (∃ (s : State), s.get PWR_STATUS.STATE < 4 ∧ s.fil.master ≠ none ∧ s.fil.pair ≠ none) ∧
    (∃ (m : PtpMsg) (t1 t2 t3 corr d : Int) (s : State), s.get PWR_STATUS.STATE < 4 ∧ m.domain = s.get FIL_TIME_CTRL.DOMAIN ∧ s.fil.master = some
      m.source ∧ s.fil.delayReq = some (m.seq, t3) ∧ s.fil.pair = some (t1, t2, corr) ∧ d = (t2 - t3) + (m.rxNs - t1) - corr - m.correction ∧ d.natAbs
      < 2 ^ 31) ∧
    (∃ (n x : Nat) (s : State), s.fil.master = some x ∧ (s.at n).announceLate = true ∧ s.get FIL_TIME_CTRL.TOD_SRC = 1 ∧ s.get FIL_TIME_STATE.STATE =
      2) ∧
    (∃ (n : Nat) (s : State), (s.fil.master = none ∨ (s.at n).announceLate = false ∧ (s.at n).syncLate = false)) :=
  ⟨⟨{ source := 7 }, st [], by decide +kernel⟩,
   ⟨{ source := 7 }, { st [] with fil.masters := [{ msg := { source := 7 }, at_ := 0 }], fil.master := some 7 }, by decide +kernel⟩,
   ⟨{ source := 7, twoStep := true }, { st [] with fil.masters := [{ msg := { source := 7 }, at_ := 0 }], fil.master := some 7 }, by decide +kernel⟩,
   ⟨{ source := 7, followUp := true, seq := 4 }, 9, 1,
    { st [(FIL_TIME_CTRL.TOD_SRC,2)] with fil.masters := [{ msg := { source := 7 }, at_ := 0 }], fil.master := some 7, fil.sync := some (4, 9, 1) },
    by decide +kernel⟩,
   ⟨{ source := 7, twoStep := true }, st [(PWR_STATUS.STATE,4)], by decide +kernel⟩,
   ⟨{ st [] with fil.masters := [{ msg := { source := 7 }, at_ := 0 }], fil.master := some 7, fil.pair := some (1, 2, 0) }, by decide +kernel⟩,
   ⟨{ source := 7, seq := 3, rxNs := 10, correction := 1 }, 1, 2, 5, 0, 5,
    { st [] with fil.masters := [{ msg := { source := 7 }, at_ := 0 }], fil.master := some 7, fil.delayReq := some (3, 5), fil.pair := some (1, 2, 0) },
    by decide +kernel⟩,
   ⟨1000*sec, 7,
    { st [(FIL_TIME_CTRL.TOD_SRC,1),(FIL_TIME_STATE.STATE,2)] with fil.masters := [{ msg := { source := 7 }, at_ := 0 }], fil.master := some 7 },
    by decide +kernel⟩,
   ⟨1000*sec, st [], by decide +kernel⟩⟩

theorem witness_MonitorSequences :
    (∃ (n : Nat) (s : State), (s.at n).cycleReady = true ∧ s.mon.pendSeq = none) ∧
    (∃ (n i k : Nat) (e : Nat × Nat) (codes : List Nat) (s : State), s.get MON_STATUS.RUNNING = 1 ∧ s.mon.inj = none ∧ s.get MON_STATUS.ENTRY = i ∧ i
      < 16 ∧ s.mon.act.reg[i]? = some e ∧ s.mon.cycling = true ∧ codes.length = 2 ^ entAvg e ∧ s.mon.entryAt + entTime e ≤ (s.at n).now / 16 ∧ 1 ≤
      entSpan e ∧ entInput e + entSpan e ≤ 24 ∧ entGain e ≤ 4 ∧ k = entInput e + nth 0 s.mon.rot i % entSpan e ∧ (k ≠ 22 ∨ s.sys.escalated = true)) ∧
    (∃ (n : Nat) (s : State), (s.at n).cycleReady = false) ∧
    (∃ (s : State), s.takes 0xB0004 = true ∧ s.shadowRefuse = 0) ∧
    (∃ (s : State), s.takes 0xB0004 = true ∧ s.shadowRefuse ≠ 0) ∧
    (∃ (n : Nat) (q : MonSeq) (s : State), (s.at n).cycleReady = true ∧ s.mon.pendSeq = some q) ∧
    (∃ (s : State), s.takes 0xB0030 = true) ∧
    (∃ (src : Nat) (s : State), src < 4 ∧ s.mon.act.inj ≠ [] ∧ bit s.mon.act.trig src = 1 ∧ s.get MON_STATUS.RUNNING = 1 ∧ s.get
      MON_STATUS.CALIBRATING = 0 ∧ s.mon.inj = none) ∧
    (∃ (src : Nat) (s : State), src < 4 ∧ s.mon.act.inj ≠ [] ∧ bit s.mon.act.trig src = 1 ∧ s.get MON_STATUS.RUNNING = 1 ∧ s.mon.inj.isSome = true ∧
      s.mon.heldTrig = none) ∧
    (∃ (src : Nat) (s : State), src < 4 ∧ s.mon.act.inj ≠ [] ∧ bit s.mon.act.trig src = 1 ∧ s.get MON_STATUS.RUNNING = 1 ∧ s.mon.inj.isSome = true ∧
      s.mon.heldTrig.isSome = true) ∧
    (∃ (src : Nat) (s : State), (4 ≤ src ∨ s.mon.act.inj = [] ∨ bit s.mon.act.trig src = 0 ∨ s.get MON_STATUS.RUNNING = 0 ∧ s.get
      MON_STATUS.CALIBRATING = 0)) ∧
    (∃ (s : State), s.takes 0xB0004 = true ∧ s.mon.act.inj = []) ∧
    (∃ (s : State), s.takes 0xB0004 = true ∧ s.mon.act.inj ≠ [] ∧ bit s.mon.act.trig 2 = 1 ∧ s.get MON_STATUS.RUNNING = 1 ∧ s.get
      MON_STATUS.CALIBRATING = 0 ∧ s.mon.inj = none) ∧
    (∃ (src j a : Nat) (s : State), s.mon.inj = some (src, j, a) ∧ s.mon.act.inj.length ≤ j ∧ s.mon.heldTrig = none) ∧
    (∃ (src j a h : Nat) (s : State), s.mon.inj = some (src, j, a) ∧ s.mon.act.inj.length ≤ j ∧ s.mon.heldTrig = some h) ∧
    (∃ (s : State), (∀ src j a, s.mon.inj = some (src, j, a) → j < s.mon.act.inj.length)) :=
  ⟨⟨0, st [(MON_STATUS.RUNNING,1)], by decide +kernel⟩,
   ⟨10000, 0, 2, (2 + 256, 40), [100], { st [(MON_STATUS.RUNNING,1)] with mon.cycling := true, mon.act.reg := [(2 + 256, 40)] }, by decide +kernel⟩,
   ⟨0, st [], by decide +kernel⟩,
   ⟨{ up .stare [(MON_SEQ_CTRL.REG_LEN,1),(MON_SEQi_W0.W0 0,16+256*7),(MON_SEQi_W1.SAMPT 0,40)] with img.extest := false }, by decide +kernel⟩,
   ⟨up .stare [], by decide +kernel⟩,
   ⟨0, {}, { st [(MON_STATUS.RUNNING,1)] with mon.pendSeq := some {} }, by decide +kernel⟩,
   ⟨st [], by decide +kernel⟩,
   ⟨1, { st [(MON_STATUS.RUNNING,1)] with mon.act.inj := [(256, 40)], mon.act.trig := 15 }, by decide +kernel⟩,
   ⟨1, { st [(MON_STATUS.RUNNING,1)] with mon.act.inj := [(256, 40)], mon.act.trig := 15, mon.inj := some (0, 0, 0) }, by decide +kernel⟩,
   ⟨1, { st [(MON_STATUS.RUNNING,1)] with mon.act.inj := [(256, 40)], mon.act.trig := 15, mon.inj := some (0, 0, 0), mon.heldTrig := some 2 },
    by decide +kernel⟩,
   ⟨1, st [], by decide +kernel⟩,
   ⟨st [], by decide +kernel⟩,
   ⟨{ st [(MON_STATUS.RUNNING,1)] with mon.act.inj := [(256, 40)], mon.act.trig := 15 }, by decide +kernel⟩,
   ⟨1, 1, 0, { st [(MON_STATUS.RUNNING,1)] with mon.act.inj := [(256, 40)], mon.act.trig := 15, mon.inj := some (1, 1, 0) }, by decide +kernel⟩,
   ⟨1, 1, 0, 2,
    { st [(MON_STATUS.RUNNING,1)] with mon.act.inj := [(256, 40)], mon.act.trig := 15, mon.inj := some (1, 1, 0), mon.heldTrig := some 2 },
    by decide +kernel⟩,
   ⟨st [], by simp [st, State.reset]⟩⟩

theorem witness_MonitorCalibrationAndFaults :
    (∃ (s : State), s.takes 0xB0004 = true ∧ s.sys.run = false ∧ s.sys.mode ≠ .characterise ∧ s.sys.mode ≠ .load ∧ s.get PWR_STATUS.STATE ≤ 2 ∧ s.get
      MON_STATUS.CALIBRATING = 0) ∧
    (∃ (s : State), s.takes 0xB0004 = true ∧ (s.sys.run = true ∨ s.sys.mode = .characterise ∨ s.sys.mode = .load ∨ 2 < s.get PWR_STATUS.STATE)) ∧
    (∃ (n : Nat) (s : State), (s.get MON_STATUS.CALIBRATING = 0 ∨ (s.at n).now / 16 < s.mon.calAt + selfCalTicks)) ∧
    (∃ (n : Nat) (points : List (Nat × Nat)) (s : State), s.get MON_STATUS.CALIBRATING = 1 ∧ s.mon.calAt + selfCalTicks ≤ (s.at n).now / 16 ∧
      points.length ≠ 10) ∧
    (∃ (n : Nat) (points : List (Nat × Nat)) (p : Nat → Int × Int) (s : State), s.get MON_STATUS.CALIBRATING = 1 ∧ s.mon.calAt + selfCalTicks ≤ (s.at
      n).now / 16 ∧ points.length = 10 ∧ points.all quietPoint = true ∧ (∀ g, g < 5 → calFactors (nth (0, 0) points (2 * g)).1 (nth (0, 0) points (2 *
      g + 1)).1 = some (p g) ∧ factorsOk (p g) = true)) ∧
    (∃ (k : Nat) (s : State), s.takes (0xB0384 + 16 * k) = true ∧ k < 24 ∧ s.sys.mode ≠ .load) ∧
    (∃ (k v : Nat) (s : State), s.takes (0xB0380 + 16 * k) = true ∧ k < 24 ∧ s.sys.mode ≠ .load ∧ (MON_ALMn_CTRL.QUAL k).ofWord v ≠ 0) ∧
    (∃ (n k : Nat) (s : State), s.get MON_STATUS.RUNNING = 1 ∧ s.needed.contains k = true ∧ 2000000 < (s.at n).inputAge k) ∧
    (∃ (s : State), s.get MON_STATUS.OT_COMP = 0 ∧ s.get PWR_STATUS.STATE ≤ 2) ∧
    (∃ (s : State), s.pwr.heldOff = false ∧ s.mon.dieCool = 16) ∧
    (∃ (s : State), s.pwr.heldOff = false ∧ s.mon.dieCool ≠ 16) :=
  ⟨⟨up .stare [], by decide +kernel⟩,
   ⟨up .characterise [], by decide +kernel⟩,
   ⟨0, up .stare [], by decide +kernel⟩,
   ⟨16*selfCalTicks, [], st [(MON_STATUS.CALIBRATING,1)], by decide +kernel⟩,
   ⟨16*selfCalTicks, (List.range 5).flatMap fun _ => [(100, 50), (176 * 12288 + 100, 176 * 12288 * 12288)], fun _ => (9, 2 ^ 15), st
     [(MON_STATUS.CALIBRATING,1)], by decide +kernel⟩,
   ⟨2, up .stare [], by decide +kernel⟩,
   ⟨2, MON_ALMn_CTRL.QUAL 2 |>.lsb |> (2 ^ ·), up .stare [], by decide +kernel⟩,
   ⟨40000000, 22, st [(MON_STATUS.RUNNING,1)], by decide +kernel⟩,
   ⟨st [], by decide +kernel⟩,
   ⟨{ st [] with mon.dieCool := 16 }, by decide +kernel⟩,
   ⟨st [], by decide +kernel⟩⟩

theorem witness_PortLinks :
    (∃ (p phy cls : Nat), p < 4 ∧ 1 ≤ phy ∧ phy ≤ 3 ∧ cls ≤ 4) ∧
    (∃ (p : Nat), p < 4) ∧
    (∃ (p : Nat) (s : State), p < 4 ∧ s.get (PRT_Pn_STATUS.PRESENT p) = 1 ∧ s.get (PRT_Pn_STATUS.LINK p) < 2) ∧
    (∃ (p : Nat) (s : State), p < 4 ∧ s.get (PRT_Pn_STATUS.LINK p) = 1 ∧ s.portOn p = true) ∧
    (∃ (p : Nat) (s : State), p < 4 ∧ s.get (PRT_Pn_STATUS.LINK p) = 0 ∧ s.portLit p = true ∧ 1 ≤ s.get (PRT_Pn_STATUS.PHY p) ∧ s.get
      (PRT_Pn_STATUS.PHY p) ≤ 3) ∧
    (∃ (p : Nat) (s : State), p < 4 ∧ s.get (PRT_Pn_STATUS.PHY p) = 3 ∧ s.get (PRT_Pn_STATUS.LINK p) = 0) ∧
    (∃ (p uncorr : Nat) (s : State), p < 4 ∧ (s.get (PRT_Pn_STATUS.PHY p) = 1 ∨ s.get (PRT_Pn_STATUS.PHY p) = 3) ∧ uncorr ≠ 0 ∧ (s.port p).fecBad = 9) ∧
    (∃ (p : Nat) (s : State), p < 4 ∧ (s.get (PRT_Pn_STATUS.PHY p) = 1 ∨ s.get (PRT_Pn_STATUS.PHY p) = 3) ∧ (s.port p).fecGood < 9) :=
  ⟨⟨1, 1, 2, by decide +kernel⟩,
   ⟨1, by decide +kernel⟩,
   ⟨1, st [(PRT_Pn_STATUS.PRESENT 1,1),(PRT_Pn_STATUS.LINK 1,1)], by decide +kernel⟩,
   ⟨1, st [(PRT_Pn_STATUS.LINK 1,1),(PRT_CHn_CTRL.EN 4,1)], by decide +kernel⟩,
   ⟨1, st [(PRT_Pn_STATUS.PHY 1,1)], by decide +kernel⟩,
   ⟨1, st [(PRT_Pn_STATUS.PHY 1,3)], by decide +kernel⟩,
   ⟨1, 2, { st [(PRT_Pn_STATUS.PHY 1,1)] with prt.ports := List.replicate 4 { fecBad := 9 } }, by decide +kernel⟩,
   ⟨1, st [(PRT_Pn_STATUS.PHY 1,1)], by decide +kernel⟩⟩

theorem witness_PortTraffic :
    (∃ (p a q : Nat) (quanta : List (Nat × Nat)) (pfc : Bool) (s : State), p < 4 ∧ s.get (PRT_Pn_STATUS.LINK p) = 1 ∧ (s.port p).pauseTo = none ∧ 0 <
      q ∧ q < 65536 ∧ ((s.get (PRT_Pn_CTRL.FC_MODE p) = 1 ∧ pfc = false ∧ quanta.head? = some (a, q)) ∨ (s.get (PRT_Pn_CTRL.FC_MODE p) = 2 ∧ pfc =
      true ∧ quanta.find? (·.1 == s.get (PRT_Pn_CTRL.PCP p)) = some (a, q)))) ∧
    (∃ (p : Nat) (pfc : Bool) (s : State), p < 4 ∧ (s.port p).pauseTo = none ∧ (s.get (PRT_Pn_CTRL.FC_MODE p) = 0 ∨ (s.get (PRT_Pn_CTRL.FC_MODE p) = 1
      ∧ pfc = true) ∨ (s.get (PRT_Pn_CTRL.FC_MODE p) = 2 ∧ pfc = false))) ∧
    (∃ (n p f : Nat) (s : State), p < 4 ∧ (s.port p).pauseFrom = some f ∧ (s.at n).paused p = true ∧ s.get (PRT_Pn_PAUSE_LIMIT.MS p) * msec < (s.at
      n).now - f) ∧
    (∃ (n p a f : Nat) (s : State), p < 4 ∧ (s.port p).pauseTo = some a ∧ a ≤ (s.at n).now ∧ (s.port p).pauseFrom = some f) ∧
    (∃ (p target : Nat) (s : State), p < 4 ∧ target = s.get (PRT_Pn_IP.ADDR p) ∧ target ≠ 0 ∧ s.get (PRT_Pn_STATUS.LINK p) = 1 ∧ s.asleep = false) ∧
    (∃ (target : Nat) (s : State), target = s.get ENG_MGMT_ACTIVE_IP.ADDR ∧ target ≠ 0 ∧ s.asleep = false) ∧
    (∃ (s : State), s.asleep = true) ∧
    (∃ (c ip : Nat) (s : State), s.chanOn c = true ∧ s.get (PRT_CHn_DST_MAC_HI.STATIC c) = 0 ∧ s.nextHop c = ip ∧ s.get (PRT_Pn_STATUS.LINK (c / 4)) =
      1) ∧
    (∃ (n c : Nat) (s : State), s.chanOn c = true ∧ s.get (PRT_CHn_DST_MAC_HI.STATIC c) = 0 ∧ s.get (PRT_Pn_STATUS.LINK (c / 4)) = 1 ∧ (s.at
      n).arpFind (c / 4) (s.nextHop c) = none ∧ (s.chan c).arpAt = none) ∧
    (∃ (n c a : Nat) (s : State), s.chanOn c = true ∧ s.get (PRT_CHn_DST_MAC_HI.STATIC c) = 0 ∧ s.get (PRT_Pn_STATUS.LINK (c / 4)) = 1 ∧ (s.at
      n).arpFind (c / 4) (s.nextHop c) = none ∧ (s.chan c).arpAt = some a ∧ (s.chan c).arpFailed = false ∧ a + sec ≤ (s.at n).now ∧ 3 ≤ (s.chan
      c).arpTries) ∧
    (∃ (n p : Nat) (s : State), p < 4 ∧ s.get (PRT_Pn_STATUS.LINK p) = 1 ∧ s.asleep = false ∧ ((s.at n).lastSecond (s.port p).echoes).length < 10) ∧
    (∃ (n p : Nat) (s : State), p < 4 ∧ 10 ≤ ((s.at n).lastSecond (s.port p).echoes).length) ∧
    (∃ (n : Nat) (s : State), s.get ENG_MGMT_ACTIVE_IP.ADDR ≠ 0 ∧ s.asleep = false ∧ ((s.at n).lastSecond s.tmp.echoes).length < 10) ∧
    (∃ (p : Nat), p < 4) :=
  ⟨⟨1, 0, 100, [(0,100)], false, st [(PRT_Pn_STATUS.LINK 1,1),(PRT_Pn_CTRL.FC_MODE 1,1)], by decide +kernel⟩,
   ⟨1, true, st [(PRT_Pn_CTRL.FC_MODE 1,1)], by decide +kernel⟩,
   ⟨1000*sec, 1, 0, { st [] with prt.ports := List.replicate 4 { pauseTo := some (2000 * sec), pauseFrom := some 0 } }, by decide +kernel⟩,
   ⟨100, 1, 50, 10, { st [] with prt.ports := List.replicate 4 { pauseTo := some 50, pauseFrom := some 10 } }, by decide +kernel⟩,
   ⟨1, 7, st [(PRT_Pn_STATUS.LINK 1,1),(PRT_Pn_IP.ADDR 1,7)], by decide +kernel⟩,
   ⟨7, st [(ENG_MGMT_ACTIVE_IP.ADDR,7)], by decide +kernel⟩,
   ⟨st [(PWR_STATUS.STATE,4)], by decide +kernel⟩,
   ⟨5, 9, st [(PRT_Pn_STATUS.LINK 1,1),(PRT_CHn_CTRL.EN 5,1),(PRT_CHn_DST_IP.ADDR 5,9)], by decide +kernel⟩,
   ⟨0, 5, st [(PRT_Pn_STATUS.LINK 1,1),(PRT_CHn_CTRL.EN 5,1),(PRT_CHn_DST_IP.ADDR 5,9)], by decide +kernel⟩,
   ⟨10*sec, 5, 0,
    { st [(PRT_Pn_STATUS.LINK 1,1),(PRT_CHn_CTRL.EN 5,1),(PRT_CHn_DST_IP.ADDR 5,9)] with prt.chans := List.replicate 16 { arpAt := some 0, arpTries := 3 } },
    by decide +kernel⟩,
   ⟨0, 1, st [(PRT_Pn_STATUS.LINK 1,1)], by decide +kernel⟩,
   ⟨0, 1, { st [] with prt.ports := List.replicate 4 { echoes := List.replicate 10 0 } }, by decide +kernel⟩,
   ⟨0, st [(ENG_MGMT_ACTIVE_IP.ADDR,7)], by decide +kernel⟩,
   ⟨1, by decide +kernel⟩⟩

theorem witness_ChannelsSend :
    (∃ (n c : Nat) (e : Entry) (s : State), s.chanOn c = true ∧ s.get (PRT_CHn_CTRL.TRANSPORT c) = 1 ∧ (s.at n).myTurn c = true ∧ s.nextEntry c = some
      e ∧ (s.chan c).idx + 1 ≠ e.recCount s.image c) ∧
    (∃ (n c : Nat) (e : Entry) (s : State), s.chanOn c = true ∧ s.get (PRT_CHn_CTRL.TRANSPORT c) = 1 ∧ (s.at n).myTurn c = true ∧ s.nextEntry c = some
      e ∧ (s.chan c).idx + 1 = e.recCount s.image c) ∧
    (∃ (n c : Nat) (s : State), s.chanOn c = true ∧ s.get (PRT_CHn_CTRL.TRANSPORT c) = 1 ∧ s.get (PRT_Pn_STATUS.LINK (c / 4)) = 1 ∧ (s.at n).paused (c
      / 4) = false ∧ s.get PWR_STATUS.STATE ≤ 1 ∧ ((s.at n).macOf c).isSome = true ∧ (s.chan c).lastSent + sec ≤ (s.at n).now ∧ (s.port (c /
      4)).busyTo ≤ (s.at n).now) ∧
    (∃ (n c : Nat) (e : Entry) (s : State), s.chanOn c = true ∧ s.get (PRT_CHn_CTRL.TRANSPORT c) = 2 ∧ (s.at n).myTurn c = true ∧ s.nextEntry c = some
      e) :=
  ⟨⟨0, 5, { no := 1, complete := true, shares := [5], regions := [{ chan := 5, tiles := 1, x0 := 0, w := 2, h := 1 }], pix := [[1, 2]], bpp := 2 },
    { up .stare [(PRT_Pn_STATUS.LINK 1,1),(PRT_CHn_CTRL.EN 5,1),(PRT_CHn_CTRL.TRANSPORT 5,1),(PRT_CHn_DST_MAC_HI.STATIC 5,1)] with prt.entries := [({ no := 1, complete := true, shares := [5], regions := [{ chan := 5, tiles := 1, x0 := 0, w := 2, h := 1 }], pix := [[1, 2]], bpp := 2 })] },
    by decide +kernel⟩,
   ⟨0, 5, { no := 1, complete := true, shares := [5], regions := [{ chan := 5, tiles := 1, x0 := 0, w := 2, h := 1 }], pix := [[1, 2]], bpp := 2 },
    { up .stare [(PRT_Pn_STATUS.LINK 1,1),(PRT_CHn_CTRL.EN 5,1),(PRT_CHn_CTRL.TRANSPORT 5,1),(PRT_CHn_DST_MAC_HI.STATIC 5,1)] with prt.entries := [({ no := 1, complete := true, shares := [5], regions := [{ chan := 5, tiles := 1, x0 := 0, w := 2, h := 1 }], pix := [[1, 2]], bpp := 2 })], prt.chans := List.replicate 16 { cur := some 1, idx := 4 } },
    by decide +kernel⟩,
   ⟨2*sec, 5, up .stare [(PRT_Pn_STATUS.LINK 1,1),(PRT_CHn_CTRL.EN 5,1),(PRT_CHn_CTRL.TRANSPORT 5,1),(PRT_CHn_DST_MAC_HI.STATIC 5,1)],
     by decide +kernel⟩,
   ⟨0, 5, { no := 1, complete := true, shares := [5], regions := [{ chan := 5, tiles := 1, x0 := 0, w := 2, h := 1 }], pix := [[1, 2]], bpp := 2 },
    { up .stare [(PRT_Pn_STATUS.LINK 1,1),(PRT_CHn_CTRL.EN 5,1),(PRT_CHn_CTRL.TRANSPORT 5,2),(PRT_CHn_DST_MAC_HI.STATIC 5,1),(PRT_CHn_QP_STATE.STATE 5,1),(PRT_CHn_RDMA_CFG.PMTU 5,1),(PRT_CHn_RDMA_SLOT.SLOTS 5,4),(PRT_CHn_RDMA_SLOT.SLOT_PAGES 5,4)] with prt.entries := [({ no := 1, complete := true, shares := [5], regions := [{ chan := 5, tiles := 1, x0 := 0, w := 2, h := 1 }], pix := [[1, 2]], bpp := 2 })] },
    by decide +kernel⟩⟩

theorem witness_QueuePairs :
    (∃ (c psn no k : Nat) (e : Entry) (s : State), s.qpLive c = true ∧ s.get (PRT_Pn_STATUS.LINK (c / 4)) = 1 ∧ k = (s.chan c).covers (psn % 2 ^ 24) +
      1 ∧ (s.chan c).acked < k ∧ k ≤ (s.chan c).sent ∧ (s.chan c).cur = some no ∧ s.prt.entries.find? (fun x => x.no == no && x.shares.contains c) =
      some e ∧ k ≠ s.chanPackets c e) ∧
    (∃ (c psn no k : Nat) (e : Entry) (s : State), s.qpLive c = true ∧ s.get (PRT_Pn_STATUS.LINK (c / 4)) = 1 ∧ k = (s.chan c).covers (psn % 2 ^ 24) +
      1 ∧ (s.chan c).acked < k ∧ k ≤ (s.chan c).sent ∧ (s.chan c).cur = some no ∧ s.prt.entries.find? (fun x => x.no == no && x.shares.contains c) =
      some e ∧ k = s.chanPackets c e) ∧
    (∃ (c syn : Nat) (s : State), s.qpLive c = true ∧ s.get (PRT_Pn_STATUS.LINK (c / 4)) = 1 ∧ 0x61 ≤ syn ∧ syn ≤ 0x63) ∧
    (∃ (n c a : Nat) (s : State), s.qpLive c = true ∧ s.get (PRT_Pn_STATUS.LINK (c / 4)) = 1 ∧ (s.chan c).timerAt = some a ∧ 100 * a + 65536 * 2 ^
      s.get (PRT_CHn_RDMA_CFG.TIMEOUT c) ≤ 100 * (s.at n).now ∧ (s.chan c).attempts ≤ s.get (PRT_CHn_RDMA_CFG.RETRY c)) ∧
    (∃ (n c a : Nat) (s : State), s.qpLive c = true ∧ s.get (PRT_Pn_STATUS.LINK (c / 4)) = 1 ∧ (s.chan c).timerAt = some a ∧ 100 * a + 65536 * 2 ^
      s.get (PRT_CHn_RDMA_CFG.TIMEOUT c) ≤ 100 * (s.at n).now ∧ s.get (PRT_CHn_RDMA_CFG.RETRY c) < (s.chan c).attempts) ∧
    (∃ (n c : Nat) (s : State), s.qpLive c = true ∧ (∀ a, (s.chan c).cutAt = some a → a + 50 * us ≤ (s.at n).now)) ∧
    (∃ (n c : Nat) (s : State), s.qpLive c = true ∧ (s.chan c).alphaAt + 55 * us ≤ (s.at n).now) ∧
    (∃ (n c : Nat) (s : State), s.qpLive c = true ∧ (s.chan c).rateAt + 300 * us ≤ (s.at n).now ∧ c < s.prt.chans.length ∧ (s.chan c).k < 5) :=
  ⟨⟨5, 0, 1, 1,
    { no := 1, complete := true, shares := [5], regions := [{ chan := 5, tiles := 1, x0 := 0, w := 400, h := 400 }], pix := [[1, 2]], bpp := 2 },
    { up .stare [(PRT_Pn_STATUS.LINK 1,1),(PRT_CHn_CTRL.EN 5,1),(PRT_CHn_CTRL.TRANSPORT 5,2),(PRT_CHn_DST_MAC_HI.STATIC 5,1),(PRT_CHn_QP_STATE.STATE 5,1),(PRT_CHn_RDMA_CFG.PMTU 5,1)] with prt.entries := [({ no := 1, complete := true, shares := [5], regions := [{ chan := 5, tiles := 1, x0 := 0, w := 400, h := 400 }], pix := [[1, 2]], bpp := 2 })], prt.chans := List.replicate 16 { cur := some 1, sent := 1 } },
    by decide +kernel⟩,
   ⟨5, 4, 1, 5,
    { no := 1, complete := true, shares := [5], regions := [{ chan := 5, tiles := 1, x0 := 0, w := 2, h := 1 }], pix := [[1, 2]], bpp := 2 },
    { up .stare [(PRT_Pn_STATUS.LINK 1,1),(PRT_CHn_CTRL.EN 5,1),(PRT_CHn_CTRL.TRANSPORT 5,2),(PRT_CHn_DST_MAC_HI.STATIC 5,1),(PRT_CHn_QP_STATE.STATE 5,1),(PRT_CHn_RDMA_CFG.PMTU 5,1)] with prt.entries := [({ no := 1, complete := true, shares := [5], regions := [{ chan := 5, tiles := 1, x0 := 0, w := 2, h := 1 }], pix := [[1, 2]], bpp := 2 })], prt.chans := List.replicate 16 { cur := some 1, sent := 5 } },
    by decide +kernel⟩,
   ⟨5, 0x61, up .stare [(PRT_Pn_STATUS.LINK 1,1),(PRT_CHn_CTRL.EN 5,1),(PRT_CHn_CTRL.TRANSPORT 5,2),(PRT_CHn_DST_MAC_HI.STATIC
     5,1),(PRT_CHn_QP_STATE.STATE 5,1),(PRT_CHn_RDMA_CFG.PMTU 5,1)], by decide +kernel⟩,
   ⟨sec, 5, 0,
    { up .stare [(PRT_Pn_STATUS.LINK 1,1),(PRT_CHn_CTRL.EN 5,1),(PRT_CHn_CTRL.TRANSPORT 5,2),(PRT_CHn_DST_MAC_HI.STATIC 5,1),(PRT_CHn_QP_STATE.STATE 5,1),(PRT_CHn_RDMA_CFG.PMTU 5,1),(PRT_CHn_RDMA_CFG.RETRY 5,3),(PRT_CHn_RDMA_CFG.TIMEOUT 5,8)] with prt.chans := List.replicate 16 { timerAt := some 0 } },
    by decide +kernel⟩,
   ⟨sec, 5, 0,
    { up .stare [(PRT_Pn_STATUS.LINK 1,1),(PRT_CHn_CTRL.EN 5,1),(PRT_CHn_CTRL.TRANSPORT 5,2),(PRT_CHn_DST_MAC_HI.STATIC 5,1),(PRT_CHn_QP_STATE.STATE 5,1),(PRT_CHn_RDMA_CFG.PMTU 5,1),(PRT_CHn_RDMA_CFG.RETRY 5,3),(PRT_CHn_RDMA_CFG.TIMEOUT 5,8)] with prt.chans := List.replicate 16 { timerAt := some 0, attempts := 4 } },
    by decide +kernel⟩,
   ⟨0, 5, up .stare [(PRT_Pn_STATUS.LINK 1,1),(PRT_CHn_CTRL.EN 5,1),(PRT_CHn_CTRL.TRANSPORT 5,2),(PRT_CHn_DST_MAC_HI.STATIC
     5,1),(PRT_CHn_QP_STATE.STATE 5,1),(PRT_CHn_RDMA_CFG.PMTU 5,1)], by decide +kernel⟩,
   ⟨sec, 5, up .stare [(PRT_Pn_STATUS.LINK 1,1),(PRT_CHn_CTRL.EN 5,1),(PRT_CHn_CTRL.TRANSPORT 5,2),(PRT_CHn_DST_MAC_HI.STATIC
     5,1),(PRT_CHn_QP_STATE.STATE 5,1),(PRT_CHn_RDMA_CFG.PMTU 5,1)], by decide +kernel⟩,
   ⟨sec, 5, up .stare [(PRT_Pn_STATUS.LINK 1,1),(PRT_CHn_CTRL.EN 5,1),(PRT_CHn_CTRL.TRANSPORT 5,2),(PRT_CHn_DST_MAC_HI.STATIC
     5,1),(PRT_CHn_QP_STATE.STATE 5,1),(PRT_CHn_RDMA_CFG.PMTU 5,1)], by decide +kernel⟩⟩

theorem witness_ChannelRegisters :
    (∃ (c v : Nat) (s : State), s.takes (0xC0800 + 0x80 * c) = true ∧ c < 16 ∧ s.sys.mode ≠ .load ∧ s.get (PRT_CHn_CTRL.EN c) = 0 ∧ (PRT_CHn_CTRL.EN
      c).ofWord v = 1 ∧ (PRT_CHn_CTRL.TRANSPORT c).ofWord v = 1) ∧
    (∃ (c v : Nat) (s : State), s.takes (0xC0800 + 0x80 * c) = true ∧ c < 16 ∧ s.sys.mode ≠ .load ∧ s.get (PRT_CHn_CTRL.EN c) = 0 ∧ (PRT_CHn_CTRL.EN
      c).ofWord v = 1 ∧ (PRT_CHn_CTRL.TRANSPORT c).ofWord v = 2 ∧ s.rdmaRefuse c = 0) ∧
    (∃ (c v : Nat) (s : State), s.takes (0xC0800 + 0x80 * c) = true ∧ c < 16 ∧ s.sys.mode ≠ .load ∧ ((PRT_CHn_CTRL.TRANSPORT c).ofWord v = 3 ∨
      (PRT_CHn_CTRL.EN c).ofWord v = 1 ∧ (PRT_CHn_CTRL.TRANSPORT c).ofWord v = 0)) ∧
    (∃ (c v : Nat) (s : State), s.takes (0xC0800 + 0x80 * c) = true ∧ c < 16 ∧ s.sys.mode ≠ .load ∧ s.get (PRT_CHn_CTRL.EN c) = 0 ∧ (PRT_CHn_CTRL.EN
      c).ofWord v = 1 ∧ (PRT_CHn_CTRL.TRANSPORT c).ofWord v = 2 ∧ s.rdmaRefuse c ≠ 0) ∧
    (∃ (c v : Nat) (s : State), s.takes (0xC0800 + 0x80 * c) = true ∧ c < 16 ∧ s.sys.mode ≠ .load ∧ s.get (PRT_CHn_CTRL.EN c) = 1 ∧ (PRT_CHn_CTRL.EN
      c).ofWord v = 0 ∧ (PRT_CHn_CTRL.TRANSPORT c).ofWord v ≠ 3 ∧ s.get (PRT_CHn_QP_STATE.STATE c) ≠ 2) ∧
    (∃ (c v : Nat) (s : State), s.takes (0xC0850 + 0x80 * c) = true ∧ c < 16 ∧ s.sys.mode ≠ .load ∧ (v % 2 ^ 32 + 2 ^ 32 - s.get (PRT_CHn_CONS.CONS
      c)) % 2 ^ 32 ≤ (s.get (PRT_CHn_PROD.PROD c) + 2 ^ 32 - s.get (PRT_CHn_CONS.CONS c)) % 2 ^ 32) ∧
    (∃ (c v : Nat) (s : State), s.takes (0xC0850 + 0x80 * c) = true ∧ c < 16 ∧ s.sys.mode ≠ .load ∧ (s.get (PRT_CHn_PROD.PROD c) + 2 ^ 32 - s.get
      (PRT_CHn_CONS.CONS c)) % 2 ^ 32 < (v % 2 ^ 32 + 2 ^ 32 - s.get (PRT_CHn_CONS.CONS c)) % 2 ^ 32) ∧
    (∃ (p : Nat) (s : State), s.takes (0xC0108 + 0x100 * p) = true ∧ p < 4 ∧ s.sys.mode ≠ .load ∧ s.portOn p = false) ∧
    (∃ (c : Nat) (s : State), s.takes (0xC0808 + 0x80 * c) = true ∧ c < 16 ∧ s.sys.mode ≠ .load ∧ s.get (PRT_CHn_CTRL.EN c) = 0) ∧
    (∃ (s : State), s.takes 0xC0030 = true) :=
  ⟨⟨5, 1 + 2 ^ (PRT_CHn_CTRL.TRANSPORT 5).lsb, up .stare [], by decide +kernel⟩,
   ⟨5, 1 + 2 * 2 ^ (PRT_CHn_CTRL.TRANSPORT 5).lsb,
    { up .stare [(PRT_CHn_RDMA_SLOT.SLOT_PAGES 5,4096),(PRT_CHn_RDMA_SLOT.SLOTS 5,2),(PRT_CHn_RDMA_LEN.LEN 5,4096*4096*2),(PRT_CHn_RDMA_CFG.PMTU 5,1),(PRT_CHn_RDMA_CFG.TIMEOUT 5,8),(PRT_CHn_DST_IP.ADDR 5,9)] with pending := [] },
    by decide +kernel⟩,
   ⟨5, 1, up .stare [(PRT_CHn_CTRL.EN 5,1)], by decide +kernel⟩,
   ⟨5, 1 + 2 * 2 ^ (PRT_CHn_CTRL.TRANSPORT 5).lsb, up .stare [], by decide +kernel⟩,
   ⟨5, 0, up .stare [(PRT_CHn_CTRL.EN 5,1)], by decide +kernel⟩,
   ⟨5, 2, up .stare [(PRT_CHn_PROD.PROD 5,3),(PRT_CHn_CONS.CONS 5,1)], by decide +kernel⟩,
   ⟨5, 7, up .stare [(PRT_CHn_PROD.PROD 5,3)], by decide +kernel⟩,
   ⟨1, up .stare [], by decide +kernel⟩,
   ⟨5, up .stare [], by decide +kernel⟩,
   ⟨st [], by decide +kernel⟩⟩

theorem witness_Capture :
    (∃ (v : Nat) (s : State), s.takes 0xC0000 = true ∧ s.sys.mode ≠ .load ∧ s.sys.run = false ∧ s.get PRT_BB_STATE.CAP = 0 ∧ PRT_BB_CTRL.MODE.ofWord v
      ≠ 3 ∧ PRT_BB_CTRL.LIVE_DEPTH.ofWord v ≠ 0) ∧
    (∃ (s : State), s.takes 0xC0008 = true ∧ s.imaging = true ∧ s.get PRT_BB_CTRL.MODE = 2 ∧ s.get PRT_BB_STATE.CAP = 0) ∧
    (∃ (s : State), s.takes 0xC0008 = true ∧ (s.imaging = false ∨ s.get PRT_BB_CTRL.MODE ≠ 2 ∨ s.get PRT_BB_STATE.CAP ≠ 0)) ∧
    (∃ (s : State), s.takes 0xC0008 = true ∧ s.get PRT_BB_STATE.CAP = 1) ∧
    (∃ (s : State), s.takes 0xC0008 = true ∧ s.get PRT_BB_STATE.CAP = 2) ∧
    (∃ (n : Nat) (s : State), s.get PRT_BB_STATE.CAP = 1 ∧ s.sys.run = true ∧ (s.at n).atBoundary = true ∧ s.prt.armAt + 50 * us ≤ 16 * ((s.at n).now
      / 16)) ∧
    (∃ (s : State), s.get PRT_BB_STATE.CAP = 2 ∧ s.get PRT_BB_CAP_FRAMES.COUNT ≠ 0 ∧ s.get PRT_BB_CAP_FRAMES.COUNT ≤ s.get PRT_BB_CAPTURED.COUNT ∧
      s.prt.entries.any (·.captured) = true) ∧
    (∃ (s : State), s.get PRT_BB_STATE.CAP = 2 ∧ s.sys.run = false ∧ s.prt.entries.any (·.captured) = false) ∧
    (∃ (n : Nat) (s : State), (s.get PRT_BB_STATE.CAP ≠ 1 ∨ s.sys.run = false ∨ (s.at n).atBoundary = false)) ∧
    (∃ (s : State), s.get PRT_BB_STATE.CAP ≠ 2) :=
  ⟨⟨1 + 2 ^ PRT_BB_CTRL.LIVE_DEPTH.lsb, up .stare [], by decide +kernel⟩,
   ⟨up .stare [(PRT_BB_CTRL.MODE,2)], by decide +kernel⟩,
   ⟨up .stare [], by decide +kernel⟩,
   ⟨up .stare [(PRT_BB_STATE.CAP,1)], by decide +kernel⟩,
   ⟨up .stare [(PRT_BB_STATE.CAP,2)], by decide +kernel⟩,
   ⟨16000, { up .stare [(PRT_BB_STATE.CAP,1)] with sys.run := true, fpl.lastB := some 16000 }, by decide +kernel⟩,
   ⟨{ up .stare [(PRT_BB_STATE.CAP,2),(PRT_BB_CAP_FRAMES.COUNT,1),(PRT_BB_CAPTURED.COUNT,1)] with sys.run := true, prt.entries := [{ no := 1, captured := true }] },
    by decide +kernel⟩,
   ⟨up .stare [(PRT_BB_STATE.CAP,2)], by decide +kernel⟩,
   ⟨16000, st [], by decide +kernel⟩,
   ⟨st [], by decide +kernel⟩⟩

theorem witness_FlushDiscards :
    (∃ (s : State), s.takes 0xC0008 = true ∧ s.sys.run = false) ∧
    (∃ (s : State), s.takes 0xC0008 = true ∧ s.sys.run = true) :=
  ⟨⟨up .stare [], by decide +kernel⟩,
   ⟨{ up .stare [] with sys.run := true }, by decide +kernel⟩⟩

theorem witness_TmpSessions :
    (∃ (q : TmpReq) (s : State), s.get PWR_STATUS.STATE < 4 ∧ s.tmpUp = true ∧ s.sys.recovery = false ∧ headerBad 1 q = none ∧ s.aclOk q.srcIp = true
      ∧ s.tmp.sessions.length < 4 ∧ (∀ e ∈ s.tmp.sessions, e.ip ≠ q.srcIp ∨ e.port ≠ q.srcPort) ∧ (nth 0 q.payload 0 = 0 ∨ ∀ e ∈ s.tmp.sessions,
      e.role = 0)) ∧
    (∃ (q : TmpReq) (e : Sess) (k : List Nat) (s : State), Served 2 q e s ∧ s.sys.recovery = false ∧ e.role = 1 ∧ s.custKey (leVal (q.payload.take 2))
      = some k ∧ edVerify k (q.payload.drop 4) (authMessage e.no e.nonce) = true) ∧
    (∃ (q : TmpReq) (e : Sess) (k : List Nat) (s : State), Served 2 q e s ∧ s.sys.recovery = false ∧ e.role = 1 ∧ s.custKey (leVal (q.payload.take 2))
      = some k ∧ edVerify k (q.payload.drop 4) (authMessage e.no e.nonce) = false) ∧
    (∃ (q : TmpReq) (e : Sess) (k : List Nat) (s : State), Served 9 q e s ∧ s.sys.recovery = false ∧ e.role = 2 ∧ s.custKey (tkKey q.payload) = some k
      ∧ edVerify k (tkSig q.payload) (tokenMessage q.payload) = true ∧ tkCount q.payload = s.tally (tkSetting q.payload) + 1 ∧ s.tally (tkSetting
      q.payload) < tallyTotal (tkSetting q.payload)) ∧
    (∃ (q : TmpReq) (e : Sess) (s : State), Served 3 q e s) ∧
    (∃ (q : TmpReq) (e : Sess) (s : State), Served 10 q e s ∧ e.role ≠ 1) ∧
    (∃ (d : List Nat) (s : State), d.length < 24 ∧ s.tmpUp = true) ∧
    (∃ (q : TmpReq) (e : Sess) (s : State), s.get PWR_STATUS.STATE < 4 ∧ s.tmpUp = true ∧ headerBad 5 q = none ∧ s.sessOf q = some e ∧ s.tmp.waits =
      [] ∧ q.seq = e.seq) ∧
    (∃ (q : TmpReq) (e : Sess) (s : State), s.get PWR_STATUS.STATE < 4 ∧ s.tmpUp = true ∧ headerBad 10 q = none ∧ s.sessOf q = some e ∧ s.tmp.waits =
      [] ∧ q.seq ≠ e.seq ∧ q.seq ≠ (e.seq + 1) % 2 ^ 32) ∧
    (∃ (s : State), 4 ≤ s.get PWR_STATUS.STATE) :=
  ⟨⟨{ srcIp := 1, srcPort := 2, count := 0, payload := [0, 0, 0, 0] }, { up .stare [(ENG_ACL_PREFIX.LEN,0)] with sys.stages := [1, 2, 3] },
    by decide +kernel⟩,
   ⟨{ srcIp := 1, srcPort := 2, session := 7, seq := 1, payload := leBytes 4 1 ++ idPoint ++ List.replicate 32 0 }, cust0, idPoint,
    { up .stare [] with sys.stages := [1, 2, 3], tmp.sessions := [cust0], bring.fw := { custKeys := [{ id := 1, key := idPoint, revoked := false }] } },
    by unfold Served; decide +kernel, by decide +kernel, by decide +kernel, by decide +kernel, edVerify_id _⟩,
   ⟨{ srcIp := 1, srcPort := 2, session := 7, seq := 1, payload := leBytes 4 1 ++ List.replicate 64 0xFF }, cust0, idPoint,
    { up .stare [] with sys.stages := [1, 2, 3], tmp.sessions := [cust0], bring.fw := { custKeys := [{ id := 1, key := idPoint, revoked := false }] } },
    by unfold Served; decide +kernel, by decide +kernel, by decide +kernel, by decide +kernel, edVerify_bad _⟩,
   ⟨{ srcIp := 1, srcPort := 2, session := 7, seq := 1, payload := leBytes 4 0x4B4F5454 ++ [3, 0, 1, 0, 1, 0, 1, 0, 0, 0, 0, 0] ++ [0] ++ idPoint ++ List.replicate 32 0 },
    { cust0 with role := 2 }, idPoint,
    { up .stare [] with sys.stages := [1, 2, 3], tmp.sessions := [({ cust0 with role := 2 })], bring.fw := { custKeys := [{ id := 1, key := idPoint, revoked := false }] } },
    by unfold Served; decide +kernel, by decide +kernel, by decide +kernel, by decide +kernel, edVerify_id _, by decide +kernel⟩,
   ⟨{ srcIp := 1, srcPort := 2, session := 7, seq := 1 }, oper, { up .stare [] with sys.stages := [1, 2, 3], tmp.sessions := [oper] },
    by unfold Served; decide +kernel⟩,
   ⟨{ srcIp := 1, srcPort := 2, session := 7, seq := 1 }, oper, { up .stare [] with sys.stages := [1, 2, 3], tmp.sessions := [oper] },
    by unfold Served; decide +kernel, by decide +kernel⟩,
   ⟨[], { up .stare [] with sys.stages := [1, 2, 3] }, by decide +kernel⟩,
   ⟨{ srcIp := 1, srcPort := 2, session := 7, seq := 1, addr := 0xC0004, count := 1, payload := leBytes 4 9 }, { oper with seq := 1, held := [5] },
    { up .stare [] with sys.stages := [1, 2, 3], tmp.sessions := [({ oper with seq := 1, held := [5] })] }, by decide +kernel⟩,
   ⟨{ srcIp := 1, srcPort := 2, session := 7, seq := 5 }, oper, { up .stare [] with sys.stages := [1, 2, 3], tmp.sessions := [oper] },
    by decide +kernel⟩,
   ⟨st [(PWR_STATUS.STATE,4)], by decide +kernel⟩⟩

theorem witness_TmpAccess :
    (∃ (q : TmpReq) (e : Sess) (s : State), Served 4 q e s ∧ s.sys.recovery = false ∧ e.role ≠ 1 ∧ q.addr = 0xC0004 ∧ q.count = 1) ∧
    (∃ (q : TmpReq) (e : Sess) (s : State), Served 4 q e s ∧ s.sys.recovery = false ∧ e.role ≠ 1 ∧ q.addr + 4 * q.count ≤ 0x100000) ∧
    (∃ (v : Nat) (q : TmpReq) (e : Sess) (s : State), Served 5 q e s ∧ s.sys.recovery = false ∧ e.role ≠ 1 ∧ q.addr = 0xC0004 ∧ q.count = 1 ∧ byteWord
      q.payload 0 = v ∧ v < 2 ^ 32 ∧ s.sys.mode ≠ .load) ∧
    (∃ (m v : Nat) (q : TmpReq) (e : Sess) (s : State), Served 6 q e s ∧ s.sys.recovery = false ∧ e.role ≠ 1 ∧ q.addr = 0xC0004 ∧ byteWord q.payload 0
      = m ∧ byteWord q.payload 1 = v ∧ m < 2 ^ 32 ∧ v < 2 ^ 32 ∧ s.get PRT_BB_CAP_FRAMES.COUNT < 2 ^ 32 ∧ s.sys.mode ≠ .load) ∧
    (∃ (o : Nat) (q : TmpReq) (e : Sess) (s : State), Served 7 q e s ∧ s.sys.recovery = false ∧ e.role ≠ 1 ∧ windowOf q.addr q.count = some (true, o)) ∧
    (∃ (o : Nat) (q : TmpReq) (e : Sess) (s : State), Served 8 q e s ∧ e.role ≠ 1 ∧ windowOf q.addr q.count = some (true, o) ∧ s.stagingBusy = false) :=
  ⟨⟨{ srcIp := 1, srcPort := 2, session := 7, seq := 1, addr := 0xC0004, count := 1 }, oper,
    { up .stare [] with sys.stages := [1, 2, 3], tmp.sessions := [oper] }, by unfold Served; decide +kernel, by decide +kernel⟩,
   ⟨{ srcIp := 1, srcPort := 2, session := 7, seq := 1, addr := 0xC0000, count := 2 }, oper,
    { up .stare [] with sys.stages := [1, 2, 3], tmp.sessions := [oper] }, by unfold Served; decide +kernel, by decide +kernel⟩,
   ⟨9, { srcIp := 1, srcPort := 2, session := 7, seq := 1, addr := 0xC0004, count := 1, payload := leBytes 4 9 }, oper,
    { up .stare [] with sys.stages := [1, 2, 3], tmp.sessions := [oper] }, by unfold Served; decide +kernel, by decide +kernel⟩,
   ⟨15, 9, { srcIp := 1, srcPort := 2, session := 7, seq := 1, addr := 0xC0004, count := 1, payload := leBytes 4 15 ++ leBytes 4 9 }, oper,
    { up .stare [] with sys.stages := [1, 2, 3], tmp.sessions := [oper] }, by unfold Served; decide +kernel, by decide +kernel⟩,
   ⟨8, { srcIp := 1, srcPort := 2, session := 7, seq := 1, addr := 0x10000008, count := 4 }, oper,
    { up .stare [] with sys.stages := [1, 2, 3], tmp.sessions := [oper] }, by unfold Served; decide +kernel, by decide +kernel⟩,
   ⟨8, { srcIp := 1, srcPort := 2, session := 7, seq := 1, addr := 0x10000008, count := 4, payload := [1, 2, 3, 4] }, oper,
    { up .stare [] with sys.stages := [1, 2, 3], tmp.sessions := [oper] }, by unfold Served; decide +kernel, by decide +kernel⟩⟩

theorem witness_StoreWork :
    (∃ (r : JRec) (rest : List Prog) (s : State), s.nvs.progs = .journal r none :: rest ∧ r.type ≠ 0x31 ∧ r.type ≠ 0x42) ∧
    (∃ (j : EraseJ) (rest : List EraseJ) (s : State), s.nvs.erasing = j :: rest ∧ s.intentWaits j = false ∧ j.slot = none ∧ j.region ≠ 5 ∧ s.erases
      j.phys < 99999 ∧ s.nv.retired.contains j.phys = false) ∧
    (∃ (j : EraseJ) (rest : List EraseJ) (s : State), s.nvs.erasing = j :: rest ∧ s.intentWaits j = false ∧ j.slot = none ∧ s.nv.spareUsed + 257 ≤
      spareBlocks ∧ s.get PWR_STATUS.PFW = 0) ∧
    (∃ (s : State), s.sys.run = false ∧ s.get NVS_STATUS.STORE_OK = 1 ∧ s.nv.spareUsed + 257 ≤ spareBlocks) ∧
    (∃ (s : State), s.nv.jfree < 16 ∧ s.get PWR_STATUS.PFW = 0 ∧ s.get NVS_STATUS.STORE_OK = 1) :=
  ⟨⟨⟨0x10, [1], 1, 1, 1, true, false⟩, [], { st [] with nvs.progs := [.journal (⟨0x10, [1], 1, 1, 1, true, false⟩) none] }, by decide +kernel⟩,
   ⟨{ phys := 300, region := 2 }, [], { st [] with nvs.erasing := [({ phys := 300, region := 2 })] }, by decide +kernel⟩,
   ⟨{ phys := 300, region := 2 }, [], { st [] with nvs.erasing := [({ phys := 300, region := 2 })] }, by decide +kernel⟩,
   ⟨up .stare [(NVS_STATUS.STORE_OK,1)], by decide +kernel⟩,
   ⟨{ up .stare [(NVS_STATUS.STORE_OK,1)] with nv.jfree := 3 }, by decide +kernel⟩⟩

theorem witness_ShutdownAndPanel :
    (∃ (s : State), s.takes 0xE0004 = true ∧ s.sys.recovery = false ∧ (s.ready = true ∨ s.sys.mode = .quarantine) ∧ s.opBusy = false ∧ s.get
      PWR_STATUS.PFW = 0 ∧ s.nvs.drive = none ∧ s.nvs.driveWait = [] ∧ s.nvs.stale = false) ∧
    (∃ (s : State), s.takes 0xE0004 = true ∧ (s.sys.recovery = true ∨ (s.ready = false ∧ s.sys.mode ≠ .quarantine) ∨ s.opBusy = true ∨ s.get
      PWR_STATUS.PFW = 1)) ∧
    (∃ (s : State), s.takes 0xE0004 = true ∧ (s.ready = true ∨ s.sys.mode = .quarantine) ∧ s.opBusy = false ∧ s.get PWR_STATUS.PFW = 0 ∧ s.nvs.drive =
      none ∧ s.nvs.driveWait = [] ∧ s.nvs.stale = false) ∧
    (∃ (r : JRec) (k : Option Nat) (rest : List Prog) (s : State), s.nvs.progs = .journal r k :: rest ∧ r.type = 0x42 ∧ r.comp = false ∧ s.nvs.restart
      = true) ∧
    (∃ (n : Nat) (s : State), s.get NVS_PNL_CTRL.AUTO_EN = 1 ∧ s.get NVS_STATUS.STORE_OK = 1 ∧ s.get PWR_STATUS.STATE ≤ 3 ∧ s.nv.panelShown ≠ (s.at
      n).panelFields ∧ s.nvs.lastAuto = none ∧ s.nvs.drive = none ∧ s.nvs.driveWait = [] ∧ s.nvs.stale = false ∧ s.get PWR_STATUS.PFW = 0) ∧
    (∃ (d : DriveJ) (s : State), s.nvs.drive = some d ∧ (progRecs s.nvs.progs).any (·.type == 0x31) = false) :=
  ⟨⟨up .stare [], by decide +kernel⟩,
   ⟨{ st [] with sys.recovery := true }, by decide +kernel⟩,
   ⟨up .stare [], by decide +kernel⟩,
   ⟨⟨0x42, [1], 1, 1, 1, true, false⟩, none, [], { st [] with nvs.progs := [.journal (⟨0x42, [1], 1, 1, 1, true, false⟩) none], nvs.restart := true },
    by decide +kernel⟩,
   ⟨0, up .stare [(NVS_PNL_CTRL.AUTO_EN,1),(NVS_STATUS.STORE_OK,1)], by decide +kernel⟩,
   ⟨{ seq := 1, kind := 1, purpose := 0 }, { st [] with nvs.drive := some ({ seq := 1, kind := 1, purpose := 0 }) }, by decide +kernel⟩⟩

theorem witness_CountedChanges :
    (∃ (sess : Nat) (s : State), s.takes 0x148 = true ∧ s.sys.mode = .quarantine ∧ s.img.active.isSome = true ∧ s.get ENG_COMPAT.OUTCOME = 1 ∧
      s.sys.escalated = false ∧ s.get IMG_STATUS.OVERRIDE = 0 ∧ s.countedRefusal sess 2 (s.comboRequest s.image) = none ∧ s.get PWR_STATUS.PFW = 0 ∧
      s.nvs.burn = none ∧ s.nvs.burnWait = []) ∧
    (∃ (b : BurnS) (s : State), s.nvs.burn = some b ∧ b.setting = 3 ∧ b.slot = none ∧ s.nvs.burnWait = [] ∧ s.tmp.waits = []) ∧
    (∃ (b : BurnS) (s : State), s.nvs.burn = some b ∧ b.setting = 3 ∧ b.slot = none ∧ s.nvs.burnWait = [] ∧ s.tmp.waits = []) :=
  ⟨⟨7, { up .quarantine [(ENG_COMPAT.OUTCOME,1)] with img.active := some {}, tmp.sessions := [cust ⟨2, 1, 1, State.reset.comboRequest []⟩] },
    by decide +kernel, by decide +kernel, by decide +kernel, by decide +kernel, by decide +kernel, by decide +kernel,
    counted_ok _ ⟨2, 1, 1, _⟩ rfl (by decide +kernel) (by decide +kernel), by decide +kernel⟩,
   ⟨{ setting := 3, cell := 200, count := 1, session := 7, keyId := 1, request := [0], slot := none },
    { st [] with nvs.burn := some ({ setting := 3, cell := 200, count := 1, session := 7, keyId := 1, request := [0], slot := none }) },
    by decide +kernel⟩,
   ⟨{ setting := 3, cell := 200, count := 1, session := 7, keyId := 1, request := [0], slot := none },
    { st [] with nvs.burn := some ({ setting := 3, cell := 200, count := 1, session := 7, keyId := 1, request := [0], slot := none }) },
    by decide +kernel⟩⟩

theorem witness_AcknowledgementAndEscalation :
    (∃ (v : Nat) (s : State), s.takes 0xF0004 = true ∧ ALM_ACK.ALL.ofWord v = 0 ∧ ackable (ALM_ACK.CODE.ofWord v) = true) ∧
    (∃ (v : Nat) (s : State), s.takes 0xF0004 = true ∧ ALM_ACK.ALL.ofWord v = 0 ∧ ackable (ALM_ACK.CODE.ofWord v) = false ∧ s.isActive
      (ALM_ACK.CODE.ofWord v) (ALM_ACK.INST.ofWord v) = true) ∧
    (∃ (v : Nat) (s : State), s.takes 0xF0004 = true ∧ ALM_ACK.ALL.ofWord v = 1) ∧
    (∃ (n a : Nat) (s : State), s.alm.heatSince = some a ∧ a + 60 * sec ≤ (s.at n).now ∧ s.alm.escHeat = false ∧ s.sys.escalated = false ∧ s.isActive
      0x0F01 noInst = false ∧ s.opBusy = false) :=
  ⟨⟨0x0013, st [], by decide +kernel⟩,
   ⟨0x0101, { st [] with alm.active := [⟨ALM_ACK.CODE.ofWord 0x0101, ALM_ACK.INST.ofWord 0x0101, 1, 0, 0, false⟩] }, by decide +kernel⟩,
   ⟨2 ^ ALM_ACK.ALL.lsb, st [], by decide +kernel⟩,
   ⟨60*sec, 0, { st [] with alm.heatSince := some 0 }, by decide +kernel⟩⟩

theorem witness_RegisterWrites :
    (∃ (s : State), s.takes 0xC0004 = true ∧ s.sys.mode ≠ .load) ∧
    (∃ (v : Nat) (s : State), s.takes 0xC002C = true ∧ v < 256) ∧
    (∃ (s : State), s.takes 0xC0010 = true) ∧
    (∃ (v : Nat) (s : State), s.takes CAL_SHUT_PERIOD.S.addr = true ∧ s.sys.mode ≠ .load ∧ (CAL_SHUT_PERIOD.S.ofWord v < 10 ∨ 3600 <
      CAL_SHUT_PERIOD.S.ofWord v)) ∧
    (∃ (k : Nat) (s : State), s.takes (0x40300 + 16 * k) = true ∧ k < 8 ∧ s.sys.mode ≠ .load ∧ s.sys.run = false) :=
  ⟨⟨up .stare [], by decide +kernel⟩,
   ⟨5, st [], by decide +kernel⟩,
   ⟨st [], by decide +kernel⟩,
   ⟨5, up .stare [], by decide +kernel⟩,
   ⟨2, up .stare [], by decide +kernel⟩⟩

theorem witness_QueueTakenInOrder :
    ∃ (s t : State), step s = .next t :=
  ⟨{ st [] with pending := [.fallbackClear 0, .idcode 0] }, { st [] with pending := [.idcode 0] }, rfl⟩

theorem witness_BurntCellsStay :
    ∃ (s t : State) (k : Nat), step s = .next t ∧ s.nv.cells.testBit k = true :=
  ⟨{ st [] with nv.cells := 8 }, { st [] with nv.cells := 8, now := 16, pwr.real := 16 }, 3, rfl, by decide +kernel⟩

theorem witness_RegisterFormKept :
    ∃ (s t : State), s.regsOk ∧ step s = .next t :=
  ⟨st [], { st [] with now := 16, pwr.real := 16 }, by unfold State.regsOk; decide +kernel, rfl⟩

/-! ### Values of the worked examples of spec/ -/

/-- 08: t, y and CORR16 of T1 (500, 700). -/
theorem test_drift_pixel : clampS16 (dtRaw 19500 19508 0 19402) = 408 ∧ dt2 408 = 650 ∧
    accD 23456 ⟨15210, 1843, -410, 17203, -262⟩ 408 = 8634793092 ∧ gainG ⟨15210, 1843, -410, 17203, -262⟩ 408 = 17508976 ∧
    convert 0 8192 {} (corrY 23456 ⟨15210, 1843, -410, 17203, -262⟩ 408 0 0) = (0x4192, 0) := by decide +kernel

/-- 08: the same pixel in TEMP16 and RAD32. -/
theorem test_temp16_rad32 :
    let c : Coef := ⟨15210, 1843, -410, 17203, -262⟩
    let g : TileSet := { tb := 19018, kt := 1677722, lb := 0x421A0000, kr := 0x3A800000 }
    convert 1 8192 g (corrY 23456 c 408 0 0) = (0x4DA5, 0) ∧ convert 2 8192 g (corrY 23456 c 408 0 0) = (0x423B91F3, 0) := by
  decide +kernel

/-- 08: full-scale code at maximum gain, and the opposite corner. -/
theorem test_full_scale : convert 0 8192 {} (corrY 65535 ⟨0, 0, 0, 65535, 0⟩ 0 0 0) = (0xFFFF, 1) ∧
    convert 0 8192 {} (corrY 0 ⟨32767, 0, 0, 65535, 0⟩ 0 0 0) = (0, -1) := by decide +kernel

/-- 07: one pixel on VC05. -/
theorem test_halftrim_pixel : halfTrim ⟨96, -1049, 2097⟩ none [(false, 20000), (true, 20115), (false, 20180)] = [320000, 321416, 322880] ∧
    pixelCode 2 [320000, 321416] = 20044 := by decide +kernel

/-- 06: the boundary of k + 3 stretched to 475,254; program 0 has E = L = 1,310,720 and GUARD = 1,280. -/
def amberProg : Mem :=
  file [(0x1D, [1]), (0x20, [1]), (320, entry 3 0 512 96), (512, leBytes 4 0x50475054 ++ [0, 1, 8, 0, 4, 0, 2, 0xFF]), (536, leBytes 4 1280),
    (544, pstep 1024 1 0 ++ pstep 1280 0 0 ++ pstep 0 2 0 ++ pstep 0 3 0 ++ pstep 1024 1 0 ++ pstep 1280 0 3 ++ pstep 0 2 0 ++ pstep 0 3 0)]

theorem test_stretch : patgenOk amberProg 0 = true ∧ rLen amberProg 0 = 1310720 ∧
    stretchTo amberProg ⟨0, 1280000, 83333, 0, [], 0, 0⟩ ⟨0, 320000, 83333, 0, [], 0, 0⟩ (16 * 333334) = 16 * 475254 := by decide +kernel

/-- 02: predicted slacks from completions at Tier 1. -/
theorem test_slack_below :
    let s := st [(GOV_DEADLINE.DL, 10000), (GOV_WORK_0.W, 620000), (GOV_WORK_1.W, 540000), (GOV_FIXED.F, 100)]
    s.slackBelow 1 7660 = some 1220 ∧ s.slackBelow 1 6580 = some 2460 ∧ s.slackBelow 1 6526 = some 2522 ∧
    s.predSlack 0 (1190, 1) = 2522 := by decide +kernel

/-- 11: the strip coefficients of a line tile, and SHADING. -/
theorem test_strip_pixel : onePoint 56 851900 ⟨15020, 1536, 0, 16794, 0⟩ 256 = 15206 ∧
    refValue 8192 (17197056, 2 ^ 25) = 2097283 ∧ refValue 8192 (300473 * 17197056, 2 ^ 28) = 7025027 ∧
    shadeRaw 8192 32768 17834 2097283 7025027 = 24605 := by decide +kernel

/-- 14: TEMPAVG's outputs. -/
theorem test_tempavg : [[16781], [16781, 16795], [16781, 16795, 16784], [16781, 16795, 16784, 16792]].map (meanOut 0) =
    [16781, 16788, 16787, 16788] := by decide +kernel

/-- 15: VALUE and the temperature of input 2. -/
theorem test_monitor_value : corrCode 188312 4 37 32801 0 32768 = 47116 ∧ entTime (0x430202, 40) = 736 ∧
    (ptTemp (ohms 47116 3)).map (fun t => qRhe (qMul (64, 1) (qAdd t (27315, 100)))) = some 19511 := by decide +kernel

/-- 12: the nearly collinear system ends NOT_PD with PIVOT_TINY, and completes with τ = 0 (the ratio that the example
gives for the first is that of the second; R344 counts accepted pivots, log entry 74). -/
theorem test_collinear :
    let a := [0x3F800000, 0x3F800800, 0x3F800800, 0x3F801001]
    let o := cholJob { tau := 0x35800000 } 2 a [0x3F800000, 0x3F800000] none none
    o.status = 1 ∧ o.flags = 0x20 ∧
    (cholJob { tau := 0 } 2 a [0x3F800000, 0x3F800000] none none).ratio = 0x33800000 := by decide +kernel

/-- R69: the check value of CRC-32. -/
theorem test_crc : crc32 [0x31, 0x32, 0x33, 0x34, 0x35, 0x36, 0x37, 0x38, 0x39] = 0xCBF43926 := by decide +kernel

/-- RFC 8032, TEST 1 of section 7.1: SHA-512 of the empty message begins so (FIPS 180-4). -/
theorem test_sha512 : (sha512 []).take 4 = [0xCF, 0x83, 0xE1, 0x35] := by decide +kernel

/-! ### A term for each check of WellFormed that it refuses -/

theorem test_wf_word : (Instr.registerWrite 0 0 0 (2 ^ 32)).wf = false := by decide
theorem test_wf_address : (Instr.registerWrite 0 0 (2 ^ 32) 0).wf = false := by decide
theorem test_wf_slot : (Instr.imgVerify 0 0 8 0).wf = false := by decide
theorem test_wf_position : (Instr.baseSetCopyDone 0 [8]).wf = false := by decide
theorem test_wf_firmware : (Instr.wardenFwCheckDone 0 true { iface := [] }).wf = false := by decide
theorem test_wf_carrier : (Instr.discoveryDone 0 { rev := 2 ^ 16 } (List.replicate 8 {})).wf = false := by decide
theorem test_wf_tiles : (Instr.discoveryDone 0 {} []).wf = false := by decide
theorem test_wf_samples : (Instr.readTrackEnd 0 [{ tile := 0, row := 0, col := 0, a := [2 ^ 16], b := [] }]).wf = false := by decide
theorem test_wf_shadow : (Instr.spareShadowDone 0 [{ tile := 0, row := 0, col := 0, a := [], b := [] }] []).wf = false := by decide
theorem test_wf_packet : (Instr.tmpRead 0 { srcIp := 2 ^ 32, srcPort := 0 }).wf = false := by decide
theorem test_wf_trim : (Instr.spareTrimDone 0 [⟨4, false, 0, 0, 0, 0, 0, 0, 0, 0, 0⟩]).wf = false := by decide

end Sys2Proof.Tests
end

/-! ### Writes by the host, and the commit of a set of exposure settings (R151, R170, R172, R177) -/

namespace Sys2Proof.Machine

@[simp] theorem State.takes_at (s : State) (n addr : Nat) : (s.at n).takes addr = s.takes addr := rfl

/-- A write that reaches its register and succeeds leaves no refusal behind. -/
theorem State.hostWrite_of_ok {s t : State} {addr : Nat} {f : State → State × WRes}
    (htakes : s.takes addr = true) (hok : f s = (t, .ok)) : s.hostWrite addr f = t := by
  rw [State.hostWrite, if_pos htakes, hok]
  rfl

@[simp] theorem State.shadowSet_at (s : State) (n : Nat) : (s.at n).shadowSet = s.shadowSet := rfl

/-- A write of FPL_EPOCH that names another epoch than the committed one and that R177 lets pass commits the shadow set. -/
theorem epochCommit_of_epochRefuse_eq_zero {v : Nat} {s : State}
    (hnew : v % 2 ^ 16 ≠ s.get FPL_EPOCH_STATE.COMMITTED) (hpass : s.epochRefuse (v % 2 ^ 16) = 0) :
    epochCommit v s = (s.commitSet s.shadowSet, .ok) := by
  rw [epochCommit, if_neg hnew, if_pos hpass]

/-- The same as a command: the commit happens at its instant. -/
theorem exec_epochCommit_of_epochRefuse_eq_zero {n v : Nat} {s : State} (htakes : s.takes 0x40000 = true)
    (hnew : v % 2 ^ 16 ≠ s.get FPL_EPOCH_STATE.COMMITTED) (hpass : (s.at n).epochRefuse (v % 2 ^ 16) = 0) :
    exec (.epochCommit n v) s = .next ((s.at n).commitSet s.shadowSet) :=
  have hcommit : (s.at n).hostWrite 0x40000 (epochCommit v) = (s.at n).commitSet s.shadowSet :=
    State.hostWrite_of_ok htakes (epochCommit_of_epochRefuse_eq_zero (s := s.at n) hnew hpass)
  congrArg Host.Outcome.next hcommit

@[simp] theorem State.commitSet_fpl (s : State) (v : Settings) :
    (s.commitSet v).fpl = { s.fpl with pending := some v, commitAt := s.tick } := by
  unfold State.commitSet
  split <;> rfl

@[simp] theorem State.commitSet_get_committed (s : State) (v : Settings) :
    (s.commitSet v).get FPL_EPOCH_STATE.COMMITTED =
      (s.get FPL_EPOCH_STATE.COMMITTED + 1) % 2 ^ FPL_EPOCH_STATE.COMMITTED.width := by
  unfold State.commitSet
  split <;> simp (disch := decide)

@[simp] theorem State.commitSet_get_pending (s : State) (v : Settings) : (s.commitSet v).get FPL_EPOCH_STATE.PENDING = 1 := by
  unfold State.commitSet
  split <;> simp (disch := decide)

/-- A commit over a pending set counts the supersession (R172). -/
theorem State.commitSet_get_supersedeCount {s : State} {o : Settings} (hpending : s.fpl.pending = some o) (v : Settings) :
    (s.commitSet v).get FPL_SUPERSEDE_COUNT.COUNT =
      (s.get FPL_SUPERSEDE_COUNT.COUNT + 1) % 2 ^ FPL_SUPERSEDE_COUNT.COUNT.width := by
  simp (disch := decide) [State.commitSet, hpending]

/-- A commit over a pending set shows the supersession (R172). -/
theorem State.commitSet_get_superseded {s : State} {o : Settings} (hpending : s.fpl.pending = some o) (v : Settings) :
    (s.commitSet v).get FPL_EVENTS.SUPERSEDED = 1 := by
  simp (disch := decide) [State.commitSet, hpending]

/-- Settles O24: the command is `State.commitSet` of the shadow set at its instant, and what that leaves is read off component by
component. -/
theorem pendingSetSuperseded : Obligations.PendingSetSuperseded := by
  intro n v o s hnew hpass hpending htakes
  exact ⟨_, exec_epochCommit_of_epochRefuse_eq_zero htakes hnew hpass,
    congrArg (·.pending) (State.commitSet_fpl ..),
    State.commitSet_get_supersedeCount (s := s.at n) hpending _,
    State.commitSet_get_superseded (s := s.at n) hpending _,
    State.commitSet_get_committed .., State.commitSet_get_pending ..⟩

end Sys2Proof.Machine

/-! ### The refusal of a write, and the buffer flushed (R444, R445, R470) -/

namespace Sys2Proof.Machine

/-! What a command changes of the register file, one write at a time. -/

theorem onlyFields.refl (fs : List Fld) (s : State) : onlyFields fs s s := fun _ _ => rfl

/-- Only the register file decides which fields have changed. -/
theorem onlyFields.of_regs_eq {fs : List Fld} {s t u : State} (hchanged : onlyFields fs s t) (hregs : u.regs = t.regs) :
    onlyFields fs s u :=
  fun f hf => (State.get_congr hregs f).trans (hchanged f hf)

/-- A write of a listed field leaves the others. -/
theorem onlyFields.set {fs : List Fld} {s t : State} (hchanged : onlyFields fs s t) {f : Fld} (v : Nat)
    (hlisted : f.key ∈ fs.map Fld.key) : onlyFields fs s (t.set f v) := by
  intro g hg
  have hne : g.key ≠ f.key := fun heq => hg (heq ▸ hlisted)
  rw [State.get_set_ne _ _ hne, hchanged g hg]

theorem onlyFields.trans {fs : List Fld} {s t u : State} (hst : onlyFields fs s t) (htu : onlyFields fs t u) :
    onlyFields fs s u :=
  fun f hf => (htu f hf).trans (hst f hf)

theorem onlyFields.mono {fs gs : List Fld} {s t : State} (hchanged : onlyFields fs s t)
    (hsub : fs.map Fld.key ⊆ gs.map Fld.key) : onlyFields gs s t :=
  fun f hf => hchanged f fun hmem => hf (hsub hmem)

/-! The refusal of a write is recorded and does nothing else (R470). -/

/-- A write that reaches its register and is refused there is the newest refusal, that of a WRITE. -/
theorem State.hostWrite_of_refuse {s t : State} {addr status reason : Nat} {f : State → State × WRes}
    (htakes : s.takes addr = true) (hrefused : f s = (t, .refuse status reason)) :
    s.hostWrite addr f = t.noteRefuse 5 addr status reason := by
  rw [State.hostWrite, if_pos htakes, hrefused]
  rfl

@[simp] theorem State.noteRefuse_prt (s : State) (op addr status reason : Nat) :
    (s.noteRefuse op addr status reason).prt = s.prt := rfl

@[simp] theorem State.noteRefuse_get_status (s : State) (op addr status reason : Nat) :
    (s.noteRefuse op addr status reason).get ENG_LAST_REFUSE.STATUS = status % 2 ^ ENG_LAST_REFUSE.STATUS.width := by
  rw [State.noteRefuse, State.get_set_ne _ _ (by decide), State.get_set_ne _ _ (by decide), State.get_set_self]

@[simp] theorem State.noteRefuse_get_reason (s : State) (op addr status reason : Nat) :
    (s.noteRefuse op addr status reason).get ENG_LAST_REFUSE.REASON = reason % 2 ^ ENG_LAST_REFUSE.REASON.width := by
  rw [State.noteRefuse, State.get_set_ne _ _ (by decide), State.get_set_ne _ _ (by decide), State.get_set_ne _ _ (by decide),
    State.get_set_self]

theorem State.noteRefuse_onlyFields (s : State) (op addr status reason : Nat) :
    onlyFields [ENG_LAST_REFUSE.REASON, ENG_LAST_REFUSE.STATUS, ENG_LAST_REFUSE.OP, ENG_LAST_REFUSE_ADDR.ADDR] s
      (s.noteRefuse op addr status reason) :=
  ((((onlyFields.refl _ s).set reason (by decide)).set status (by decide)).set op (by decide)).set addr (by decide)

/-- At the command's instant a refusal differs from the state before in its registers and the instants alone. -/
theorem State.noteRefuse_at_onlyRegs (s : State) (n op addr status reason : Nat) :
    onlyRegs s ((s.at n).noteRefuse op addr status reason) := rfl

/-! Entries that leave the buffer (R443, R444). -/

/-- The end of a capture is told by registers. -/
@[simp] theorem State.drainDone_prt (s : State) : s.drainDone.prt = s.prt := by
  unfold State.drainDone
  split <;> rfl

@[simp] theorem State.drainDone_sys (s : State) : s.drainDone.sys = s.sys := by
  unfold State.drainDone
  split <;> rfl

@[simp] theorem State.drainDone_nv (s : State) : s.drainDone.nv = s.nv := by
  unfold State.drainDone
  split <;> rfl

theorem State.drainDone_onlyFields (s : State) : onlyFields [PRT_BB_STATE.CAP, PRT_EVENTS.DRAIN_DONE] s s.drainDone := by
  unfold State.drainDone
  split
  · exact ((onlyFields.refl _ s).set 0 (by decide)).set 1 (by decide)
  · exact onlyFields.refl _ s

@[simp] theorem State.bbRemove_prt (s : State) (p : Entry → Bool) :
    (s.bbRemove p).prt = { s.prt with entries := s.prt.entries.filter fun e => !p e } :=
  State.drainDone_prt _

@[simp] theorem State.bbRemove_sys (s : State) (p : Entry → Bool) : (s.bbRemove p).sys = s.sys := State.drainDone_sys _

@[simp] theorem State.bbRemove_nv (s : State) (p : Entry → Bool) : (s.bbRemove p).nv = s.nv := State.drainDone_nv _

/-- PRT_BB_STATE.ENTRIES shows what is left. -/
@[simp] theorem State.bbRemove_get_entries (s : State) (p : Entry → Bool) :
    (s.bbRemove p).get PRT_BB_STATE.ENTRIES =
      (s.prt.entries.filter fun e => !p e).length % 2 ^ PRT_BB_STATE.ENTRIES.width :=
  (State.drainDone_onlyFields _ _ (by decide)).trans (State.get_set_self ..)

/-- Entries that leave the buffer write the registers of `bufferFields` at most. -/
theorem State.bbRemove_onlyFields (s : State) (p : Entry → Bool) : onlyFields bufferFields s (s.bbRemove p) := by
  have hfree : onlyFields bufferFields s (s.add PRT_BB_FREE.PAGES ((s.prt.entries.filter p).map (·.pages)).sum) :=
    (onlyFields.refl _ s).set _ (by decide)
  exact ((hfree.of_regs_eq rfl).set (f := PRT_BB_STATE.ENTRIES) _ (by decide)).trans
    ((State.drainDone_onlyFields _).mono (by decide))

/-! The whole buffer discarded (R142, R445). -/

/-- A channel that restarts (log 1617) stands at the head of the next entry admitted. -/
theorem ChanS.restart_at_head (c : ChanS) : c.restart.cur = none ∧ c.restart.idx = 0 ∧ c.restart.pkt = 0 := ⟨rfl, rfl, rfl⟩

/-- What the discard counts: the entries whose shares are not all finished. -/
@[simp] theorem State.bbDiscard_snd (s : State) :
    s.bbDiscard.2 = (s.prt.entries.filter fun e => !e.shares.isEmpty || !e.complete).length := rfl

/-- No entry stays when every entry leaves. -/
theorem filter_not_true_eq_nil (entries : List Entry) : (entries.filter fun _ => !true) = [] :=
  List.filter_eq_nil_iff.2 fun _ _ => Bool.false_ne_true

@[simp] theorem State.bbDiscard_prt (s : State) :
    s.bbDiscard.1.prt = { s.prt with entries := [], chans := s.prt.chans.map ChanS.restart } := by
  rw [State.bbDiscard, State.bbRemove_prt, filter_not_true_eq_nil]

@[simp] theorem State.bbDiscard_sys (s : State) : s.bbDiscard.1.sys = s.sys := State.bbRemove_sys _ _

@[simp] theorem State.bbDiscard_nv (s : State) : s.bbDiscard.1.nv = s.nv := State.bbRemove_nv _ _

@[simp] theorem State.bbDiscard_get_entries (s : State) : s.bbDiscard.1.get PRT_BB_STATE.ENTRIES = 0 := by
  rw [State.bbDiscard, State.bbRemove_get_entries, filter_not_true_eq_nil, List.length_nil, Nat.zero_mod]

theorem State.bbDiscard_onlyFields (s : State) : onlyFields bufferFields s s.bbDiscard.1 :=
  State.bbRemove_onlyFields { s with prt.chans := s.prt.chans.map ChanS.restart } _

/-! FLUSH (R445). -/

/-- Outside RUN the command is the discard, and its count added to PRT_BB_FLUSH_COUNT. -/
theorem exec_bbFlush_of_not_run {n : Nat} {s : State} (htakes : s.takes 0xC0008 = true) (hrun : s.sys.run = false) :
    exec (.bbFlush n) s = .next ((s.at n).bbDiscard.1.add PRT_BB_FLUSH_COUNT.COUNT (s.at n).bbDiscard.2) :=
  have hok : bbFlush (s.at n) = ((s.at n).bbDiscard.1.add PRT_BB_FLUSH_COUNT.COUNT (s.at n).bbDiscard.2, .ok) := by
    rw [bbFlush, State.at_sys, hrun, if_neg Bool.false_ne_true]
  congrArg Host.Outcome.next (State.hostWrite_of_ok (s := s.at n) htakes hok)

/-- In RUN it is refused with the access error and REASON IN_RUN. -/
theorem exec_bbFlush_of_run {n : Nat} {s : State} (htakes : s.takes 0xC0008 = true) (hrun : s.sys.run = true) :
    exec (.bbFlush n) s = .next ((s.at n).noteRefuse 5 0xC0008 1 0x0C) :=
  have hrefused : bbFlush (s.at n) = (s.at n, .refuse 1 0x0C) := by rw [bbFlush, State.at_sys, hrun, if_pos rfl]
  congrArg Host.Outcome.next (State.hostWrite_of_refuse (s := s.at n) htakes hrefused)

/-- The count of entries discarded is added to what PRT_BB_FLUSH_COUNT held: the discard itself leaves that register. -/
theorem State.flushed_get_flushCount (s : State) :
    (s.bbDiscard.1.add PRT_BB_FLUSH_COUNT.COUNT s.bbDiscard.2).get PRT_BB_FLUSH_COUNT.COUNT =
      (s.get PRT_BB_FLUSH_COUNT.COUNT +
        (s.prt.entries.filter fun e => !e.shares.isEmpty || !e.complete).length) % 2 ^ PRT_BB_FLUSH_COUNT.COUNT.width := by
  rw [State.add_eq, State.get_set_self, State.bbDiscard_onlyFields s _ (by decide), State.bbDiscard_snd]

/-- Settles O48: outside RUN by the laws of the discard (`State.bbDiscard`), in RUN by those of a refusal (`State.noteRefuse`). -/
theorem flushDiscards : Obligations.FlushDiscards := by
  refine ⟨fun n s htakes hrun => ?outsideRun, fun n s htakes hrun => ?inRun⟩
  case outsideRun =>
    have hprt : ((s.at n).bbDiscard.1.add PRT_BB_FLUSH_COUNT.COUNT (s.at n).bbDiscard.2).prt =
        { s.prt with entries := [], chans := s.prt.chans.map ChanS.restart } := State.bbDiscard_prt _
    have hchans := congrArg PrtS.chans hprt
    refine ⟨_, exec_bbFlush_of_not_run htakes hrun, congrArg PrtS.entries hprt, State.flushed_get_flushCount _, hchans,
      fun q hq => ?restarted, ?entries, ?fields, State.bbDiscard_sys _, State.bbDiscard_nv _⟩
    case restarted =>
      obtain ⟨c, -, rfl⟩ := List.mem_map.1 (hchans ▸ hq)
      exact c.restart_at_head
    case entries => exact (State.get_set_ne _ _ (by decide)).trans (State.bbDiscard_get_entries _)
    case fields =>
      have hdiscard : onlyFields bufferFields s (s.at n).bbDiscard.1 := State.bbDiscard_onlyFields _
      exact (hdiscard.mono (by decide)).set _ (by decide)
  case inRun =>
    exact ⟨_, exec_bbFlush_of_run htakes hrun, State.noteRefuse_get_status .., State.noteRefuse_get_reason ..,
      State.noteRefuse_prt .., State.noteRefuse_onlyFields (s.at n) _ _ _ _, State.noteRefuse_at_onlyRegs ..⟩

end Sys2Proof.Machine

/-! ### IDCODE at the test port (R545, R546) -/

namespace Sys2Proof.Machine

/-! The test logic while VREF_T stands (R545). -/

theorem State.tapSelect_of_vrefT {s : State} (hvref : s.img.vrefT = true) (opcode : Nat) :
    s.tapSelect opcode = { s with img.instr := opcode, img.extest := opcode == 0 } :=
  if_pos hvref

theorem State.scanOut_of_vrefT {s : State} (hvref : s.img.vrefT = true) (reg : String) (v : Nat) :
    s.scanOut reg v = s.emit (.scan reg v) :=
  if_pos hvref

/-- While VREF_T stands the command selects IDCODE, and the stepping's word is shifted out. -/
theorem idcode_of_vrefT {s : State} (hvref : s.img.vrefT = true) :
    idcode s = { s with img.instr := 2, img.extest := false }.emit (.scan "IDCODE" (idcodeOf Config.stepping)) := by
  rw [idcode, State.tapSelect_of_vrefT hvref, State.scanOut_of_vrefT (by exact hvref)]
  rfl

theorem exec_idcode_of_vrefT {s : State} (hvref : s.img.vrefT = true) (n : Nat) :
    exec (.idcode n) s =
      .next ({ s.at n with img.instr := 2, img.extest := false }.emit (.scan "IDCODE" (idcodeOf Config.stepping))) :=
  congrArg Host.Outcome.next (idcode_of_vrefT (s := s.at n) hvref)

/-! The fields of the IDCODE word, for every stepping code (R546). -/

theorem idcodeOf_mod_two (stepping : Nat) : idcodeOf stepping % 2 = 1 := by
  unfold idcodeOf
  omega

theorem bits_idcodeOf_manufacturer (stepping : Nat) : bits (idcodeOf stepping) 1 11 = 0x279 := by
  unfold bits idcodeOf
  omega

theorem bits_idcodeOf_part (stepping : Nat) : bits (idcodeOf stepping) 12 16 = 0x5320 := by
  unfold bits idcodeOf
  omega

theorem bits_idcodeOf_version (stepping : Nat) : bits (idcodeOf stepping) 28 4 = stepping % 16 := by
  unfold bits idcodeOf
  omega

theorem idcodeOf_lt (stepping : Nat) : idcodeOf stepping < 2 ^ 32 := by
  unfold idcodeOf
  omega

/-- Settles O16: what the command does is `exec_idcode_of_vrefT`; the word's fields hold for every stepping code. -/
theorem idcodeReads : Obligations.IdcodeReads := by
  refine ⟨fun n s hvref => ?shifted, ?steppingOne⟩
  case shifted =>
    exact ⟨_, idcodeOf Config.stepping, exec_idcode_of_vrefT hvref n, State.emit_out _ _, idcodeOf_mod_two _,
      bits_idcodeOf_manufacturer _, bits_idcodeOf_part _, bits_idcodeOf_version _, idcodeOf_lt _, rfl, rfl⟩
  case steppingOne => rfl

end Sys2Proof.Machine
